-- ==== Sys2Proof/Word.lean ====
section
/-! DEFINITION. The plainest data of the ZSB-8 model: bytes and words, the numbered things of the cabinet
(slots, sources, chutes, inputs) and the fixed-size tables the blocks keep their records in. -/

namespace Sys2Proof

/-- One byte of the cabinet link, of a retained record or of a colour channel. -/
abbrev Byte := BitVec 8

/-- A 16-bit word: an adapter cell (R42), a signature (R104), a buffer sequence number (R101). -/
abbrev Word16 := BitVec 16

/-- A 32-bit count: a coin total (R163) or a statistics counter (R176). -/
abbrev Word32 := BitVec 32

/-- A slot 1 to 8, kept as 0 to 7. "Slot 0" of the manual (standby) is `none : Option Slot`. -/
abbrev Slot := Fin 8

/-- A monitored video source: slots 1 to 8 as 0 to 7, and source M (number 9) as 8 (R56). -/
abbrev Source := Fin 9

/-- A chute 1 to 4, kept as 0 to 3. -/
abbrev Chute := Fin 4

/-- A coin meter 1 to 4, kept as 0 to 3. -/
abbrev Meter := Fin 4

/-- A board coin line 1 to 4, kept as 0 to 3. -/
abbrev CoinLine := Fin 4

/-- A player 1 to 4, kept as 0 to 3. -/
abbrev Player := Fin 4

/-- A cabinet input, numbered 0 to 59 as in the map entry layout of the link chapter. -/
abbrev Input := Fin 60

/-- A harness line 0 to 54; inputs 0 to 54 share the numbering (R144). -/
abbrev Line := Fin 55

/-- A statistics counter 0 to 66 (R176). -/
abbrev CounterId := Fin 67

/-- A section of the profile store: 0 is the cabinet settings, `1 + 5 * n + k` is section `k` of the slot kept as `n`. -/
abbrev SectionId := Fin 41

/-- One video sample: three channels of 8 bits (R100). -/
structure RGB where
  r : Byte
  g : Byte
  b : Byte
  deriving DecidableEq, Repr, Inhabited

/-- Value 0 in all three channels: a black or border sample (R105, R121). -/
abbrev RGB.black : RGB := ⟨0, 0, 0⟩

/-- A table of `n` entries of one kind. -/
abbrev Tab (α : Type) (n : Nat) := Vector α n

/-- Entry `i` of a table. -/
abbrev Tab.at {α : Type} {n : Nat} (v : Tab α n) (i : Fin n) : α := v.get i

/-- The table with entry `i` replaced. -/
abbrev Tab.put {α : Type} {n : Nat} (v : Tab α n) (i : Fin n) (x : α) : Tab α n := v.set i.val x i.isLt

/-- The table all of whose entries are `x`. -/
abbrev Tab.all {α : Type} (n : Nat) (x : α) : Tab α n := Vector.replicate n x

/-- The source number of a slot's own monitor (R56). -/
abbrev Slot.source (n : Slot) : Source := ⟨n.val, by omega⟩

/-- Source M, the menu input. -/
abbrev sourceM : Source := 8

end Sys2Proof
end

