-- ==== Sys2Proof/Syntax.lean ====
section
/-! DEFINITION. The commands the part takes: one constructor for each row of spec/opcode_table.json.
A row that is a request carries the frame's TAG and payload. A row that is an event on a pin, a line or the bus
carries what arrives. `dt` is the time since the command before it, in ticks of the 27 MHz reference; a timer
expiry carries none, since it is taken at the timer's own expiry (log 5). -/

namespace Sys2Proof

/-- One character of the cabinet link, whole or in error (R1). -/
inductive LineChar where
  | whole (b : Byte)
  | inError
  deriving DecidableEq, Repr

/-- An adapter's answer to a slot bus transaction (R42, R44).
`good own`: good parity; `own`, when present, is a value the adapter had itself put in the cell being read (log 12).
`badParity received`: bad parity; `received` says whether the adapter had received the transaction whole (R42). -/
inductive BusAnswer where
  | good (own : Option Word16)
  | badParity (received : Bool)
  deriving DecidableEq, Repr

/-- The commands. Constructors stand in the order of spec/opcode_table.json. -/
inductive Instr where
  -- the cabinet link
  | characterReceived (dt : Nat) (c : LineChar)
  | gapTimeout
  | frameSent (dt : Nat)
  | unknownKind (dt : Nat) (kind tag : Byte) (payload : List Byte)
  -- requests
  | ident (dt : Nat) (tag : Byte) (payload : List Byte)
  | state (dt : Nat) (tag : Byte) (payload : List Byte)
  | slotInfo (dt : Nat) (tag : Byte) (payload : List Byte)
  | slotPowerOn (dt : Nat) (tag : Byte) (payload : List Byte)
  | slotPowerOff (dt : Nat) (tag : Byte) (payload : List Byte)
  | slotRestart (dt : Nat) (tag : Byte) (payload : List Byte)
  | select (dt : Nat) (tag : Byte) (payload : List Byte)
  | abort (dt : Nat) (tag : Byte) (payload : List Byte)
  | timing (dt : Nat) (tag : Byte) (payload : List Byte)
  | profileGet (dt : Nat) (tag : Byte) (payload : List Byte)
  | profilePut (dt : Nat) (tag : Byte) (payload : List Byte)
  | cabinetGet (dt : Nat) (tag : Byte) (payload : List Byte)
  | cabinetPut (dt : Nat) (tag : Byte) (payload : List Byte)
  /-- `answers`: whether the profile store answers its presence check (R185). -/
  | storeSave (dt : Nat) (tag : Byte) (payload : List Byte) (answers : Bool)
  /-- `answers`: whether the profile store answers its presence check (R186). -/
  | storeLoad (dt : Nat) (tag : Byte) (payload : List Byte) (answers : Bool)
  | controlsTake (dt : Nat) (tag : Byte) (payload : List Byte)
  | controlsGive (dt : Nat) (tag : Byte) (payload : List Byte)
  | coinState (dt : Nat) (tag : Byte) (payload : List Byte)
  | coinDeliver (dt : Nat) (tag : Byte) (payload : List Byte)
  | coinDrain (dt : Nat) (tag : Byte) (payload : List Byte)
  | coinLock (dt : Nat) (tag : Byte) (payload : List Byte)
  | coinTotalsClear (dt : Nat) (tag : Byte) (payload : List Byte)
  | countersRead (dt : Nat) (tag : Byte) (payload : List Byte)
  | countersMode (dt : Nat) (tag : Byte) (payload : List Byte)
  | adapterRead (dt : Nat) (tag : Byte) (payload : List Byte)
  | adapterWrite (dt : Nat) (tag : Byte) (payload : List Byte)
  | noticeMask (dt : Nat) (tag : Byte) (payload : List Byte)
  | restart (dt : Nat) (tag : Byte) (payload : List Byte)
  | overlay (dt : Nat) (tag : Byte) (payload : List Byte)
  -- resets and power
  | restartEffect (dt : Nat)
  /-- `retainedGood`: whether retained memory passes its test (R187). -/
  | powerUpReset (dt : Nat) (retainedGood : Bool)
  | powerLoss (dt : Nat)
  -- slots and the slot bus
  | powerGoodRise (dt : Nat) (n : Slot)
  | powerGoodFall (dt : Nat) (n : Slot)
  | powerGoodWindowExpiry (n : Slot)
  | bootWindowExpiry (n : Slot)
  | transactionAnswered (a : BusAnswer)
  /-- `received`: whether the adapter carried the transaction out although no answer came (R42, R44). -/
  | answerWindowExpiry (received : Bool)
  | pollTimerExpiry
  -- sync monitors
  | verticalSync (dt : Nat) (src : Source)
  /-- `video`: the source's video signal on the line this sync begins, as the changes of its level: the moment of each,
  in 1,024ths of a tick after the sync, and the level it changes to (R105; log 14). -/
  | lineSync (dt : Nat) (src : Source) (video : List (Nat × RGB))
  | fieldTimeout (src : Source)
  | syncTimerExpiry (src : Source)
  -- changeover
  | lockLimitExpiry
  | recoveryWatchExpiry
  -- output, picture and sound
  | outputFieldStart
  | settleExpiry
  | audioFadeStep
  | stillTimerExpiry
  -- control routing
  /-- `closed`: the switch's new raw level (R142). -/
  | rawInputChange (dt : Nat) (i : Input) (closed : Bool)
  | debounceExpiry (i : Input)
  | chordTimerExpiry
  | playTimerExpiry
  -- coins and meters
  | jamTimerExpiry (c : Chute)
  | pulseOnExpiry (n : Slot)
  | pulseGapExpiry (n : Slot)
  | meterOnExpiry (m : Meter)
  | meterOffExpiry (m : Meter)
  -- profile store
  /-- `failed`: the sections that did not verify (R185). -/
  | storeSaveEnd (dt : Nat) (failed : List SectionId)
  /-- `answers`: whether the store answered; `failed`: the sections whose check fails when read (R186). -/
  | profileLoadEnd (dt : Nat) (answers : Bool) (failed : List SectionId)
  /-- `own`: the contents the adapter itself gives its cells (board kind, revision, status, options; R43). -/
  | adapterPluggedIn (dt : Nat) (n : Slot) (own : List (Fin 256 × Word16))
  deriving DecidableEq, Repr

end Sys2Proof
end

