-- ==== Sys2Proof/Config.lean ====
section
/-! DEFINITION. What the manual fixes as a constant of the part, and what it leaves open: each open value is
an OPAQUE constant, which nothing in Lean can evaluate or prove a value of. -/

namespace Sys2Proof.Config

/-- Ticks of the 27 MHz reference in one millisecond (00_scope, Terms: a tick is 1/27 µs). -/
abbrev ticksPerMs : Nat := 27000

/-- FREE VALUE (log 1): the firmware revision's major number, which R14 carries and no rule states. -/
opaque firmwareMajor : Byte

/-- FREE VALUE (log 1): the firmware revision's minor number. -/
opaque firmwareMinor : Byte

/-- FREE VALUE (log 2): how far an abandoned store write had come (R185): the number of sections already
written, read modulo 42 at a fresh index of the state's free-value counter. -/
opaque sectionsWritten : Nat → Nat

/-- FREE VALUE (log 3): whether a section that did not verify at the end of a save (R185) still passes its
check at the next load. -/
opaque unverifiedPasses : Nat → Bool

/-- FREE VALUE (log 4): the sample shown at a position the latched window holds and the shown buffer, captured
under an earlier window, does not (R121, R122 state none). -/
opaque uncapturedSample : Nat → Nat → RGB

end Sys2Proof.Config
end

