-- ==== Sys2Proof/Machine/Profile.lean ====
section
/-! DEFINITION. The working settings: the five sections of a slot profile (R182), the cabinet settings (R183),
their factory defaults, and the profile store's copy of them (R185, R186). -/

namespace Sys2Proof.Machine

/-- A line-rate class an output can run at (R114). -/
inductive OutClass where
  | low | medium | high
  deriving DecidableEq, Repr

/-- What a slot does while not selected (00_scope, Terms; R33). -/
inductive StandingMode where
  | run | freeze | hold | off
  deriving DecidableEq, Repr

/-- The GENERAL section (R182). -/
structure General where
  /-- expected board kind; 0 means any -/
  expectedKind : Nat
  /-- expected class; `none` is ANY -/
  expectedClass : Option OutClass
  standing : StandingMode
  bootTime : Nat
  lockLimit : Nat
  recoveryLimit : Nat
  resumeCheck : Bool
  autoPower : Bool
  /-- active level of each harness line: `true` is high -/
  lineHigh : Tab Bool 55
  fourWay : Tab Bool 4
  deriving DecidableEq, Repr

/-- The capture window (R102). -/
structure Window where
  samplesPerLine : Nat
  firstLine : Nat
  activeLines : Nat
  firstSample : Nat
  activeSamples : Nat
  deriving DecidableEq, Repr

/-- One row of the colour matrix with its offset (R126). -/
structure MatrixRow where
  cr : Int
  cg : Int
  cb : Int
  offset : Int
  deriving DecidableEq, Repr

/-- A slot's colour settings (R124). -/
structure Colours where
  rowR : MatrixRow
  rowG : MatrixRow
  rowB : MatrixRow
  /-- gamma points P0 to P8 -/
  gamma : Tab Nat 9
  deriving DecidableEq, Repr

/-- The PICTURE section. -/
structure Picture where
  colours : Colours
  window : Window
  /-- pacing preference: `true` is FOLLOW -/
  follow : Bool
  deriving DecidableEq, Repr

/-- A map entry: a source input, a target line and an invert flag. -/
structure MapEntry where
  source : Line
  target : Line
  invert : Bool
  deriving DecidableEq, Repr

/-- The CONTROLS section: four pages of 0 to 16 map entries. -/
abbrev Controls := Tab (List MapEntry) 4

/-- The COINS section. -/
structure CoinSettings where
  /-- coin path: `true` is DIRECT, `false` BANKED -/
  direct : Bool
  chuteMap : Tab (Option CoinLine) 4
  pulseOn : Nat
  pulseGap : Nat
  /-- active level of each board coin line: `true` is high -/
  lineHigh : Tab Bool 4
  deriving DecidableEq, Repr

/-- The DIPS section. -/
structure Dips where
  apply : Bool
  banks : Tab Byte 4
  deriving DecidableEq, Repr

/-- A slot profile: five sections (R182). -/
structure SlotProfile where
  general : General
  picture : Picture
  controls : Controls
  coins : CoinSettings
  dips : Dips
  deriving DecidableEq, Repr

/-- The cabinet settings (R183). -/
structure Cabinet where
  multisync : Bool
  homeClass : OutClass
  followMin : Nat
  followMax : Nat
  settleTime : Nat
  /-- transition style: `true` is HOLD, `false` FADE -/
  holdStyle : Bool
  videoFade : Nat
  audioFade : Nat
  /-- fallback: `true` is RETURN, `false` STANDBY -/
  fallbackReturn : Bool
  debounce : Nat
  chord : Option (Line × Line)
  chordTime : Nat
  stillLimit : Nat
  dimLevel : Nat
  standbyColour : RGB
  duckLevel : Nat
  menuAudio : Nat
  chuteValue : Tab Nat 4
  chuteMin : Tab Nat 4
  chuteMax : Tab Nat 4
  chuteMeter : Tab (Option Meter) 4
  bankLimit : Nat
  deriving DecidableEq, Repr

/-- The working copies: the cabinet settings and the eight slot profiles. -/
structure Working where
  cabinet : Cabinet
  slots : Tab SlotProfile 8
  deriving DecidableEq, Repr

/-- A slot's five stored sections; `none` is a section whose check value fails (R185, R186). -/
structure StoredProfile where
  general : Option General
  picture : Option Picture
  controls : Option Controls
  coins : Option CoinSettings
  dips : Option Dips
  deriving DecidableEq, Repr

/-- The profile store: 41 sections. -/
structure Store where
  cabinet : Option Cabinet
  slots : Tab StoredProfile 8
  deriving DecidableEq, Repr

/-! ### Factory defaults -/

/-- Factory default of GENERAL (R182). -/
def factoryGeneral : General where
  expectedKind := 0
  expectedClass := none
  standing := .run
  bootTime := 5000
  lockLimit := 3000
  recoveryLimit := 2000
  resumeCheck := false
  autoPower := false
  lineHigh := Tab.all 55 false
  fourWay := Tab.all 4 false

/-- Factory default of the capture window (R182). -/
def factoryWindow : Window := ⟨432, 16, 240, 64, 320⟩

/-- The unit matrix, offsets 0, and the gamma points 0, 32 and on to 224, then 255 (R124, R182). -/
def factoryColours : Colours where
  rowR := ⟨1024, 0, 0, 0⟩
  rowG := ⟨0, 1024, 0, 0⟩
  rowB := ⟨0, 0, 1024, 0⟩
  gamma := ⟨#[0, 32, 64, 96, 128, 160, 192, 224, 255], rfl⟩

/-- Factory default of PICTURE (R182). -/
def factoryPicture : Picture := ⟨factoryColours, factoryWindow, false⟩

/-- Identity entries: source t to line t, invert 0, for the lines listed. -/
def identityEntries (ts : List Line) : List MapEntry := ts.map fun t => ⟨t, t, false⟩

/-- Factory default of CONTROLS: the identity map on pages of 16, 16, 16 and 7 (R182). -/
def factoryControls : Controls :=
  ⟨#[identityEntries [0, 1, 2, 3, 4, 5, 6, 7, 8, 9, 10, 11, 12, 13, 14, 15],
     identityEntries [16, 17, 18, 19, 20, 21, 22, 23, 24, 25, 26, 27, 28, 29, 30, 31],
     identityEntries [32, 33, 34, 35, 36, 37, 38, 39, 40, 41, 42, 43, 44, 45, 46, 47],
     identityEntries [48, 49, 50, 51, 52, 53, 54]], rfl⟩

/-- Factory default of COINS (R182). -/
def factoryCoins : CoinSettings where
  direct := true
  chuteMap := ⟨#[some 0, some 1, some 2, some 3], rfl⟩
  pulseOn := 50
  pulseGap := 100
  lineHigh := Tab.all 4 false

/-- Factory default of DIPS (R182). -/
def factoryDips : Dips := ⟨false, Tab.all 4 0⟩

/-- Factory default of a slot profile. -/
def factoryProfile : SlotProfile := ⟨factoryGeneral, factoryPicture, factoryControls, factoryCoins, factoryDips⟩

/-- Factory default of the cabinet settings (R183). -/
def factoryCabinet : Cabinet where
  multisync := false
  homeClass := .low
  followMin := 5500
  followMax := 6100
  settleTime := 500
  holdStyle := false
  videoFade := 300
  audioFade := 500
  fallbackReturn := false
  debounce := 5
  chord := none
  chordTime := 2000
  stillLimit := 300
  dimLevel := 128
  standbyColour := .black
  duckLevel := 128
  menuAudio := 256
  chuteValue := Tab.all 4 1
  chuteMin := Tab.all 4 20
  chuteMax := Tab.all 4 100
  chuteMeter := ⟨#[some 0, some 1, some 2, some 3], rfl⟩
  bankLimit := 60000

/-- Every working section at its factory default (R187). -/
def factoryWorking : Working := ⟨factoryCabinet, Tab.all 8 factoryProfile⟩

/-- A slot's stored sections, none of which passes its check. -/
def blankStored : StoredProfile := ⟨none, none, none, none, none⟩

/-- DESIGN CHOICE (log 7): a store nothing has been saved to: no section passes its check. -/
def blankStore : Store := ⟨none, Tab.all 8 blankStored⟩

end Sys2Proof.Machine
end

