-- ==== Sys2Proof/Machine/State.lean ====
section
/-! DEFINITION. The state of the part, block by block, as plain data, and `State.reset`.
Each structure's docstring names the rule of spec/ that gives it. Times are in ticks of the 27 MHz reference;
a `Timer` is stopped (`none`) or running with the moment of its expiry. -/

namespace Sys2Proof.Machine

/-- A timer: stopped, or running with its expiry. -/
abbrev Timer := Option Nat

/-! ### The cabinet link (chapter 01) -/

/-- The receiver's assembly state with what it has assembled (R1): HUNT, LENGTH, HEADER, PAYLOAD, CHECK. -/
inductive RxState where
  | hunt
  | length
  | header (len : Nat) (kind : Option Byte)
  | payload (len : Nat) (kind tag : Byte) (got : List Byte)
  | check (kind tag : Byte) (payload : List Byte)
  deriving DecidableEq, Repr

/-- How far a buffered request has come (R4, R6). -/
inductive PlaceStage where
  | waiting | inService | answered
  deriving DecidableEq, Repr

/-- A receive buffer place: one request not yet fully answered (R4). -/
structure Place where
  kind : Byte
  tag : Byte
  payload : List Byte
  stage : PlaceStage
  deriving DecidableEq, Repr

/-- The results of R8; BAD_FIELD carries its field index. -/
inductive Result where
  | ok | accepted | already | busy | badLength
  | badField (index : Nat)
  | unknownKind | wrongState | noBoard | wrongBoard | noCredit | queueFull | tooLate | noAnswer | badAnswer | storeFault
  deriving DecidableEq, Repr

/-- A reply given and not yet sent (R8). -/
structure Reply where
  kind : Byte
  tag : Byte
  result : Result
  data : List Byte
  deriving DecidableEq, Repr

/-- Slot states (R17, R18). -/
inductive SlotState where
  | empty | off | powering | held | booting | live | frozen | fault
  deriving DecidableEq, Repr

/-- Causes of a SLOT notice (R38), in code order. -/
inductive SlotCause where
  | present | absent | removed | kindChanged | powerOn | autoPower | wake | powerGood | noPowerGood | powerGoodLost
  | dipMismatch | released | booted | powerOff | restart | parked | pause | pauseEnd | partRestart
  deriving DecidableEq, Repr

/-- Sync monitor states (R56). -/
inductive MonState where
  | dark | seeking | locked | weak
  deriving DecidableEq, Repr

/-- A field's class (R60). -/
inductive SigClass where
  | none | low | medium | high | outOfClass
  deriving DecidableEq, Repr

/-- Causes of a SIGNAL notice (R73), in code order. -/
inductive SignalCause where
  | locked | weak | changed | lost
  deriving DecidableEq, Repr

/-- How a changeover ended (R94), in code order. -/
inductive CoOutcome where
  | done | superseded | aborted | noBoard | powerFault | dipMismatch | lockTimeout | classMismatch | lostSignal
  deriving DecidableEq, Repr

/-- Result of the resume check (R76). -/
inductive ResumeResult where
  | notChecked | clean | changed
  deriving DecidableEq, Repr

/-- Why the part started a changeover itself (R76). -/
inductive Reason where
  | lostSignal | powerFault
  deriving DecidableEq, Repr

/-- Causes of a link error (R5), in code order. -/
inductive LinkCause where
  | character | length | gap | check | kind | overrun
  deriving DecidableEq, Repr

/-- Chute events (R174), in code order. -/
inductive ChuteEvent where
  | accepted | rejectedShort | rejectedLong | jammed | cleared | lockout
  deriving DecidableEq, Repr

/-- Bank events (R174), in code order. -/
inductive BankEvent where
  | limit | overflow | returned | cleared
  deriving DecidableEq, Repr

/-- A chute's set of lockout reasons (R160). -/
structure Reasons where
  link : Bool
  jam : Bool
  bankLimit : Bool
  meterFull : Bool
  startup : Bool
  deriving DecidableEq, Repr

/-- A list of superseded tags, oldest first, with its more flag (R76, R79). -/
structure TagList where
  tags : List Byte
  more : Bool
  deriving DecidableEq, Repr

/-- The contents of a CHANGEOVER_DONE notice (R94). -/
structure DoneReport where
  tag : Byte
  source : Option Slot
  target : Option Slot
  outcome : CoOutcome
  resume : ResumeResult
  isReturn : Bool
  reason : Option Reason
  superseded : TagList
  deriving DecidableEq, Repr

/-- A newly flagged counter in a COUNTER notice (R178). -/
structure FlagEntry where
  counter : CounterId
  half : Bool
  full : Bool
  deriving DecidableEq, Repr

/-- A notice's contents with its subject (R11). -/
inductive Notice where
  | changeoverDone (d : DoneReport)
  | slot (n : Slot) (state : SlotState) (cause : SlotCause) (kind : Nat)
  | signal (src : Source) (state : MonState) (cause : SignalCause) (cls : SigClass) (fref : Nat)
  | input (states latch : Tab Bool 60)
  | menuCall (chord : Bool)
  /-- `chute`: READY 0, IN_PULSE 1, JAMMED 2 -/
  | chute (c : Chute) (chute : Nat) (event : ChuteEvent) (reasons : Reasons)
  | bank (units : Nat) (event : BankEvent) (bankLimit startup : Bool)
  | counter (flagged : List FlagEntry)
  | store (load : Bool) (fault : Bool) (replaced : List SectionId)
  | output (dimEvent : Bool) (pass : Bool) (cls : OutClass) (dimOn : Bool)
  | link (cause : LinkCause)
  | ready (restart : Bool) (kept : Bool)
  deriving DecidableEq, Repr

/-- A notice table entry (R9): its count and contents; the key is read off the contents, and the position in the
order is the place in the list. -/
structure Entry where
  count : Nat
  notice : Notice
  deriving DecidableEq, Repr

/-- The frame being sent (R13). -/
inductive Sending where
  | reply (bytes : List Byte) (isRestart : Bool)
  | notice (bytes : List Byte)
  deriving DecidableEq, Repr

/-- The cabinet link's state (chapter 01, R16). -/
structure Link where
  rx : RxState
  gap : Timer
  buffer : List Place
  replies : List Reply
  notices : List Entry
  /-- working notice mask, one entry per kind in code order; `true` is enabled -/
  mask : Tab Bool 11
  /-- retained notice mask default (R12, R187) -/
  maskDefault : Tab Bool 11
  sending : Option Sending
  /-- set from a RESTART's answer until the restart takes effect: nothing behind it is dispatched (R16) -/
  restartHeld : Bool
  deriving DecidableEq, Repr

/-! ### Slots (chapter 02) -/

/-- How the part drives a slot's reset or clock-hold line (R18). -/
inductive Drive where
  | notDriven | asserted | released
  deriving DecidableEq, Repr

/-- The levels of a slot's three lines (R18). -/
structure SlotLines where
  supply : Bool
  reset : Drive
  clockHold : Drive
  deriving DecidableEq, Repr

/-- One change of one line (R19). -/
inductive LineMove where
  | supply (on : Bool)
  | reset (d : Drive)
  | clockHold (d : Drive)
  deriving DecidableEq, Repr

/-- A slot record (R17), with the slot's lines (R18, R19) and its power-good pin. -/
structure SlotRecord where
  state : SlotState
  kind : Nat
  revision : Nat
  status : Word16
  mismatch : Bool
  runUp : Bool
  paused : Bool
  lastSig : Option Word16
  parkedSig : Option Word16
  autoPending : Bool
  pgWindow : Timer
  bootWindow : Timer
  applying : Bool
  lines : SlotLines
  /-- the line changes of the slot's latest move, in the order they were made (R19) -/
  moves : List LineMove
  /-- the power-good line as it stands (an input) -/
  powerGood : Bool
  /-- active levels of the 55 harness lines as last read (R144) -/
  lineHigh : Tab Bool 55
  /-- set by a RESTART that leaves the slot supplied, until the levels are read afresh at the load (R156) -/
  rereadLevels : Bool
  deriving DecidableEq, Repr

/-! ### Slot bus and adapters (chapter 03) -/

/-- A slot adapter (R42): 256 cells of 16 bits and the far pointer. -/
structure Adapter where
  cells : Tab Word16 256
  pointer : Fin 256
  /-- what it gives its own cells whenever it receives power (log 8) -/
  own : List (Fin 256 × Word16)
  deriving DecidableEq, Repr

/-- The five transactions (R42). -/
inductive BusOp where
  | read (cell : Fin 256)
  | write (cell : Fin 256) (value : Word16)
  | point (cell : Fin 256)
  | readOn
  | writeOn (value : Word16)
  deriving DecidableEq, Repr

/-- Whose transaction is on the bus (R45). A poll's three stages carry what its reads gave so far (R48). -/
inductive BusOwner where
  | sequence
  | link
  | poll
  | pollRevision (kind : Nat)
  | pollStatus (kind revision : Nat)
  deriving DecidableEq, Repr

/-- The transaction in progress (R44, R45). -/
structure Transaction where
  slot : Slot
  op : BusOp
  owner : BusOwner
  began : Nat
  /-- set when the result is to be discarded (R51, R55) -/
  discard : Bool
  deriving DecidableEq, Repr

/-- A DIP apply run (R50): the transactions not begun, and the banks they write and compare. -/
structure ApplyRun where
  slot : Slot
  todo : List BusOp
  banks : Tab Byte 4
  deriving DecidableEq, Repr

/-- The one pass-through run (R52, R53). -/
structure LinkRun where
  slot : Slot
  todo : List BusOp
  /-- how many transactions have ended -/
  ended : Nat
  /-- whether a transaction of the run has begun (R46) -/
  begun : Bool
  values : List Word16
  isRead : Bool
  deriving DecidableEq, Repr

/-- What the controller has told the slot manager of a slot since the last reset (R45). -/
inductive View where
  | unconfirmed | answering | absent
  deriving DecidableEq, Repr

/-- The slot bus controller (R45). -/
structure Bus where
  current : Option Transaction
  sequence : List ApplyRun
  linkRun : Option LinkRun
  waitingPoll : Option Slot
  position : Slot
  pollTimer : Timer
  views : Tab View 8
  misses : Tab Nat 8
  deriving DecidableEq, Repr

/-! ### Sync monitors (chapter 04) -/

/-- A field open since a vertical sync (R56, R57). -/
structure OpenField where
  start : Nat
  lines : Nat
  deriving DecidableEq, Repr

/-- The stages of the sync timer (R67). -/
inductive SyncStage where
  | seek | first | second
  deriving DecidableEq, Repr

/-- A running sync timer: its stage, the moment of the last accepted field, and its expiry (R67). -/
structure SyncTimer where
  stage : SyncStage
  since : Nat
  expiry : Nat
  deriving DecidableEq, Repr

/-- A monitor record (R56). -/
structure Monitor where
  state : MonState
  field : Option OpenField
  lastF : Nat
  lastL : Nat
  lineRate : Nat
  fieldRate : Nat
  cls : SigClass
  reference : Option Nat
  run : Nat
  runSum : Nat
  fref : Option Nat
  lref : Option Nat
  unsteady : Nat
  timer : Option SyncTimer
  taking : Bool
  deriving DecidableEq, Repr

/-! ### Changeover (chapter 05) -/

/-- The phases (R76). -/
inductive Phase where
  | quiesce | park | wake | lock | retime | reveal | grant
  deriving DecidableEq, Repr

/-- The changeover record (R76). `from` and `to` are `source` and `target`.
The last four fields are the phases' own memory: the transition style read at the entry of QUIESCE or REVEAL
(R80, R90), whether the resume check was found to apply at LOCK entry (R84), whether the hold flag waits for the
first READY buffer of `to` (R87), and whether `to`'s monitor has gone SEEKING since RETIME (R88). -/
structure Record where
  tag : Byte
  source : Option Slot
  target : Option Slot
  phase : Phase
  reason : Option Reason
  isReturn : Bool
  superseded : TagList
  resume : ResumeResult
  wokenFrozen : Bool
  lockSeen : Bool
  lockLimit : Timer
  holdStyle : Bool
  checkApplies : Bool
  holdUntilReady : Bool
  sawSeeking : Bool
  deriving DecidableEq, Repr

/-- A pending target with the tag of the SELECT that named it (R76). -/
structure Pending where
  target : Option Slot
  tag : Byte
  deriving DecidableEq, Repr

/-- The recovery watch (R76). -/
inductive Watch where
  | stopped
  | waitingLive
  | running (expiry : Nat)
  deriving DecidableEq, Repr

/-- The changeover controller (R76). -/
structure Controller where
  current : Option Slot
  record : Option Record
  pending : Option Pending
  watch : Watch
  deriving DecidableEq, Repr

/-! ### Frame store and output timing (chapter 06) -/

/-- Buffer states (R100). -/
inductive BufState where
  | free | filling | ready | showing
  deriving DecidableEq, Repr

/-- A frame buffer (R100): its record, the window it is filled under, and the captured lines. -/
structure Buffer where
  state : BufState
  seq : Option Word16
  source : Option Slot
  signature : Option Word16
  abandoned : Bool
  window : Window
  lines : List (List RGB)
  deriving DecidableEq, Repr

/-- How a slot's picture is placed on the output, fixed at the output decision for it (R121). -/
structure Placement where
  window : Window
  doubled : Bool
  deriving DecidableEq, Repr

/-- The frame store (R100 to R113). -/
structure FrameStore where
  buffers : Tab Buffer 3
  nextSeq : Word16
  writer : Option Slot
  /-- the latched capture window (R102) -/
  window : Option Window
  reader : Option Slot
  firstTake : Bool
  fin : Option Nat
  acc : Nat
  hold : Bool
  blank : Bool
  placements : Tab Placement 8
  deriving DecidableEq, Repr

/-- The output timing generator (R114). `nextStart` is the moment its field period expires. -/
structure Output where
  pass : Bool
  cls : OutClass
  fout : Nat
  slaved : Option Slot
  lineCount : Nat
  linePeriod : Nat
  settle : Timer
  startMark : Bool
  nextStart : Nat
  deriving DecidableEq, Repr

/-! ### Picture and sound (chapter 07) -/

/-- A fade in progress: target 256 (rising) or 0, duration in ms, start level and moment (R124). `steps` is the
number of millisecond steps taken; only the audio fade uses it (R139). -/
structure Fade where
  rising : Bool
  duration : Nat
  f0 : Nat
  start : Nat
  steps : Nat
  deriving DecidableEq, Repr

/-- The overlay settings (R124, R133). -/
structure Overlay where
  enable : Bool
  mask : RGB
  minimum : RGB
  maximum : RGB
  alpha : Nat
  deriving DecidableEq, Repr

/-- What the reader hands the conditioner for a field (R107, R125). -/
inductive Shown where
  | black
  | standby
  | buffer (source : Slot) (seq : Word16) (window : Window) (lines : List (List RGB))
  deriving DecidableEq, Repr

/-- Everything the conditioner fixed at an output field start and holds for the whole field (R125). -/
structure OutField where
  shown : Shown
  placement : Placement
  pass : Bool
  cls : OutClass
  lineCount : Nat
  colours : Colours
  fade : Nat
  overlay : Overlay
  menuPresent : Bool
  standbyColour : RGB
  dim : Nat
  deriving DecidableEq, Repr

/-- The picture conditioner (R124). The slot colour settings are the working PICTURE sections (R124, R182). -/
structure Conditioner where
  level : Nat
  fade : Option Fade
  overlay : Overlay
  menuPresent : Bool
  watched : Option Slot
  previousSig : Option Word16
  stillTimer : Timer
  dimmed : Bool
  dim : Nat
  field : OutField
  deriving DecidableEq, Repr

/-- The sound mixer (R137). -/
structure Mixer where
  source : Option Slot
  gain : Nat
  fade : Option Fade
  ducked : Bool
  deriving DecidableEq, Repr

/-! ### Control routing (chapter 08) -/

/-- The control owner (R145). -/
inductive Owner where
  | none
  | link
  | slot (n : Slot)
  deriving DecidableEq, Repr

/-- A direction input's position (R150). -/
inductive Dir where
  | up | down | left | right
  deriving DecidableEq, Repr

/-- A running debounce timer: its expiry and target level (R145). -/
structure DebounceTimer where
  expiry : Nat
  target : Bool
  deriving DecidableEq, Repr

/-- The control router (R145), with the raw input levels (inputs). -/
structure Router where
  raw : Tab Bool 60
  debounced : Tab Bool 60
  timers : Tab (Option DebounceTimer) 60
  owner : Owner
  linkHold : Bool
  claim : Option Slot
  workingMap : List MapEntry
  fourWay : Tab Bool 4
  order : Tab (List Dir) 4
  grantMask : Tab Bool 55
  latch : Tab Bool 60
  chordArmed : Bool
  chordTimer : Timer
  playTimer : Timer
  deriving DecidableEq, Repr

/-! ### Coins (chapter 09) -/

/-- Chute states; IN_PULSE holds the pulse start time (R157). -/
inductive ChuteState where
  | ready
  | inPulse (start : Nat)
  | jammed
  deriving DecidableEq, Repr

/-- A chute (R157). -/
structure ChuteRecord where
  state : ChuteState
  jamTimer : Timer
  hostLock : Bool
  reasons : Reasons
  deriving DecidableEq, Repr

/-- A pulse generator (R157): in ON the line being played, the timer and the gap read at the start (in ticks). -/
inductive Generator where
  | idle
  | on (line : CoinLine) (expiry : Nat) (gap : Nat)
  | gap (expiry : Nat)
  deriving DecidableEq, Repr

/-- A meter driver with its timer (R157, R173). -/
inductive Driver where
  | idle
  | on (expiry : Nat)
  | off (expiry : Nat)
  deriving DecidableEq, Repr

/-- A meter (R157). -/
structure MeterRecord where
  owed : Nat
  driver : Driver
  deriving DecidableEq, Repr

/-- The coin unit (R157). `startup`: the cabinet settings have not been loaded since the last reset (R160).
`lineHigh`: the active levels of each slot's board coin lines as last read (R166; log 22); `true` is high. -/
structure Coins where
  chutes : Tab ChuteRecord 4
  startup : Bool
  bank : Nat
  accepted : Word32
  delivered : Word32
  drained : Word32
  queues : Tab (List CoinLine) 8
  generators : Tab Generator 8
  meters : Tab MeterRecord 4
  lineHigh : Tab (Tab Bool 4) 8
  deriving DecidableEq, Repr

/-! ### Statistics counters (chapter 10) -/

/-- A counter (R176). -/
structure Counter where
  value : Word32
  half : Bool
  full : Bool
  deriving DecidableEq, Repr

/-- The statistics block (R176, R177). -/
structure Counters where
  table : Tab Counter 67
  freeze : Bool
  saturate : Bool
  readClear : Bool
  deriving DecidableEq, Repr

/-! ### Profiles (chapter 11) -/

/-- The working copies, the store, and what is in flight (R185, R186). -/
structure Profiles where
  working : Working
  store : Store
  /-- the snapshot of a save in flight -/
  saving : Option Working
  loading : Bool
  /-- a load has ended since the last reset -/
  loaded : Bool
  deriving DecidableEq, Repr

/-! ### The whole part -/

/-- What a block reports to the changeover controller within a step: slot state changes with old and new state
(R39), the failure of a DIP apply (R27), monitor state changes (R71) and READY buffers (R104). -/
inductive Report where
  | slot (n : Slot) (old new : SlotState) (cause : SlotCause)
  | dipFailed (n : Slot)
  | monitor (src : Source) (state : MonState)
  | ready (n : Slot) (signature : Word16)
  deriving DecidableEq, Repr

/-- The state of the part. `powered`, `now`, `free`, `reports` and `pending` are the model's own fields:
whether the part has power, the moment of the latest command, the index of the next free value, the reports made
within the present step (empty between steps) and the commands that wait, first in, first out. -/
structure State where
  powered : Bool
  now : Nat
  link : Link
  counters : Counters
  slots : Tab SlotRecord 8
  adapters : Tab Adapter 8
  bus : Bus
  monitors : Tab Monitor 9
  co : Controller
  frame : FrameStore
  out : Output
  pic : Conditioner
  snd : Mixer
  router : Router
  coins : Coins
  profiles : Profiles
  free : Nat
  reports : List Report
  pending : List Instr
  deriving DecidableEq, Repr

/-- There is no fault: every behaviour the manual gives a command has a next state. -/
inductive Fault where
  deriving DecidableEq, Repr

/-- A refusal. `notModelled` stands only in a refused arm of `exec` (safe); no arm of this model uses it. -/
inductive Refusal where
  | notModelled (mnemonic : String)
  deriving DecidableEq, Repr

/-! ### Values after power-up reset, block by block -/

/-- An empty set of lockout reasons. -/
def Reasons.clear : Reasons := ⟨false, false, false, false, false⟩

/-- The link after power-up reset with the mask default given, before READY is posted (R16). -/
def Link.initial (dflt : Tab Bool 11) : Link where
  rx := .hunt
  gap := none
  buffer := []
  replies := []
  notices := []
  mask := dflt
  maskDefault := dflt
  sending := none
  restartHeld := false

/-- A slot's lines when none is driven (R18). -/
def SlotLines.off : SlotLines := ⟨false, .notDriven, .notDriven⟩

/-- A slot record after power-up reset (R17). The power-good pin is an input and keeps its level. The harness
levels are read again before any line is driven (R144); until then they hold the factory level. -/
def SlotRecord.initial (powerGood : Bool) : SlotRecord where
  state := .empty
  kind := 0
  revision := 0
  status := 0
  mismatch := false
  runUp := false
  paused := false
  lastSig := none
  parkedSig := none
  autoPending := true
  pgWindow := none
  bootWindow := none
  applying := false
  lines := .off
  moves := []
  powerGood := powerGood
  lineHigh := Tab.all 55 false
  rereadLevels := false

/-- An adapter as it is when it receives power and its own cells hold 0 (R42; log 8). -/
def Adapter.blank : Adapter := ⟨Tab.all 256 0, 16, []⟩

/-- The slot bus controller after power-up reset at a moment (R45). -/
def Bus.initial (now : Nat) : Bus where
  current := none
  sequence := []
  linkRun := none
  waitingPoll := none
  position := 0
  pollTimer := some (now + 337500)
  views := Tab.all 8 .unconfirmed
  misses := Tab.all 8 0

/-- A monitor after power-up reset (R56). -/
def Monitor.initial (taking : Bool) : Monitor where
  state := .dark
  field := none
  lastF := 0
  lastL := 0
  lineRate := 0
  fieldRate := 0
  cls := .none
  reference := none
  run := 0
  runSum := 0
  fref := none
  lref := none
  unsteady := 0
  timer := none
  taking := taking

/-- The nine monitors after power-up reset: monitor 9 alone takes syncs (R56). -/
def Monitor.initialAll : Tab Monitor 9 := (Tab.all 9 (Monitor.initial false)).put 8 (Monitor.initial true)

/-- The changeover controller after power-up reset (R76). -/
def Controller.initial : Controller := ⟨none, none, none, .stopped⟩

/-- A FREE buffer with no record (R100). -/
def Buffer.free : Buffer := ⟨.free, none, none, none, false, factoryWindow, []⟩

/-- The frame store after power-up reset (R100, R101, R102, R106, R113). -/
def FrameStore.initial : FrameStore where
  buffers := Tab.all 3 .free
  nextSeq := 0
  writer := none
  window := none
  reader := none
  firstTake := false
  fin := none
  acc := 0
  hold := false
  blank := true
  placements := Tab.all 8 ⟨factoryWindow, false⟩

/-- The output timing generator after power-up reset at a moment (R114, R115). -/
def Output.initial (now : Nat) : Output where
  pass := false
  cls := .low
  fout := 449592
  slaved := none
  lineCount := 262
  linePeriod := 1716
  settle := none
  startMark := false
  nextStart := now + 449592

/-- The overlay settings after power-up reset (R124). -/
def Overlay.initial : Overlay := ⟨false, ⟨0xFF, 0xFF, 0xFF⟩, .black, .black, 256⟩

/-- The field shown before the first output field start: black, since the blank flag is set (R113). -/
def OutField.initial : OutField where
  shown := .black
  placement := ⟨factoryWindow, false⟩
  pass := false
  cls := .low
  lineCount := 262
  colours := factoryColours
  fade := 256
  overlay := .initial
  menuPresent := false
  standbyColour := .black
  dim := 256

/-- The picture conditioner after power-up reset (R124). -/
def Conditioner.initial : Conditioner where
  level := 256
  fade := none
  overlay := .initial
  menuPresent := false
  watched := none
  previousSig := none
  stillTimer := none
  dimmed := false
  dim := 256
  field := .initial

/-- The sound mixer after power-up reset (R137). -/
def Mixer.initial : Mixer := ⟨none, 256, none, false⟩

/-- The control router after power-up reset (R142, R145): each input raw-active starts its debounce timer, with
the factory debounce time of 5 ms. -/
def Router.initial (now : Nat) (raw : Tab Bool 60) : Router where
  raw := raw
  debounced := Tab.all 60 false
  timers := Vector.ofFn fun i => if raw.get i then some ⟨now + 135000, true⟩ else none
  owner := .link
  linkHold := false
  claim := none
  workingMap := []
  fourWay := Tab.all 4 false
  order := Tab.all 4 []
  grantMask := Tab.all 55 false
  latch := Tab.all 60 false
  chordArmed := true
  chordTimer := none
  playTimer := none

/-- A chute after power-up reset, with the reasons given (R157). -/
def ChuteRecord.initial (r : Reasons) : ChuteRecord := ⟨.ready, none, false, r⟩

/-- The coin unit when retained memory is lost (R157). -/
def Coins.lost : Coins where
  chutes := Tab.all 4 (.initial { Reasons.clear with startup := true })
  startup := true
  bank := 0
  accepted := 0
  delivered := 0
  drained := 0
  queues := Tab.all 8 []
  generators := Tab.all 8 .idle
  meters := Tab.all 4 ⟨0, .idle⟩
  lineHigh := Tab.all 8 (Tab.all 4 false)

/-- The statistics counters when retained memory is lost (R181). -/
def Counters.lost : Counters := ⟨Tab.all 67 ⟨0, false, false⟩, false, false, false⟩

/-- The working copies at start-up: factory defaults, a profile load in flight (R187). -/
def Profiles.initial (store : Store) : Profiles := ⟨factoryWorking, store, none, true, false⟩

/-- The READY notice frame of a power-up reset with retained memory lost: subject 0, count 1, reset kind 0,
kept 0 (link chapter, Frame and Notice contents). -/
def readyLostFrame : List Byte := [0xA5, 4, 0x4A, 0, 0, 1, 0, 0, 0xB1]

/-- The part right after a power-up reset at moment 0 with retained memory lost (log 6): every block at its
power-up values, READY being sent, and the profile load in flight (R16, R187). -/
def State.reset : State where
  powered := true
  now := 0
  link := { Link.initial (Tab.all 11 true) with sending := some (.notice readyLostFrame) }
  counters := .lost
  slots := Tab.all 8 (.initial false)
  adapters := Tab.all 8 .blank
  bus := .initial 0
  monitors := Monitor.initialAll
  co := .initial
  frame := .initial
  out := .initial 0
  pic := .initial
  snd := .initial
  router := .initial 0 (Tab.all 60 false)
  coins := .lost
  profiles := .initial blankStore
  free := 0
  reports := []
  pending := []

end Sys2Proof.Machine
end

