-- ==== Sys2Proof/Machine/Ops.lean ====
section
/-! DEFINITION. The named operations over the state that every block uses: time, the numbered records, the
reports to the changeover controller, and the small tests on them. -/

namespace Sys2Proof.Machine

/-! ### Time -/

/-- Milliseconds in ticks. -/
def ms (n : Nat) : Nat := n * Config.ticksPerMs

/-- `dt` ticks pass. -/
def State.tick (dt : Nat) (s : State) : State := { s with now := s.now + dt }

/-- The moment of a timer's expiry is reached. Time never runs backwards (log 5). -/
def State.reach (t : Nat) (s : State) : State := { s with now := max s.now t }

/-! ### Records -/

def State.slot (s : State) (n : Slot) : SlotRecord := s.slots.at n

def State.setSlot (s : State) (n : Slot) (r : SlotRecord) : State := { s with slots := s.slots.put n r }

def State.monitor (s : State) (src : Source) : Monitor := s.monitors.at src

def State.setMonitor (s : State) (src : Source) (m : Monitor) : State := { s with monitors := s.monitors.put src m }

def State.adapter (s : State) (n : Slot) : Adapter := s.adapters.at n

def State.setAdapter (s : State) (n : Slot) (a : Adapter) : State := { s with adapters := s.adapters.put n a }

def State.setBuffer (s : State) (b : Fin 3) (x : Buffer) : State :=
  { s with frame := { s.frame with buffers := s.frame.buffers.put b x } }

def State.chute (s : State) (c : Chute) : ChuteRecord := s.coins.chutes.at c

def State.setChute (s : State) (c : Chute) (x : ChuteRecord) : State :=
  { s with coins := { s.coins with chutes := s.coins.chutes.put c x } }

def State.queue (s : State) (n : Slot) : List CoinLine := s.coins.queues.at n

def State.setQueue (s : State) (n : Slot) (q : List CoinLine) : State :=
  { s with coins := { s.coins with queues := s.coins.queues.put n q } }

def State.generator (s : State) (n : Slot) : Generator := s.coins.generators.at n

def State.setGenerator (s : State) (n : Slot) (g : Generator) : State :=
  { s with coins := { s.coins with generators := s.coins.generators.put n g } }

def State.meter (s : State) (m : Meter) : MeterRecord := s.coins.meters.at m

def State.setMeter (s : State) (m : Meter) (x : MeterRecord) : State :=
  { s with coins := { s.coins with meters := s.coins.meters.put m x } }

/-- The working cabinet settings (R183). -/
def State.cabinet (s : State) : Cabinet := s.profiles.working.cabinet

/-- A slot's working profile (R182). -/
def State.profile (s : State) (n : Slot) : SlotProfile := s.profiles.working.slots.at n

/-- A working profile replaced. -/
def State.setProfile (s : State) (n : Slot) (p : SlotProfile) : State :=
  { s with profiles := { s.profiles with
      working := { s.profiles.working with slots := s.profiles.working.slots.put n p } } }

/-- A report to the changeover controller, made at this moment (R39, R71, R104). -/
def State.report (s : State) (r : Report) : State := { s with reports := s.reports ++ [r] }

/-- The next free value's index is used up. -/
def State.nextFree (s : State) : State := { s with free := s.free + 1 }

/-! ### Enumerations of the numbered things -/

def allSlots : List Slot := [0, 1, 2, 3, 4, 5, 6, 7]

def allFour : List (Fin 4) := [0, 1, 2, 3]

def allBuffers : List (Fin 3) := [0, 1, 2]

def allSources : List Source := [0, 1, 2, 3, 4, 5, 6, 7, 8]

/-- The cabinet inputs, 0 to 59. -/
def allInputs : List Input := List.finRange 60

/-- `f` applied for every element of a list, in order. -/
def forAll {α : Type} (l : List α) (f : α → State → State) (s : State) : State := l.foldl (fun s a => f a s) s

/-! ### Small tests -/

/-- The supplied states (R18). -/
def SlotState.supplied : SlotState → Bool
  | .powering | .held | .booting | .live | .frozen => true
  | .empty | .off | .fault => false

/-- A changeover is in flight. -/
def State.inFlight (s : State) : Bool := s.co.record.isSome

/-- The slot is `from` of the changeover record. -/
def State.isFrom (s : State) (n : Slot) : Bool :=
  match s.co.record with
  | some r => r.source == some n
  | none => false

/-- The slot is `to` of the changeover record. -/
def State.isTo (s : State) (n : Slot) : Bool :=
  match s.co.record with
  | some r => r.target == some n
  | none => false

/-- A changeover whose `from` is the slot is in QUIESCE (R167). -/
def State.quiescing (s : State) (n : Slot) : Bool :=
  match s.co.record with
  | some r => r.source == some n && r.phase == .quiesce
  | none => false

/-- A monitor's state and class hold a lock (R56: Fref is present in LOCKED and WEAK). -/
def MonState.hasLock : MonState → Bool
  | .locked | .weak => true
  | .dark | .seeking => false

/-- Difference without sign. -/
def absDiff (a b : Nat) : Nat := (a - b) + (b - a)

/-- A board's event or a host's command reaches a part that has power; an unpowered part takes nothing (log 9). -/
def whenPowered (s : State) (f : State → State) : Host.Outcome State Fault Refusal :=
  if s.powered then .next (f s) else .next s

end Sys2Proof.Machine
end

