-- ==== Sys2Proof/Machine/Operands.lean ====
section
/-! DEFINITION. The byte layouts of the link chapter and of R182 to R184: reading a payload's fields, checking
their ranges, and writing fields, codes, sections and notice contents as bytes. Multi-byte fields are
little-endian (00_scope, Conventions). -/

namespace Sys2Proof.Machine

/-! ### Fields -/

/-- The byte at a payload offset, as a number. -/
def byteAt (p : List Byte) (i : Nat) : Nat := (p.getD i 0).toNat

/-- The two-byte field at a payload offset. -/
def word2 (p : List Byte) (i : Nat) : Nat := byteAt p i + 256 * byteAt p (i + 1)

/-- The signed one-byte field at a payload offset. -/
def sbyte (p : List Byte) (i : Nat) : Int := (BitVec.ofNat 8 (byteAt p i)).toInt

/-- The signed two-byte field at a payload offset. -/
def sword2 (p : List Byte) (i : Nat) : Int := (BitVec.ofNat 16 (word2 p i)).toInt

/-- The boolean field at a payload offset. -/
def flagAt (p : List Byte) (i : Nat) : Bool := byteAt p i == 1

def byteOf (n : Nat) : Byte := BitVec.ofNat 8 n

/-- A two-byte field. -/
def le2 (n : Nat) : List Byte := [byteOf n, byteOf (n / 256)]

/-- A four-byte field. -/
def le4 (n : Nat) : List Byte := [byteOf n, byteOf (n / 256), byteOf (n / 65536), byteOf (n / 16777216)]

/-- A signed one-byte field. -/
def sle1 (i : Int) : List Byte := [BitVec.ofInt 8 i]

/-- A signed two-byte field. -/
def sle2 (i : Int) : List Byte := le2 (BitVec.ofInt 16 i).toNat

def boolByte (b : Bool) : Byte := if b then 1 else 0

/-- A field check: the payload offset of the field's first byte, and whether the field is in range. -/
abbrev FieldCheck := Nat × Bool

/-- The field index of the lowest-placed offending field (R7); the checks are listed in payload order. -/
def firstBad : List FieldCheck → Option Nat
  | [] => none
  | (i, ok) :: rest => if ok then firstBad rest else some i

/-- The field at `i` is a boolean. -/
def boolCheck (base i : Nat) (p : List Byte) : FieldCheck := (base + i, decide (byteAt p i ≤ 1))

/-- The one-byte field at `i` lies in a range. -/
def byteCheck (base i lo hi : Nat) (p : List Byte) : FieldCheck :=
  (base + i, decide (lo ≤ byteAt p i ∧ byteAt p i ≤ hi))

/-- The two-byte field at `i` lies in a range. -/
def wordCheck (base i lo hi : Nat) (p : List Byte) : FieldCheck :=
  (base + i, decide (lo ≤ word2 p i ∧ word2 p i ≤ hi))

/-! ### Codes -/

/-- Slot codes: 0 for none, otherwise the slot's number. -/
def slotCode : Option Slot → Byte
  | none => 0
  | some n => byteOf (n.val + 1)

/-- Slot codes where FFh stands for an absent record or target. -/
def slotCodeOr : Option (Option Slot) → Byte
  | none => 0xFF
  | some t => slotCode t

def SlotState.code : SlotState → Byte
  | .empty => 0 | .off => 1 | .powering => 2 | .held => 3 | .booting => 4 | .live => 5 | .frozen => 6 | .fault => 7

def SlotCause.code : SlotCause → Byte
  | .present => 0 | .absent => 1 | .removed => 2 | .kindChanged => 3 | .powerOn => 4 | .autoPower => 5 | .wake => 6
  | .powerGood => 7 | .noPowerGood => 8 | .powerGoodLost => 9 | .dipMismatch => 10 | .released => 11 | .booted => 12
  | .powerOff => 13 | .restart => 14 | .parked => 15 | .pause => 16 | .pauseEnd => 17 | .partRestart => 18

def MonState.code : MonState → Byte
  | .dark => 0 | .seeking => 1 | .locked => 2 | .weak => 3

def SigClass.code : SigClass → Byte
  | .none => 0 | .low => 1 | .medium => 2 | .high => 3 | .outOfClass => 4

def SignalCause.code : SignalCause → Byte
  | .locked => 0 | .weak => 1 | .changed => 2 | .lost => 3

def OutClass.code : OutClass → Byte
  | .low => 1 | .medium => 2 | .high => 3

def CoOutcome.code : CoOutcome → Byte
  | .done => 0 | .superseded => 1 | .aborted => 2 | .noBoard => 3 | .powerFault => 4 | .dipMismatch => 5
  | .lockTimeout => 6 | .classMismatch => 7 | .lostSignal => 8

def ResumeResult.code : ResumeResult → Byte
  | .notChecked => 0 | .clean => 1 | .changed => 2

def reasonCode : Option Reason → Byte
  | none => 0 | some .lostSignal => 1 | some .powerFault => 2

def LinkCause.code : LinkCause → Byte
  | .character => 0 | .length => 1 | .gap => 2 | .check => 3 | .kind => 4 | .overrun => 5

def ChuteEvent.code : ChuteEvent → Byte
  | .accepted => 0 | .rejectedShort => 1 | .rejectedLong => 2 | .jammed => 3 | .cleared => 4 | .lockout => 5

def BankEvent.code : BankEvent → Byte
  | .limit => 0 | .overflow => 1 | .returned => 2 | .cleared => 3

def Phase.code : Phase → Byte
  | .quiesce => 0 | .park => 1 | .wake => 2 | .lock => 3 | .retime => 4 | .reveal => 5 | .grant => 6

def Owner.code : Owner → Byte
  | .none => 0 | .link => 9 | .slot n => byteOf (n.val + 1)

def ChuteState.code : ChuteState → Nat
  | .ready => 0 | .inPulse _ => 1 | .jammed => 2

def Generator.code : Generator → Byte
  | .idle => 0 | .on .. => 1 | .gap _ => 2

/-- The reason set byte: LINK bit 0, JAM bit 1, BANK_LIMIT bit 2, METER_FULL bit 3, STARTUP bit 4. -/
def Reasons.code (r : Reasons) : Byte :=
  byteOf (r.link.toNat + 2 * r.jam.toNat + 4 * r.bankLimit.toNat + 8 * r.meterFull.toNat + 16 * r.startup.toNat)

/-- The counter flag byte: 0 neither, 1 half, 2 full, 3 both. -/
def flagCode (half full : Bool) : Byte := byteOf (half.toNat + 2 * full.toNat)

def Result.code : Result → Byte
  | .ok => 0x00 | .accepted => 0x01 | .already => 0x02 | .busy => 0x03 | .badLength => 0x04 | .badField _ => 0x05
  | .unknownKind => 0x06 | .wrongState => 0x07 | .noBoard => 0x08 | .wrongBoard => 0x09 | .noCredit => 0x0A
  | .queueFull => 0x0B | .tooLate => 0x0C | .noAnswer => 0x0D | .badAnswer => 0x0E | .storeFault => 0x0F

/-! ### Frames -/

/-- The check byte: LEN + KIND + TAG + payload + CHECK equal 0 modulo 256 (R3, Frame layout). -/
def checkByte (kind tag : Byte) (payload : List Byte) : Byte :=
  0 - (byteOf payload.length + kind + tag + payload.foldl (· + ·) 0)

/-- A frame's bytes (link chapter, Frame). -/
def frameBytes (kind tag : Byte) (payload : List Byte) : List Byte :=
  [0xA5, byteOf payload.length, kind, tag] ++ payload ++ [checkByte kind tag payload]

/-- A reply's payload: the result, then its data or field index (R8). -/
def Reply.payload (r : Reply) : List Byte :=
  r.result.code ::
    match r.result with
    | .ok | .accepted | .already => r.data
    | .badField i => [byteOf i]
    | _ => []

/-- A reply's frame: KIND is the request's plus 80h (R8). -/
def Reply.bytes (r : Reply) : List Byte := frameBytes (r.kind + 0x80) r.tag r.payload

/-! ### Notices -/

/-- A notice's kind, 0 to 10 from CHANGEOVER_DONE on; its code is 40h plus this (R9). -/
def Notice.kind : Notice → Fin 11
  | .changeoverDone _ => 0 | .slot .. => 1 | .signal .. => 2 | .input .. => 3 | .menuCall _ => 4 | .chute .. => 5
  | .bank .. => 5 | .counter _ => 6 | .store .. => 7 | .output .. => 8 | .link _ => 9 | .ready .. => 10

/-- A notice's subject (R9). -/
def Notice.subject : Notice → Nat
  | .slot n .. => n.val + 1
  | .signal src .. => src.val + 1
  | .chute c .. => c.val + 1
  | _ => 0

/-- A notice's key: its kind and subject (R9). -/
def Notice.key (n : Notice) : Fin 11 × Nat := (n.kind, n.subject)

/-- One byte of eight bits, the least significant first. -/
def packByte (bits : List Bool) : Byte := byteOf (bits.foldr (fun b acc => b.toNat + 2 * acc) 0)

/-- A set of inputs as 8 bytes, input n in bit n modulo 8 of byte floor(n/8) (INPUT layout). -/
def inputBytes (v : Tab Bool 60) : List Byte :=
  (List.range 8).map fun k => packByte ((v.toList.drop (8 * k)).take 8)

/-- A section's slot and section bytes as a STORE notice lists it; 0 and 0 for the cabinet settings. -/
def sectionBytes (i : SectionId) : List Byte :=
  if i.val = 0 then [0, 0] else [byteOf ((i.val - 1) / 5 + 1), byteOf ((i.val - 1) % 5)]

/-- A notice's contents from offset 2 on (CHANGEOVER_DONE and Notice contents tables). -/
def Notice.contents : Notice → List Byte
  | .changeoverDone d =>
      [d.tag, slotCode d.source, slotCode d.target, d.outcome.code, d.resume.code, boolByte d.isReturn,
        reasonCode d.reason, boolByte d.superseded.more, byteOf d.superseded.tags.length] ++ d.superseded.tags
  | .slot _ st cause kind => [st.code, cause.code, byteOf kind]
  | .signal _ st cause cls fref => [st.code, cause.code, cls.code] ++ le4 fref
  | .input states latch => inputBytes states ++ inputBytes latch
  | .menuCall chord => [boolByte chord]
  | .chute _ st ev r => [byteOf st, ev.code, r.code]
  | .bank units ev lim st => le2 units ++ [ev.code, Reasons.code ⟨false, false, lim, false, st⟩]
  | .counter l => byteOf l.length :: l.flatMap fun f => [byteOf f.counter.val, flagCode f.half f.full]
  | .store load fault l => [boolByte load, boolByte fault, byteOf l.length] ++ l.flatMap sectionBytes
  | .output dimEvent pass cls dimOn => [boolByte dimEvent, boolByte pass, cls.code, boolByte dimOn]
  | .link cause => [cause.code]
  | .ready restart kept => [boolByte restart, boolByte kept]

/-- A notice's frame: KIND is the notice code, TAG 0 (R13). -/
def Entry.bytes (e : Entry) : List Byte :=
  frameBytes (byteOf (0x40 + e.notice.kind.val)) 0
    (byteOf e.notice.subject :: byteOf e.count :: e.notice.contents)

/-! ### Sections of a slot profile: contents as PROFILE_PUT carries them from its offset 3 (R182, R184) -/

/-- A choice of an output class numbered from 0 in the order ANY, LOW, MEDIUM, HIGH. -/
def readClassOrAny : Nat → Option OutClass
  | 1 => some .low
  | 2 => some .medium
  | 3 => some .high
  | _ => none

def classOrAnyCode : Option OutClass → Byte
  | none => 0 | some .low => 1 | some .medium => 2 | some .high => 3

/-- A choice of an output class numbered from 0 in the order LOW, MEDIUM, HIGH. -/
def readClass : Nat → OutClass
  | 0 => .low
  | 1 => .medium
  | _ => .high

def classChoiceCode : OutClass → Byte
  | .low => 0 | .medium => 1 | .high => 2

def readStanding : Nat → StandingMode
  | 0 => .run
  | 1 => .freeze
  | 2 => .hold
  | _ => .off

def standingCode : StandingMode → Byte
  | .run => 0 | .freeze => 1 | .hold => 2 | .off => 3

/-- A line or meter 1 to 4, or none as 0. -/
def readFourOrNone (n : Nat) : Option (Fin 4) :=
  match n with
  | 1 => some 0
  | 2 => some 1
  | 3 => some 2
  | 4 => some 3
  | _ => none

def fourOrNoneCode : Option (Fin 4) → Byte
  | none => 0
  | some i => byteOf (i.val + 1)

/-- An active level: high 0, low 1, in the order R182 lists them. -/
def levelCode (high : Bool) : Byte := boolByte !high

def generalLength : Nat := 70

def checkGeneral (base : Nat) (p : List Byte) : List FieldCheck :=
  [byteCheck base 1 0 3 p, byteCheck base 2 0 3 p, wordCheck base 3 100 60000 p, wordCheck base 5 500 10000 p,
    wordCheck base 7 0 30000 p, boolCheck base 9 p, boolCheck base 10 p]
    ++ (List.range 59).map fun i => boolCheck base (11 + i) p

def readGeneral (p : List Byte) : General where
  expectedKind := byteAt p 0
  expectedClass := readClassOrAny (byteAt p 1)
  standing := readStanding (byteAt p 2)
  bootTime := word2 p 3
  lockLimit := word2 p 5
  recoveryLimit := word2 p 7
  resumeCheck := flagAt p 9
  autoPower := flagAt p 10
  lineHigh := Vector.ofFn fun i => byteAt p (11 + i.val) == 0
  fourWay := Vector.ofFn fun i => flagAt p (66 + i.val)

def writeGeneral (g : General) : List Byte :=
  [byteOf g.expectedKind, classOrAnyCode g.expectedClass, standingCode g.standing] ++ le2 g.bootTime ++ le2 g.lockLimit
    ++ le2 g.recoveryLimit ++ [boolByte g.resumeCheck, boolByte g.autoPower]
    ++ g.lineHigh.toList.map levelCode ++ g.fourWay.toList.map boolByte

def pictureLength : Nat := 39

def checkPicture (base : Nat) (p : List Byte) : List FieldCheck :=
  ((List.range 9).map fun i =>
      (base + 2 * i, decide (-2048 ≤ sword2 p (2 * i) ∧ sword2 p (2 * i) ≤ 2047)))
    ++ [wordCheck base 30 320 1024 p, byteCheck base 32 8 63 p, wordCheck base 33 192 288 p,
      wordCheck base 36 224 400 p, boolCheck base 38 p]

def readRow (p : List Byte) (k : Nat) : MatrixRow :=
  ⟨sword2 p (6 * k), sword2 p (6 * k + 2), sword2 p (6 * k + 4), sbyte p (18 + k)⟩

def readPicture (p : List Byte) : Picture where
  colours :=
    { rowR := readRow p 0
      rowG := readRow p 1
      rowB := readRow p 2
      gamma := Vector.ofFn fun i => byteAt p (21 + i.val) }
  window := ⟨word2 p 30, byteAt p 32, word2 p 33, byteAt p 35, word2 p 36⟩
  follow := flagAt p 38

def writeRow (r : MatrixRow) : List Byte := sle2 r.cr ++ sle2 r.cg ++ sle2 r.cb

def writePicture (x : Picture) : List Byte :=
  writeRow x.colours.rowR ++ writeRow x.colours.rowG ++ writeRow x.colours.rowB
    ++ sle1 x.colours.rowR.offset ++ sle1 x.colours.rowG.offset ++ sle1 x.colours.rowB.offset
    ++ x.colours.gamma.toList.map byteOf
    ++ le2 x.window.samplesPerLine ++ [byteOf x.window.firstLine] ++ le2 x.window.activeLines
    ++ [byteOf x.window.firstSample] ++ le2 x.window.activeSamples ++ [boolByte x.follow]

/-- A line number read from a map entry's byte; the check has held it in 0 to 54. -/
def lineOf (n : Nat) : Line := if h : n < 55 then ⟨n, h⟩ else 0

def readEntry (p : List Byte) (i : Nat) : MapEntry :=
  ⟨lineOf (byteAt p (1 + 3 * i)), lineOf (byteAt p (2 + 3 * i)), flagAt p (3 + 3 * i)⟩

/-- A CONTROLS page's entries, from its count byte on (Map entry layout). -/
def readPage (p : List Byte) : List MapEntry := (List.range (byteAt p 0)).map (readEntry p)

def writeEntry (e : MapEntry) : List Byte := [byteOf e.source.val, byteOf e.target.val, boolByte e.invert]

def writePage (l : List MapEntry) : List Byte := byteOf l.length :: l.flatMap writeEntry

/-- Two entries with the same source and target (R184). -/
def MapEntry.samePath (a b : MapEntry) : Bool := a.source == b.source && a.target == b.target

/-- Whether entry `i` of the page repeats an earlier entry of the page or one of another page (R184). -/
def repeats (p : List Byte) (others : List MapEntry) (i : Nat) : Bool :=
  let e := readEntry p i
  others.any e.samePath || (List.range i).any fun j => e.samePath (readEntry p j)

/-- The checks of one entry of a CONTROLS page: source range, repetition, target and invert (R184). -/
def checkEntry (base : Nat) (p : List Byte) (others : List MapEntry) (i : Nat) : List FieldCheck :=
  [byteCheck base (1 + 3 * i) 0 54 p,
    (base + 1 + 3 * i, !(decide (byteAt p (2 + 3 * i) ≤ 54) && repeats p others i)),
    byteCheck base (2 + 3 * i) 0 54 p, boolCheck base (3 + 3 * i) p]

/-- The checks of a CONTROLS page joined with the entries of the other three pages (R184). -/
def checkPage (base : Nat) (p : List Byte) (others : List MapEntry) : List FieldCheck :=
  byteCheck base 0 0 16 p :: (List.range (byteAt p 0)).flatMap (checkEntry base p others)

def coinsLength : Nat := 12

def checkCoins (base : Nat) (p : List Byte) : List FieldCheck :=
  [boolCheck base 0 p, byteCheck base 1 0 4 p, byteCheck base 2 0 4 p, byteCheck base 3 0 4 p, byteCheck base 4 0 4 p,
    byteCheck base 5 20 200 p, wordCheck base 6 20 500 p,
    boolCheck base 8 p, boolCheck base 9 p, boolCheck base 10 p, boolCheck base 11 p]

def readCoins (p : List Byte) : CoinSettings where
  direct := byteAt p 0 == 0
  chuteMap := Vector.ofFn fun i => readFourOrNone (byteAt p (1 + i.val))
  pulseOn := byteAt p 5
  pulseGap := word2 p 6
  lineHigh := Vector.ofFn fun i => byteAt p (8 + i.val) == 0

def writeCoins (x : CoinSettings) : List Byte :=
  [boolByte !x.direct] ++ x.chuteMap.toList.map fourOrNoneCode ++ [byteOf x.pulseOn] ++ le2 x.pulseGap
    ++ x.lineHigh.toList.map levelCode

def dipsLength : Nat := 5

def checkDips (base : Nat) (p : List Byte) : List FieldCheck := [boolCheck base 0 p]

def readDips (p : List Byte) : Dips := ⟨flagAt p 0, Vector.ofFn fun i => p.getD (1 + i.val) 0⟩

def writeDips (x : Dips) : List Byte := boolByte x.apply :: x.banks.toList

/-! ### Cabinet settings (R183) -/

def cabinetLength : Nat := 47

def readChord (a b : Nat) : Option (Line × Line) := if a = 255 then none else some (lineOf a, lineOf b)

/-- A chord input byte: 0 to 54, or FFh. -/
def chordByteOk (n : Nat) : Bool := decide (n ≤ 54) || n == 255

def checkCabinet (p : List Byte) : List FieldCheck :=
  [boolCheck 0 0 p, byteCheck 0 1 0 2 p, wordCheck 0 2 4000 8000 p, wordCheck 0 4 4000 8000 p, wordCheck 0 6 0 2000 p,
    boolCheck 0 8 p, wordCheck 0 9 0 5000 p, wordCheck 0 11 0 5000 p, boolCheck 0 13 p, byteCheck 0 14 2 20 p,
    (15, chordByteOk (byteAt p 15)),
    (16, chordByteOk (byteAt p 16) && ((byteAt p 15 == 255) == (byteAt p 16 == 255))
      && !(decide (byteAt p 15 ≤ 54) && byteAt p 15 == byteAt p 16)),
    wordCheck 0 17 500 5000 p, wordCheck 0 19 0 600 p, byteCheck 0 21 64 255 p, wordCheck 0 25 0 256 p,
    wordCheck 0 27 0 256 p]
    ++ (List.range 4).map (fun c => byteCheck 0 (29 + c) 1 8 p)
    ++ (List.range 4).map (fun c => byteCheck 0 (33 + c) 10 100 p)
    ++ (List.range 4).map (fun c => byteCheck 0 (37 + c) (byteAt p (33 + c)) 250 p)
    ++ (List.range 4).map (fun c => byteCheck 0 (41 + c) 0 4 p)
    ++ [wordCheck 0 45 1 60000 p]

def readCabinet (p : List Byte) : Cabinet where
  multisync := flagAt p 0
  homeClass := readClass (byteAt p 1)
  followMin := word2 p 2
  followMax := word2 p 4
  settleTime := word2 p 6
  holdStyle := flagAt p 8
  videoFade := word2 p 9
  audioFade := word2 p 11
  fallbackReturn := byteAt p 13 == 0
  debounce := byteAt p 14
  chord := readChord (byteAt p 15) (byteAt p 16)
  chordTime := word2 p 17
  stillLimit := word2 p 19
  dimLevel := byteAt p 21
  standbyColour := ⟨p.getD 22 0, p.getD 23 0, p.getD 24 0⟩
  duckLevel := word2 p 25
  menuAudio := word2 p 27
  chuteValue := Vector.ofFn fun c => byteAt p (29 + c.val)
  chuteMin := Vector.ofFn fun c => byteAt p (33 + c.val)
  chuteMax := Vector.ofFn fun c => byteAt p (37 + c.val)
  chuteMeter := Vector.ofFn fun c => readFourOrNone (byteAt p (41 + c.val))
  bankLimit := word2 p 45

def writeChord : Option (Line × Line) → List Byte
  | none => [0xFF, 0xFF]
  | some (a, b) => [byteOf a.val, byteOf b.val]

def writeCabinet (c : Cabinet) : List Byte :=
  [boolByte c.multisync, classChoiceCode c.homeClass] ++ le2 c.followMin ++ le2 c.followMax ++ le2 c.settleTime
    ++ [boolByte c.holdStyle] ++ le2 c.videoFade ++ le2 c.audioFade ++ [boolByte !c.fallbackReturn, byteOf c.debounce]
    ++ writeChord c.chord ++ le2 c.chordTime ++ le2 c.stillLimit
    ++ [byteOf c.dimLevel, c.standbyColour.r, c.standbyColour.g, c.standbyColour.b] ++ le2 c.duckLevel ++ le2 c.menuAudio
    ++ c.chuteValue.toList.map byteOf ++ c.chuteMin.toList.map byteOf ++ c.chuteMax.toList.map byteOf
    ++ c.chuteMeter.toList.map fourOrNoneCode ++ le2 c.bankLimit

/-! ### Overlay (R133) -/

def readOverlay (p : List Byte) : Overlay :=
  ⟨flagAt p 0, ⟨p.getD 1 0, p.getD 2 0, p.getD 3 0⟩, ⟨p.getD 4 0, p.getD 5 0, p.getD 6 0⟩,
    ⟨p.getD 7 0, p.getD 8 0, p.getD 9 0⟩, word2 p 10⟩

end Sys2Proof.Machine
end

