-- ==== Sys2Proof/Machine/Notices.lean ====
section
/-! DEFINITION. The notice table: posting an event (R9), coalescing it into its key's entry (R10), and the notice
mask (R12). -/

namespace Sys2Proof.Machine

/-- The list's last six tags (R10, R79). -/
def lastSix (l : List Byte) : List Byte := l.drop (l.length - 6)

/-- A tag appended to the superseded tags: a tag of 0 never is, and a seventh discards the oldest (R79). -/
def TagList.append (t : TagList) (tag : Byte) : TagList :=
  if tag = 0 then t
  else if t.tags.length < 6 then ⟨t.tags ++ [tag], t.more⟩
  else ⟨lastSix (t.tags ++ [tag]), true⟩

/-- A second CHANGEOVER_DONE coalescing into the first (R10): the earlier report's tag and the new superseded tags
join the list, cut to its most recent six; every other field is the new event's. -/
def mergeDone (old new : DoneReport) : DoneReport :=
  let joined := old.superseded.tags ++ (if old.tag = 0 then [] else [old.tag]) ++ new.superseded.tags
  { new with superseded := ⟨lastSix joined, old.superseded.more || new.superseded.more || decide (6 < joined.length)⟩ }

/-- A flagged counter merged into a list kept in counter index order (R10, R178). -/
def insertFlag (f : FlagEntry) : List FlagEntry → List FlagEntry
  | [] => [f]
  | g :: rest =>
    if f.counter = g.counter then ⟨g.counter, g.half || f.half, g.full || f.full⟩ :: rest
    else if f.counter < g.counter then f :: g :: rest
    else g :: insertFlag f rest

/-- The contents of an entry after an event coalesces into it (R10). -/
def coalesce (old new : Notice) : Notice :=
  match old, new with
  | .counter a, .counter b => .counter (b.foldl (fun l f => insertFlag f l) a)
  | .changeoverDone a, .changeoverDone b => .changeoverDone (mergeDone a b)
  | _, n => n

/-- An event taken into the table (R9, R10): the entry with its key keeps its place, its count rises to 255 at
most; without one a new entry joins the tail. -/
def tableWith (n : Notice) : List Entry → List Entry
  | [] => [⟨1, n⟩]
  | e :: rest =>
    if e.notice.key = n.key then ⟨min 255 (e.count + 1), coalesce e.notice n⟩ :: rest
    else e :: tableWith n rest

/-- A block posts an event: dropped if its kind is masked (R9). -/
def post (n : Notice) (s : State) : State :=
  if s.link.mask.at n.kind then { s with link := { s.link with notices := tableWith n s.link.notices } } else s

/-- The working notice mask replaced: every entry of a kind now masked is removed (R12). -/
def setMask (m : Tab Bool 11) (s : State) : State :=
  { s with link := { s.link with mask := m, notices := s.link.notices.filter fun e => m.at e.notice.kind } }

end Sys2Proof.Machine
end

