-- ==== Sys2Proof/Machine/Flags.lean ====
section
/-! DEFINITION. The statistics counters with their half and full flags (chapter 10). -/

namespace Sys2Proof.Machine

/-! ### Counter indices (R176) -/

def slotCounter (n : Slot) (k : Fin 6) : CounterId := ⟨6 * n.val + k.val, by omega⟩

def coinsDelivered (n : Slot) : CounterId := slotCounter n 0

def starts (n : Slot) : CounterId := slotCounter n 1

def playSeconds (n : Slot) : CounterId := slotCounter n 2

def selectedCount (n : Slot) : CounterId := slotCounter n 3

def lockFailures (n : Slot) : CounterId := slotCounter n 4

def stillDims (n : Slot) : CounterId := slotCounter n 5

def chuteCounter (c : Chute) (k : Fin 3) : CounterId := ⟨48 + 3 * c.val + k.val, by omega⟩

def chuteAccepted (c : Chute) : CounterId := chuteCounter c 0

def chuteRejected (c : Chute) : CounterId := chuteCounter c 1

def chuteJams (c : Chute) : CounterId := chuteCounter c 2

def unmetered (m : Meter) : CounterId := ⟨60 + m.val, by omega⟩

def linkErrors : CounterId := 64

def framesDropped : CounterId := 65

def framesRepeated : CounterId := 66

/-! ### Increments (R177, R178) -/

/-- One increment of a counter's value and flags with freeze off (R177, cases 2 to 4). -/
def Counter.bump (saturate : Bool) (c : Counter) : Counter :=
  if c.value = 0xFFFFFFFF ∧ saturate = true then c
  else
    { value := c.value + 1
      half := c.half || c.value == 0x7FFFFFFF
      full := c.full || c.value == 0xFFFFFFFE || c.value == 0xFFFFFFFF }

/-- A flag that was clear is set. -/
def Counter.newFlag (old new : Counter) : Bool := (new.half && !old.half) || (new.full && !old.full)

def State.counter (s : State) (i : CounterId) : Counter := s.counters.table.at i

def State.setCounter (s : State) (i : CounterId) (c : Counter) : State :=
  { s with counters := { s.counters with table := s.counters.table.put i c } }

/-- One increment of one counter, under the counter mode (R177), posting COUNTER on a new flag (R178). -/
def increment (i : CounterId) (s : State) : State :=
  if s.counters.freeze then s
  else
    let old := s.counter i
    let new := old.bump s.counters.saturate
    let s := s.setCounter i new
    if old.newFlag new then post (.counter [⟨i, new.half, new.full⟩]) s else s

/-! ### Presets and clears (R179, R180) -/

/-- What a preset sets every counter to: HALF 2^31 − 16, FULL 2^32 − 16; `none` for a preset of none (R179). -/
def presetValue : Nat → Option Word32
  | 1 => some 2147483632
  | 2 => some 4294967280
  | _ => none

/-- A preset applied to all 67 counters, clearing every flag (R179). -/
def applyPreset (k : Nat) (c : Counters) : Counters :=
  match presetValue k with
  | none => c
  | some v => { c with table := Tab.all 67 ⟨v, false, false⟩ }

/-- The counters from `first` on, `count` of them, set to 0 with both flags clear (R180). -/
def clearRange (first count : Nat) (c : Counters) : Counters :=
  { c with table := Vector.ofFn fun i =>
      if first ≤ i.val ∧ i.val < first + count then ⟨0, false, false⟩ else c.table.at i }

/-- A counter's five bytes in the COUNTERS_READ reply (R180). -/
def Counter.bytes (c : Counter) : List Byte := le4 c.value.toNat ++ [flagCode c.half c.full]

end Sys2Proof.Machine
end

