-- ==== Sys2Proof/Machine/Link.lean ====
section
/-! DEFINITION. The cabinet link: the receiver (R1 to R3), the receive buffer (R4), link errors (R5), dispatch and
replies (R6 to R8) and the transmitter (R13). -/

namespace Sys2Proof.Machine

/-! ### Receiving -/

/-- A link error: LINK_ERRORS increments and LINK is posted with the cause (R5). -/
def linkError (c : LinkCause) (s : State) : State := post (.link c) (increment linkErrors s)

/-- A well-formed request takes a free place, or is an OVERRUN when all four are held (R4). -/
def offer (kind tag : Byte) (payload : List Byte) (s : State) : State :=
  if s.link.buffer.length < 4 then
    { s with link := { s.link with buffer := s.link.buffer ++ [⟨kind, tag, payload, .waiting⟩] } }
  else linkError .overrun s

/-- The receiver in a new assembly state; the gap timer runs outside HUNT from this character (R2). -/
def setRx (rx : RxState) (s : State) : State :=
  { s with link := { s.link with rx := rx, gap := if rx = .hunt then none else some (s.now + ms 20) } }

/-- What ends the assembly of a frame: a link error, a well-formed request, or neither. -/
inductive RxEnd where
  | none
  | error (c : LinkCause)
  | request (kind tag : Byte) (payload : List Byte)
  deriving DecidableEq, Repr

/-- The receiver's next assembly state, and what the character ends (R1, R3). -/
def receive : RxState → LineChar → RxState × RxEnd
  | .hunt, .whole b => (if b = 0xA5 then .length else .hunt, .none)
  | .hunt, .inError => (.hunt, .none)
  | .length, .whole b => if 200 < b.toNat then (.hunt, .error .length) else (.header b.toNat none, .none)
  | .header len none, .whole b => (.header len (some b), .none)
  | .header len (some k), .whole b => (if len = 0 then .check k b [] else .payload len k b [], .none)
  | .payload len k t got, .whole b =>
      (if got.length + 1 < len then .payload len k t (got ++ [b]) else .check k t (got ++ [b]), .none)
  | .check k t p, .whole b =>
      if b ≠ checkByte k t p then (.hunt, .error .check)
      else if 0x80 ≤ k.toNat then (.hunt, .error .kind)
      else (.hunt, .request k t p)
  | _, .inError => (.hunt, .error .character)

/-- A character taken by the receiver (R1). -/
def receiveChar (c : LineChar) (s : State) : State :=
  let (rx, ended) := receive s.link.rx c
  let s := setRx rx s
  match ended with
  | .none => s
  | .error e => linkError e s
  | .request k t p => offer k t p s

/-! ### The transmitter -/

/-- The transmitter, when idle, chooses its next frame: the oldest reply, otherwise the oldest notice entry, which
leaves the table as its transmission begins (R13). The control router is told of an INPUT entry and empties its
changed-input latch (R11, R153). -/
def choose (s : State) : State :=
  match s.link.sending with
  | some _ => s
  | none =>
    match s.link.replies with
    | r :: rest =>
      { s with link := { s.link with
          replies := rest, sending := some (.reply r.bytes (r.kind = 0x1B && r.result = .ok)) } }
    | [] =>
      match s.link.notices with
      | [] => s
      | e :: rest =>
        let s := { s with link := { s.link with notices := rest, sending := some (.notice e.bytes) } }
        if e.notice.kind = 3 then { s with router := { s.router with latch := Tab.all 60 false } } else s

/-- The end of a command's step: no report is left standing, and an idle transmitter chooses (log 10). -/
def conclude (s : State) : State := choose { s with reports := [] }

/-- An event of the part or its pins: what it does, and the end of the step. -/
def event (s : State) (f : State → State) : Host.Outcome State Fault Refusal := whenPowered s fun s => conclude (f s)

/-! ### Dispatch and replies -/

/-- What a block answers a request with (R8). -/
structure Answer where
  result : Result
  data : List Byte
  deriving DecidableEq, Repr

/-- A result with no data. -/
def Answer.plain (r : Result) : Answer := ⟨r, []⟩

/-- A request is in service (R6). -/
def Link.serving (l : Link) : Bool := l.buffer.any fun p => p.stage == .inService

/-- The buffer with the request put in service, if it is the oldest that waits (R6). -/
def serveOldest (kind tag : Byte) (payload : List Byte) : List Place → Option (List Place)
  | [] => none
  | p :: rest =>
    if p.stage = .waiting then
      if p.kind = kind ∧ p.tag = tag ∧ p.payload = payload then some ({ p with stage := .inService } :: rest) else none
    else (serveOldest kind tag payload rest).map (p :: ·)

/-- The buffer in which the request is in service, if this is its turn (R4, R6): it is the oldest buffered request
not dispatched, or the buffer holds none that waits and has a free place for it (log 11). -/
def takeTurn (kind tag : Byte) (payload : List Byte) (l : Link) : Option (List Place) :=
  if l.restartHeld || l.serving then none
  else if l.buffer.any fun p => p.stage == .waiting then serveOldest kind tag payload l.buffer
  else if l.buffer.length < 4 then some (l.buffer ++ [⟨kind, tag, payload, .inService⟩])
  else none

/-- The place in service is marked answered. -/
def markAnswered : List Place → List Place
  | [] => []
  | p :: rest => if p.stage = .inService then { p with stage := .answered } :: rest else p :: markAnswered rest

/-- The result of the request in service is turned into a reply at the tail of the reply queue (R6, R8). -/
def giveReply (a : Answer) (s : State) : State :=
  match s.link.buffer.find? fun p => p.stage == .inService with
  | none => s
  | some p =>
    { s with link := { s.link with
        buffer := markAnswered s.link.buffer
        replies := s.link.replies ++ [⟨p.kind, p.tag, a.result, a.data⟩] } }

/-- A request handed to its owning block: the tag check and the request's own length and field checks (R7), then
the block. A block that answers `none` keeps the request in service. -/
def serve (tag : Byte) (payload : List Byte) (check : State → List Byte → Option Result)
    (block : State → List Byte → State × Option Answer) (s : State) : State :=
  if tag = 0 then giveReply (.plain (.badField 0xFF)) s
  else
    match check s payload with
    | some r => giveReply (.plain r) s
    | none =>
      match block s payload with
      | (s, some a) => giveReply a s
      | (s, none) => s

/-- A request frame's part in a step: dispatched when its turn has come, otherwise left to the buffer (R4, R6). -/
def dispatch (kind tag : Byte) (payload : List Byte) (check : State → List Byte → Option Result)
    (block : State → List Byte → State × Option Answer) (s : State) : State :=
  match takeTurn kind tag payload s.link with
  | some b => serve tag payload check block { s with link := { s.link with buffer := b } }
  | none => offer kind tag payload s

/-- A request command: `dt` ticks pass, the request is dispatched, and the step ends. -/
def request (dt : Nat) (kind tag : Byte) (payload : List Byte) (check : State → List Byte → Option Result)
    (block : State → List Byte → State × Option Answer) (s : State) : Host.Outcome State Fault Refusal :=
  event s fun s => dispatch kind tag payload check block (s.tick dt)

/-- The length and field checks of a request of fixed layout (R7). -/
def fixedLayout (len : Nat) (fields : List Byte → List FieldCheck) (_ : State) (p : List Byte) : Option Result :=
  if p.length ≠ len then some .badLength
  else (firstBad (fields p)).map .badField

/-- A request that carries no payload needs LEN 0 (Request payloads). -/
def noPayload : State → List Byte → Option Result := fixedLayout 0 fun _ => []

end Sys2Proof.Machine
end

