-- ==== Sys2Proof/Machine/Coins.lean ====
section
/-! DEFINITION. The coin unit: lockout reasons, the bank, pulse queues and generators, chutes and meters
(chapter 09). Where one event posts several notices their order is log 13. -/

namespace Sys2Proof.Machine

/-! ### Reports -/

/-- The bank stands at or above the working bank limit (R160). -/
def bankAtLimit (s : State) : Bool := decide (s.cabinet.bankLimit ≤ s.coins.bank)

/-- A COIN notice on a chute's key, with its state and reasons as they stand (R174). -/
def postChute (c : Chute) (ev : ChuteEvent) (s : State) : State :=
  post (.chute c (s.chute c).state.code ev (s.chute c).reasons) s

/-- A COIN notice on the bank key, with the bank and the reasons that hold for all chutes (R174). -/
def postBank (ev : BankEvent) (s : State) : State :=
  post (.bank s.coins.bank ev (bankAtLimit s) s.coins.startup) s

/-! ### Lockout (R160) -/

/-- A chute's set of reasons judged: a changed set is kept and posts LOCKOUT, an unchanged one posts nothing. -/
def setReasons (c : Chute) (r : Reasons) (s : State) : State :=
  if r = (s.chute c).reasons then s
  else postChute c .lockout (s.setChute c { s.chute c with reasons := r })

/-- METER_FULL holds for a chute while it names a meter whose owed count is 240 or more. -/
def meterFull (c : Chute) (s : State) : Bool :=
  match s.cabinet.chuteMeter.at c with
  | none => false
  | some m => decide (240 ≤ (s.meter m).owed)

/-- LINK judged for one chute. -/
def judgeLink (c : Chute) (s : State) : State :=
  setReasons c { (s.chute c).reasons with link := (s.chute c).hostLock } s

/-- JAM judged for one chute. -/
def judgeJam (c : Chute) (s : State) : State :=
  setReasons c { (s.chute c).reasons with jam := (s.chute c).state == .jammed } s

/-- METER_FULL judged for every chute. -/
def judgeMeterFull (s : State) : State :=
  forAll allFour (fun c s => setReasons c { (s.chute c).reasons with meterFull := meterFull c s } s) s

/-- Reasons judged for all four chutes together by `f`; LIMIT is posted on the bank key when BANK_LIMIT is added or
removed (R160, R174). -/
def judgeTogether (f : Chute → State → Reasons) (s : State) : State :=
  let changed := allFour.any fun c => (s.chute c).reasons.bankLimit != bankAtLimit s
  let s := forAll allFour (fun c s => setReasons c (f c s) s) s
  if changed then postBank .limit s else s

/-- BANK_LIMIT judged, after a change of the bank. -/
def judgeBankLimit (s : State) : State :=
  judgeTogether (fun c s => { (s.chute c).reasons with bankLimit := bankAtLimit s }) s

/-- BANK_LIMIT and METER_FULL judged, after a change of the working cabinet settings. -/
def judgeSettings (s : State) : State :=
  judgeTogether (fun c s => { (s.chute c).reasons with bankLimit := bankAtLimit s, meterFull := meterFull c s }) s

/-- Every reason judged, at a reset or a load (R160, R175, R186). -/
def judgeAllReasons (s : State) : State :=
  judgeTogether (fun c s =>
    { link := (s.chute c).hostLock
      jam := (s.chute c).state == .jammed
      bankLimit := bankAtLimit s
      meterFull := meterFull c s
      startup := s.coins.startup }) s

/-- A chute's coil is engaged while its set of reasons is not empty (R160). -/
def coilEngaged (s : State) (c : Chute) : Bool := (s.chute c).reasons != Reasons.clear

/-! ### The bank and the queues -/

/-- Units that join the bank, one at a time: a unit past 65,535 joins the drained total instead (R162). -/
def addUnits (n : Nat) (s : State) : State :=
  let joined := min n (65535 - s.coins.bank)
  let s := { s with coins := { s.coins with
    bank := s.coins.bank + joined, drained := s.coins.drained + BitVec.ofNat 32 (n - joined) } }
  let s := if n = 0 then s else judgeBankLimit s
  if joined < n then postBank .overflow s else s

/-- A return: every entry of a slot's queue goes to the bank (R165). -/
def returnQueue (n : Slot) (s : State) : State :=
  match (s.queue n).length with
  | 0 => s
  | k + 1 => postBank .returned (addUnits (k + 1) (s.setQueue n []))

/-! ### Pulse generators -/

/-- The conditions for a pulse start (R166). -/
def mayPulse (n : Slot) (s : State) : Bool :=
  s.generator n == .idle && !(s.queue n).isEmpty && s.co.current == some n && s.router.owner == .slot n

/-- The active levels of a slot's board coin lines are read from its working COINS section (R166). -/
def readCoinLevels (n : Slot) (s : State) : State :=
  { s with coins := { s.coins with lineHigh := s.coins.lineHigh.put n (s.profile n).coins.lineHigh } }

/-- A generator judges whether to start a pulse, and starts it (R166). -/
def judgePulse (n : Slot) (s : State) : State :=
  if mayPulse n s then
    match s.queue n with
    | [] => s
    | line :: rest =>
      let p := (s.profile n).coins
      let s := s.setQueue n rest
      let s := { s with coins := { s.coins with delivered := s.coins.delivered + 1 } }
      let s := increment (coinsDelivered n) s
      (readCoinLevels n s).setGenerator n (.on line (s.now + ms p.pulseOn) (ms p.pulseGap))
  else s

/-- A pulse in ON is cut: the generator enters GAP, the delivered total decreases, and the unit goes to the bank or
back to the queue's head (R167). A queue that is full sends it to the bank (log 15). -/
def cutPulse (n : Slot) (toBank : Bool) (s : State) : State :=
  match s.generator n with
  | .on line _ gap =>
    let s := s.setGenerator n (.gap (s.now + gap))
    let s := { s with coins := { s.coins with delivered := s.coins.delivered - 1 } }
    if toBank || decide (32 ≤ (s.queue n).length) then addUnits 1 s else s.setQueue n (line :: s.queue n)
  | _ => s

/-- A slot's pulse is cut when the owner is not the slot and no QUIESCE away from it stands (R167). -/
def cutIfLost (n : Slot) (s : State) : State :=
  if s.router.owner = .slot n ∨ s.quiescing n = true then s else cutPulse n (!(s.slot n).state.supplied) s

/-- Every pulse that may no longer run is cut, after a change of owner (R167). -/
def cutLostPulses (s : State) : State := forAll allSlots cutIfLost s

/-- A slot's board coin line as driven: not driven while the slot has no supply, otherwise at its active level
during a pulse on it and at its inactive level at rest (R166). -/
def coinLine (s : State) (n : Slot) (k : CoinLine) : Option Bool :=
  if (s.slot n).state.supplied then
    let high := (s.coins.lineHigh.at n).at k
    match s.generator n with
    | .on line _ _ => if line = k then some high else some !high
    | _ => some !high
  else none

/-! ### Meters (R173) -/

/-- An IDLE driver with an owed count above 0 starts a tick. -/
def judgeMeter (m : Meter) (s : State) : State :=
  match (s.meter m).driver, (s.meter m).owed with
  | .idle, k + 1 => judgeMeterFull (s.setMeter m ⟨k, .on (s.now + ms 60)⟩)
  | _, _ => s

/-- One tick is owed to a meter; at 255 UNMETERED increments instead (R161). -/
def oweMeter (m : Meter) (s : State) : State :=
  if 255 ≤ (s.meter m).owed then increment (unmetered m) s
  else judgeMeter m (judgeMeterFull (s.setMeter m { s.meter m with owed := (s.meter m).owed + 1 }))

/-- A meter's output is on during a tick. -/
def meterOutput (s : State) (m : Meter) : Bool :=
  match (s.meter m).driver with
  | .on _ => true
  | _ => false

/-! ### Accepting a coin (R158, R161) -/

/-- Where an accepted coin's units go: the current slot's queue and its line, or the bank (R161). -/
def coinTarget (c : Chute) (s : State) : Option (Slot × CoinLine) :=
  match s.co.current with
  | none => none
  | some n =>
    let p := (s.profile n).coins
    if !s.inFlight && s.router.owner == .slot n && p.direct then (p.chuteMap.at c).map fun k => (n, k) else none

/-- The units of an accepted coin placed: as many as the queue has room for join its tail, the rest the bank. -/
def placeUnits (c : Chute) (v : Nat) (s : State) : State :=
  match coinTarget c s with
  | none => addUnits v s
  | some (n, k) =>
    let joined := min v (32 - (s.queue n).length)
    let s := s.setQueue n (s.queue n ++ List.replicate joined k)
    judgePulse n (addUnits (v - joined) s)

/-- An accepted coin: meter, total, destination, in one event (R161). -/
def acceptCoin (c : Chute) (s : State) : State :=
  let v := s.cabinet.chuteValue.at c
  let s := match s.cabinet.chuteMeter.at c with
    | none => s
    | some m => oweMeter m s
  let s := { s with coins := { s.coins with accepted := s.coins.accepted + BitVec.ofNat 32 v } }
  placeUnits c v s

/-- The end of a pulse: the coin is judged by its width (R158). -/
def judgeCoin (c : Chute) (start : Nat) (s : State) : State :=
  let w := s.now - start
  let s := s.setChute c { s.chute c with state := .ready, jamTimer := none }
  if w < ms (s.cabinet.chuteMin.at c) then postChute c .rejectedShort (increment (chuteRejected c) s)
  else if ms (s.cabinet.chuteMax.at c) < w then postChute c .rejectedLong (increment (chuteRejected c) s)
  else postChute c .accepted (acceptCoin c (increment (chuteAccepted c) s))

/-- A debounced change of a coin input, as the control router hands it (R158, R159). -/
def chuteInput (c : Chute) (active : Bool) (s : State) : State :=
  match (s.chute c).state, active with
  | .ready, true => s.setChute c { s.chute c with state := .inPulse s.now, jamTimer := some (s.now + ms 1000) }
  | .inPulse start, false => judgeCoin c start s
  | .jammed, false => s.setChute c { s.chute c with jamTimer := some (s.now + ms 2000) }
  | .jammed, true => s.setChute c { s.chute c with jamTimer := none }
  | _, _ => s

/-- The jam timer of a chute expires: IN_PULSE enters JAMMED, JAMMED returns to READY (R159). `active` is the
debounced state of its coin input. -/
def jamExpiry (c : Chute) (active : Bool) (s : State) : State :=
  match (s.chute c).state with
  | .inPulse _ =>
    let s := s.setChute c { s.chute c with
      state := .jammed, jamTimer := if active then none else some (s.now + ms 2000) }
    postChute c .jammed (judgeJam c (increment (chuteJams c) s))
  | .jammed => postChute c .cleared (judgeJam c (s.setChute c { s.chute c with state := .ready, jamTimer := none }))
  | .ready => s.setChute c { s.chute c with jamTimer := none }

/-- The number of units in all the pulse queues. -/
def queuedUnits (s : State) : Nat := (allSlots.map fun n => (s.queue n).length).sum

end Sys2Proof.Machine
end

