-- ==== Sys2Proof/Machine/Picture.lean ====
section
/-! DEFINITION. The picture conditioner: the output pixel (R125 to R132), placement (R121, R122), fades (R128,
R129), and still pictures and the dim (R134 to R136). -/

namespace Sys2Proof.Machine

/-! ### The colour path. Every division is a floor: the divisors are positive, where `Int` division is the floor. -/

/-- Clamped to 0..255. -/
def clampByte (v : Int) : Nat := (max 0 (min 255 v)).toNat

/-- The matrix step for one output channel (R126). -/
def matrixStep (m : MatrixRow) (x : RGB) : Nat :=
  clampByte ((m.cr * x.r.toNat + m.cg * x.g.toNat + m.cb * x.b.toNat + 512) / 1024 + m.offset)

/-- Gamma point `k` (R127). -/
def gammaPoint (P : Tab Nat 9) (k : Nat) : Int := ((P.toList.getD k 0 : Nat) : Int)

/-- The gamma step (R127): segment k is floor(v/32), which is 7 for v = 255 as well. -/
def gammaStep (P : Tab Nat 9) (v : Nat) : Nat :=
  let k := v / 32
  clampByte (gammaPoint P k + ((gammaPoint P (k + 1) - gammaPoint P k) * ((v : Int) - 32 * k) + 16) / 32)

/-- The fade step (R128). -/
def fadeScale (g f : Nat) : Nat := (g * f + 128) / 256

/-- A channel of the menu sample matches its key (R130). -/
def keyMatch (m mask lo hi : Byte) : Bool :=
  decide ((lo &&& mask).toNat ≤ (m &&& mask).toNat) && decide ((m &&& mask).toNat ≤ (hi &&& mask).toNat)

/-- The menu sample is transparent: all three channels match (R130). -/
def transparent (o : Overlay) (m : RGB) : Bool :=
  keyMatch m.r o.mask.r o.minimum.r o.maximum.r && keyMatch m.g o.mask.g o.minimum.g o.maximum.g
    && keyMatch m.b o.mask.b o.minimum.b o.maximum.b

/-- One channel of the blend (R130). -/
def blend (alpha m a : Nat) : Nat := (m * alpha + a * (256 - alpha) + 128) / 256

/-- The dim step (R132). -/
def dimScale (b d : Nat) : Nat := (b * d + 128) / 256

/-- A pixel's three components on their way through the steps, each 0 to 255. -/
structure Pixel where
  r : Nat
  g : Nat
  b : Nat
  deriving DecidableEq, Repr

def Pixel.map (f : Nat → Nat) (p : Pixel) : Pixel := ⟨f p.r, f p.g, f p.b⟩

/-- A sample's three channels as a pixel. -/
def pixelOf (x : RGB) : Pixel := ⟨x.r.toNat, x.g.toNat, x.b.toNat⟩

/-- The overlay step (R130). -/
def overlayStep (o : Overlay) (menuPresent : Bool) (m : RGB) (a : Pixel) : Pixel :=
  if o.enable && menuPresent && !transparent o m then
    ⟨blend o.alpha m.r.toNat a.r, blend o.alpha m.g.toNat a.g, blend o.alpha m.b.toNat a.b⟩
  else a

/-- A board sample through the matrix and gamma steps (R126, R127). -/
def colourPath (c : Colours) (x : RGB) : Pixel :=
  ⟨gammaStep c.gamma (matrixStep c.rowR x), gammaStep c.gamma (matrixStep c.rowG x),
    gammaStep c.gamma (matrixStep c.rowB x)⟩

/-! ### Placement (R121, R122) -/

/-- Active lines of each class in PACE (R115). -/
def activeLines : OutClass → Nat
  | .low => 240 | .medium => 384 | .high => 480

/-- Sample replication r (R121). -/
def replication (w : Window) : Nat := if w.activeSamples ≤ 320 then 2 else 1

/-- Line multiplier m (R121). -/
def Placement.multiplier (p : Placement) : Nat := if p.doubled then 2 else 1

/-- The captured sample index at output active sample x in PACE, or none on the border (R121). -/
def paceSample (w : Window) (x : Nat) : Option Nat :=
  let r := replication w
  let left := (640 - r * w.activeSamples) / 2
  if x < left ∨ left + r * w.activeSamples ≤ x then none else some ((x - left) / r)

/-- The captured line index at output active line y in PACE, or none on the border (R121). -/
def paceLine (p : Placement) (cls : OutClass) (y : Nat) : Option Nat :=
  let m := p.multiplier
  let scaled := m * p.window.activeLines
  if scaled ≤ activeLines cls then
    let top := (activeLines cls - scaled) / 2
    if y < top ∨ top + scaled ≤ y then none else some ((y - top) / m)
  else some ((y + (scaled - activeLines cls) / 2) / m)

/-- The captured sample index at position x of a line in PASS, or none on the border (R122). -/
def passSample (w : Window) (x : Nat) : Option Nat :=
  if x < w.firstSample ∨ w.firstSample + w.activeSamples ≤ x then none else some (x - w.firstSample)

/-- The captured line index at output line y in PASS, or none on the border (R122). -/
def passLine (w : Window) (y : Nat) : Option Nat :=
  if y < w.firstLine ∨ w.firstLine + w.activeLines ≤ y then none else some (y - w.firstLine)

/-- Captured sample `i` of captured line `j` of a buffer; a position outside what the buffer holds is open (log 4). -/
def capturedSample (w : Window) (lines : List (List RGB)) (j i : Nat) : RGB :=
  if j < w.activeLines ∧ i < w.activeSamples then (lines.getD j []).getD i .black else Config.uncapturedSample j i

/-- The board sample at an output position: a captured sample, or a border sample of value 0 (R121, R122). -/
def boardSample (f : OutField) (w : Window) (lines : List (List RGB)) (x y : Nat) : RGB :=
  let col := if f.pass then passSample f.placement.window x else paceSample f.placement.window x
  let row := if f.pass then passLine f.placement.window y else paceLine f.placement f.cls y
  match row, col with
  | some j, some i => capturedSample w lines j i
  | _, _ => .black

/-- The width of the active picture: 640 in PACE (R115), S in PASS (R122). -/
def OutField.width (f : OutField) : Nat := if f.pass then f.placement.window.samplesPerLine else 640

/-- The lines of the active picture: the class's in PACE (R115), all of the output's in PASS (R122). -/
def OutField.height (f : OutField) : Nat := if f.pass then f.lineCount else activeLines f.cls

/-- The output pixel at an active position, with the menu sample that meets it there (R125, R131). -/
def OutField.pixel (f : OutField) (menu : RGB) (x y : Nat) : Pixel :=
  match f.shown with
  | .black => ⟨0, 0, 0⟩
  | .standby =>
    let g := if f.menuPresent then pixelOf menu else pixelOf f.standbyColour
    (g.map (fadeScale · f.fade)).map (dimScale · f.dim)
  | .buffer _ _ w lines =>
    let a := (colourPath f.colours (boardSample f w lines x y)).map (fadeScale · f.fade)
    (overlayStep f.overlay f.menuPresent menu a).map (dimScale · f.dim)

/-! ### Fades (R128, R129) -/

/-- The level a fade aims at. -/
def Fade.target (f : Fade) : Nat := if f.rising then 256 else 0

/-- The level of a fade `e` units of time after its request, of the `total` its duration takes (R128, R139). -/
def Fade.levelAt (f : Fade) (e total : Nat) : Nat :=
  if f.rising then min 256 (f.f0 + 256 * e / total) else f.f0 - 256 * e / total

/-- What a fade request makes of a level and a fade in progress (R129, R139): complete at once when the level
already equals the target or the duration is 0, otherwise begun from the present level. -/
def startFade (rising : Bool) (duration level now : Nat) : Nat × Option Fade :=
  let target := if rising then 256 else 0
  if level = target then (level, none)
  else if duration = 0 then (target, none)
  else (level, some ⟨rising, duration, level, now, 0⟩)

/-- The changeover controller asks for a picture fade (R129). -/
def fadePicture (rising : Bool) (duration : Nat) (s : State) : State :=
  let (l, f) := startFade rising duration s.pic.level s.now
  { s with pic := { s.pic with level := l, fade := f } }

/-- The changeover controller sets the picture's level at once (R129). -/
def setPictureLevel (l : Nat) (s : State) : State := { s with pic := { s.pic with level := l, fade := none } }

/-- The changeover controller stops the picture fade where it stands (R129). -/
def stopPictureFade (s : State) : State := { s with pic := { s.pic with fade := none } }

/-- The fade step of an output field start (R128); at the target the fade is complete. -/
def stepPictureFade (s : State) : State :=
  match s.pic.fade with
  | none => s
  | some f =>
    let l := f.levelAt (s.now - f.start) (ms f.duration)
    { s with pic := { s.pic with level := l, fade := if l = f.target then none else some f } }

/-! ### Still pictures and the dim (R134 to R136) -/

/-- An OUTPUT notice with the output mode, class and dim as they stand (R118, R135, R136). -/
def postOutput (dimEvent : Bool) (s : State) : State :=
  post (.output dimEvent s.out.pass s.out.cls s.pic.dimmed) s

/-- A dim standing is lifted (R136); D becomes 256 from the next output field start. -/
def liftDim (s : State) : State :=
  if s.pic.dimmed then postOutput true { s with pic := { s.pic with dimmed := false } } else s

/-- The watched slot: the slot on which the writer is enabled, when it is also the current slot (R134). -/
def watchedNow (s : State) : Option Slot := if s.frame.writer = s.co.current then s.frame.writer else none

/-- The watched slot is judged afresh, and a change of it handled (R134). -/
def judgeWatched (s : State) : State :=
  if watchedNow s = s.pic.watched then s
  else liftDim { s with pic := { s.pic with watched := watchedNow s, previousSig := none, stillTimer := none } }

/-- The still timer starts with the working still limit; under a limit of 0 it stays stopped (R135). -/
def startStill (s : State) : State :=
  { s with pic := { s.pic with
    stillTimer := if s.cabinet.stillLimit = 0 then none else some (s.now + ms (1000 * s.cabinet.stillLimit)) } }

/-- A READY buffer's signature compared with the watched slot's previous one (R135). -/
def stillSignature (n : Slot) (sig : Word16) (s : State) : State :=
  if s.pic.watched = some n then
    match s.pic.previousSig with
    | none => startStill { s with pic := { s.pic with previousSig := some sig } }
    | some old =>
      if old = sig then s else startStill (liftDim { s with pic := { s.pic with previousSig := some sig } })
  else s

/-- The still timer expires: the picture is dimmed (R135). -/
def stillExpiry (s : State) : State :=
  let s := { s with pic := { s.pic with stillTimer := none, dimmed := true, dim := s.cabinet.dimLevel } }
  let s := match s.pic.watched with
    | some n => increment (stillDims n) s
    | none => s
  postOutput true s

/-- D as it is read at an output field start (R132, R136). -/
def refreshDim (s : State) : State :=
  { s with pic := { s.pic with dim := if s.pic.dimmed then s.cabinet.dimLevel else 256 } }

end Sys2Proof.Machine
end

