-- ==== Sys2Proof/Machine/Sound.lean ====
section
/-! DEFINITION. The sound mixer (R137 to R140). -/

namespace Sys2Proof.Machine

/-- One sample scaled by a gain in 1/256, rounded to nearest (R137). -/
def scaleSample (x : Int) (gain : Nat) : Int := (x * gain + 128) / 256

/-- Clamped to −32,768..32,767. -/
def clampSample (x : Int) : Int := max (-32768) (min 32767 x)

/-- The speaker sample for a board sample and a menu sample (R137). -/
def speakerSample (s : State) (board menu : Int) : Int :=
  let p := match s.snd.source with
    | none => 0
    | some _ => scaleSample board s.snd.gain
  let q := scaleSample p (if s.snd.ducked then s.cabinet.duckLevel else 256)
  clampSample (q + scaleSample menu s.cabinet.menuAudio)

/-- The changeover controller asks for an audio fade (R139). -/
def fadeSound (rising : Bool) (duration : Nat) (s : State) : State :=
  let (g, f) := startFade rising duration s.snd.gain s.now
  { s with snd := { s.snd with gain := g, fade := f } }

/-- The changeover controller sets the gain at once (R139). -/
def setGain (g : Nat) (s : State) : State := { s with snd := { s.snd with gain := g, fade := none } }

/-- The changeover controller stops the audio fade where it stands (R139). -/
def stopSoundFade (s : State) : State := { s with snd := { s.snd with fade := none } }

/-- One millisecond's step of the audio fade (R139): e is the number of whole milliseconds since the request. -/
def stepSoundFade (s : State) : State :=
  match s.snd.fade with
  | none => s
  | some f =>
    let e := f.steps + 1
    let g := f.levelAt e f.duration
    let s := s.reach (f.start + ms e)
    { s with snd := { s.snd with gain := g, fade := if g = f.target then none else some { f with steps := e } } }

/-- The duck state judged afresh (R140). -/
def judgeDuck (s : State) : State :=
  { s with snd := { s.snd with ducked := s.pic.overlay.enable && s.pic.menuPresent } }

end Sys2Proof.Machine
end

