-- ==== Sys2Proof/Machine/FrameStore.lean ====
section
/-! DEFINITION. The frame store: the buffers, the capture writer (R100 to R105), the output reader (R106 to R112)
and the hold and blank flags (R113). -/

namespace Sys2Proof.Machine

/-! ### The buffers (R100, R101) -/

def State.buffer (s : State) (b : Fin 3) : Buffer := s.frame.buffers.at b

/-- Sequence number `a` is newer than `b` (R101). -/
def newer (a b : Word16) : Bool := decide (1 ≤ (a - b).toNat) && decide ((a - b).toNat ≤ 32767)

/-- Buffer `x` is newer than buffer `y`; a buffer without a sequence number is neither (R101). -/
def Buffer.newerThan (x y : Buffer) : Bool :=
  match x.seq, y.seq with
  | some a, some b => newer a b
  | _, _ => false

/-- The lowest-numbered buffer in a state. -/
def findBuffer (st : BufState) (s : State) : Option (Fin 3) := allBuffers.find? fun b => (s.buffer b).state == st

/-- The READY buffers, or those of one source. -/
def readyBuffers (n : Option Slot) (s : State) : List (Fin 3) :=
  allBuffers.filter fun b => (s.buffer b).state == .ready && (n.isNone || (s.buffer b).source == n)

/-- Of a list of buffers, the one every other is newer than. -/
def oldestOf (l : List (Fin 3)) (s : State) : Option (Fin 3) :=
  l.find? fun b => l.all fun c => c == b || (s.buffer c).newerThan (s.buffer b)

/-- Of a list of buffers, the one newer than every other. -/
def newestOf (l : List (Fin 3)) (s : State) : Option (Fin 3) :=
  l.find? fun b => l.all fun c => c == b || (s.buffer b).newerThan (s.buffer c)

/-- A READY buffer of a slot exists (R87). -/
def hasReady (n : Slot) (s : State) : Bool := !(readyBuffers (some n) s).isEmpty

/-! ### The capture writer (R102 to R105) -/

/-- A FILLING buffer is marked abandoned (R102). -/
def abandonFilling (s : State) : State :=
  match findBuffer .filling s with
  | some b => s.setBuffer b { s.buffer b with abandoned := true }
  | none => s

/-- The writer is disabled; the picture conditioner is told (R102, R134). -/
def disableWriter (s : State) : State :=
  let s := abandonFilling s
  judgeWatched { s with frame := { s.frame with writer := none } }

/-- The writer is enabled on a slot; the picture conditioner is told (R102, R134). -/
def enableWriter (n : Slot) (s : State) : State :=
  match s.frame.writer with
  | none => judgeWatched { s with frame := { s.frame with writer := some n } }
  | some m =>
    if m = n then s
    else
      let s := disableWriter s
      judgeWatched { s with frame := { s.frame with writer := some n } }

/-- The capture window is latched from the slot's working PICTURE section (R102). -/
def latchWindow (n : Slot) (s : State) : State :=
  { s with frame := { s.frame with window := some (s.profile n).picture.window } }

/-- The writer takes a buffer for a field of slot `n` (R103). -/
def fillBuffer (b : Fin 3) (n : Slot) (s : State) : State :=
  s.setBuffer b
    { state := .filling
      seq := none
      source := some n
      signature := none
      abandoned := false
      window := s.frame.window.getD factoryWindow
      lines := [] }

/-- The writer's choice at an opening of its source's field (R103). -/
def takeForField (n : Slot) (s : State) : State :=
  match findBuffer .filling s with
  | some _ => s
  | none =>
    match findBuffer .free s with
    | some b => fillBuffer b n s
    | none =>
      match oldestOf (readyBuffers none s) s with
      | some b => increment framesDropped (fillBuffer b n s)
      | none => s

/-- A monitor hands a field opening (R57, R103). -/
def fieldOpens (src : Source) (s : State) : State :=
  match s.frame.writer with
  | some n => if n.source = src then takeForField n s else s
  | none => s

/-- The buffer being filled by a source's open field. -/
def fillingFrom (src : Source) (s : State) : Option (Fin 3) :=
  (findBuffer .filling s).filter fun b => (s.buffer b).source.map Slot.source == some src

/-- The line period H of a monitor, in ticks (R105). -/
def linePeriodOf (m : Monitor) : Option Nat :=
  match m.fref, m.lref with
  | some f, some l => some (f / l)
  | _, _ => if m.lastL = 0 then none else some (m.lastF / m.lastL)

/-- The level of a video signal `a / b` ticks after the line's sync: that of its latest change by then, black before the
first (R105; log 14). -/
def levelAt (video : List (Nat × RGB)) (a b : Nat) : RGB :=
  video.foldl (fun c e => if e.1 * b ≤ 1024 * a then e.2 else c) .black

/-- The captured samples of one line: sample i is taken at position p = first active sample + i of the S equal parts of
the line period H, p × H / S ticks after the sync; it is black at a position of S or more and while the monitor holds
no line period (R105). -/
def captureSamples (w : Window) (period : Option Nat) (video : List (Nat × RGB)) : List RGB :=
  (List.range w.activeSamples).map fun i =>
    let p := w.firstSample + i
    match period with
    | some h => if p < w.samplesPerLine then levelAt video (p * h) w.samplesPerLine else .black
    | none => .black

/-- Line sync number `k` of a source's field, with the video signal of the line it begins (R105). -/
def captureLine (src : Source) (k : Nat) (video : List (Nat × RGB)) (s : State) : State :=
  match fillingFrom src s with
  | none => s
  | some b =>
    let x := s.buffer b
    let w := x.window
    if w.firstLine ≤ k ∧ k < w.firstLine + w.activeLines then
      s.setBuffer b { x with lines := x.lines ++ [captureSamples w (linePeriodOf (s.monitor src)) video] }
    else s

/-- The lines of a whole window, those the field did not reach being black (R105). -/
def completeLines (x : Buffer) : List (List RGB) :=
  x.lines ++ List.replicate (x.window.activeLines - x.lines.length) (List.replicate x.window.activeSamples .black)

/-- One bit entering the CRC-16 register, generator x^16 + x^12 + x^5 + 1 (R104). -/
def crcBit (reg : Word16) (b : Bool) : Word16 :=
  let shifted := reg <<< 1
  if reg.msb != b then shifted ^^^ 0x1021 else shifted

/-- One byte entering the register, most significant bit first (R104). -/
def crcByte (reg : Word16) (x : Byte) : Word16 :=
  [7, 6, 5, 4, 3, 2, 1, 0].foldl (fun reg i => crcBit reg (x.getLsbD i)) reg

/-- One sample entering the register: R, then G, then B (R104). -/
def crcSample (reg : Word16) (x : RGB) : Word16 := crcByte (crcByte (crcByte reg x.r) x.g) x.b

/-- The signature of a captured field, in raster order from FFFFh, with no inversion (R104). -/
def signatureOf (lines : List (List RGB)) : Word16 := lines.foldl (fun reg line => line.foldl crcSample reg) 0xFFFF

/-- A READY buffer is reported to the slot manager, the picture conditioner and the changeover controller (R104). -/
def reportReady (n : Slot) (sig : Word16) (s : State) : State :=
  let s := s.setSlot n { s.slot n with lastSig := some sig }
  (stillSignature n sig s).report (.ready n sig)

/-- An accepted, not abandoned field makes its buffer READY (R104). -/
def makeReady (b : Fin 3) (s : State) : State :=
  let x := s.buffer b
  let lines := completeLines x
  let sig := signatureOf lines
  let s := s.setBuffer b { x with state := .ready, seq := some s.frame.nextSeq, signature := some sig, lines := lines }
  let s := { s with frame := { s.frame with nextSeq := s.frame.nextSeq + 1 } }
  match x.source with
  | some n => reportReady n sig s
  | none => s

/-- A monitor hands a field closing with its verdict (R57, R104). -/
def fieldCloses (src : Source) (accepted : Bool) (s : State) : State :=
  match fillingFrom src s with
  | none => s
  | some b => if accepted && !(s.buffer b).abandoned then makeReady b s else s.setBuffer b .free

/-! ### The flags (R113) -/

def setHold (h : Bool) (s : State) : State := { s with frame := { s.frame with hold := h } }

def setBlank (b : Bool) (s : State) : State := { s with frame := { s.frame with blank := b } }

/-! ### The output reader (R106 to R112) -/

/-- The reveal of a slot (R106). -/
def revealSlot (n : Slot) (s : State) : State :=
  let fin := (s.monitor n.source).fref
  { s with frame := { s.frame with reader := some n, firstTake := true, fin := fin, acc := fin.getD 0 / 2 } }

/-- The reveal of standby (R106): every READY buffer and the SHOWING buffer become FREE. -/
def revealStandby (s : State) : State :=
  { s with frame := { s.frame with
      reader := none
      firstTake := false
      fin := none
      acc := 0
      buffers := Vector.ofFn fun b =>
        let x := s.buffer b
        match x.state with
        | .ready | .showing => .free
        | .free | .filling => x } }

/-- A re-centre of the accumulator (R112). -/
def recentre (s : State) : State :=
  let fin := match s.frame.reader with
    | some n => ((s.monitor n.source).fref).or s.frame.fin
    | none => s.frame.fin
  { s with frame := { s.frame with fin := fin, acc := fin.getD 0 / 2 } }

/-- Fin brought up to date before the reader acts (R107). -/
def refreshFin (s : State) : State :=
  match s.frame.reader with
  | some n => { s with frame := { s.frame with fin := ((s.monitor n.source).fref).or s.frame.fin } }
  | none => s

/-- The reader takes a buffer: it becomes SHOWING, the previous SHOWING buffer and every READY buffer older than it
become FREE (R108 to R111). -/
def showBuffer (b : Fin 3) (s : State) : State :=
  let taken := s.buffer b
  { s with frame := { s.frame with
      buffers := Vector.ofFn fun c =>
        let x := s.buffer c
        if c = b then { x with state := .showing }
        else match x.state with
          | .showing => .free
          | .ready => if taken.newerThan x then .free else x
          | .free | .filling => x } }

/-- The READY buffers of a slot newer than the SHOWING buffer. -/
def newerThanShown (n : Slot) (s : State) : List (Fin 3) :=
  match findBuffer .showing s with
  | none => []
  | some c => (readyBuffers (some n) s).filter fun b => (s.buffer b).newerThan (s.buffer c)

/-- The first take (R108). -/
def firstTake (n : Slot) (s : State) : State :=
  match newestOf (readyBuffers (some n) s) s with
  | none => s
  | some b =>
    let s := showBuffer b s
    { s with frame := { s.frame with firstTake := false } }

/-- The reader in PASS (R109). -/
def readPass (n : Slot) (s : State) : State :=
  match newestOf (newerThanShown n s) s with
  | some b => showBuffer b s
  | none => increment framesRepeated s

/-- The accumulator advanced by Fout: the number of input fields to advance by, and the new A (R110). Subtracting Fin
while A is Fin or more is division by Fin. -/
def advance (acc fout fin : Nat) : Nat × Nat := ((acc + fout) / fin, (acc + fout) % fin)

/-- The accumulator re-centred after a late or starved field (R111). -/
def halfFin (s : State) : State := { s with frame := { s.frame with acc := s.frame.fin.getD 0 / 2 } }

/-- The reader's choice for an advance of `k` (R111). -/
def readAhead (n : Slot) (k : Nat) (s : State) : State :=
  let target := (findBuffer .showing s).bind fun c => (s.buffer c).seq.map (· + BitVec.ofNat 16 k)
  match (readyBuffers (some n) s).find? fun b => target.isSome && (s.buffer b).seq == target with
  | some b => showBuffer b s
  | none =>
    match newestOf (newerThanShown n s) s with
    | some b => halfFin (showBuffer b s)
    | none => halfFin (increment framesRepeated s)

/-- The reader in PACE (R110). -/
def readPace (n : Slot) (s : State) : State :=
  match s.frame.fin with
  | none => s
  | some fin =>
    let (k, a) := advance s.frame.acc s.out.fout fin
    let s := { s with frame := { s.frame with acc := a } }
    if k = 0 then s else readAhead n k s

/-- A changeover to a slot is in flight and has not reached REVEAL, before which the reader takes no buffer of the slot
(R85, R87). -/
def awaitsReveal (n : Slot) (s : State) : Bool :=
  match s.co.record with
  | some r => r.target == some n && r.phase != .reveal && r.phase != .grant
  | none => false

/-- The reader takes an output field start (R107). While the reader source is the `to` of a changeover that has not
reached REVEAL, as in a return to `from`, the reader coasts (R85, R87; log 53). -/
def readerStart (s : State) : State :=
  if s.frame.blank || s.frame.hold then s
  else match s.frame.reader with
    | none => s
    | some n =>
      let s := refreshFin s
      if awaitsReveal n s then s
      else if s.frame.firstTake then firstTake n s
      else if s.frame.writer ≠ some n then s
      else if s.out.pass then readPass n s
      else readPace n s

/-- The SHOWING buffer's picture, or the standby picture when none is (R107, R108). -/
def shownBuffer (s : State) : Shown :=
  match findBuffer .showing s with
  | none => .standby
  | some b =>
    match (s.buffer b).source, (s.buffer b).seq with
    | some n, some q => .buffer n q (s.buffer b).window (s.buffer b).lines
    | _, _ => .standby

/-- What the reader hands the picture conditioner once it has acted (R107). -/
def shownNow (s : State) : Shown :=
  if s.frame.blank then .black
  else if s.frame.hold || s.frame.reader.isSome then shownBuffer s
  else .standby

end Sys2Proof.Machine
end

