-- ==== Sys2Proof/Machine/Monitors.lean ====
section
/-! DEFINITION. The sync monitors: fields, classes, lock and tracking, the sync timer, and menu presence
(R56 to R73). -/

namespace Sys2Proof.Machine

/-! ### Figures (R58 to R61) -/

/-- A field is accepted (R58). -/
def fieldAccepted (f l : Nat) : Bool :=
  decide (337500 ≤ f) && decide (f ≤ 675000) && decide (200 ≤ l) && decide (l ≤ 700)

/-- Line rate in hertz (R59). -/
def lineRateOf (f l : Nat) : Nat := (27000000 * l + f / 2) / f

/-- Field rate in centihertz (R59). -/
def fieldRateOf (f : Nat) : Nat := (2700000000 + f / 2) / f

/-- The class of a line rate (R60). -/
def classOf (rate : Nat) : SigClass :=
  if 14500 ≤ rate ∧ rate ≤ 16500 then .low
  else if 23500 ≤ rate ∧ rate ≤ 26500 then .medium
  else if 30000 ≤ rate ∧ rate ≤ 32500 then .high
  else .outOfClass

/-- A field of period `f` and class `c` is steady against a reference period (R61). -/
def steady (c : SigClass) (f ref : Nat) : Bool := c != .outOfClass && decide (absDiff f ref ≤ ref / 256)

/-- One step of the tracked reference (R65). -/
def trackRef (fref f : Nat) : Nat := ((fref : Int) + Int.tdiv ((f : Int) - fref) 16).toNat

/-! ### The record's transitions: a new record, with the cause of its SIGNAL notice where one is posted -/

/-- The seek stage, started at a moment (R67). -/
def seekTimer (now : Nat) : Option SyncTimer := some ⟨.seek, now, now + ms 500⟩

/-- The first stage, started at an accepted field (R67). -/
def firstTimer (now fref : Nat) : Option SyncTimer := some ⟨.first, now, now + 2 * fref⟩

/-- A new run begun by a field in SEEKING (R62, R63, R66). -/
def Monitor.seekFrom (m : Monitor) (now f : Nat) (c : SigClass) : Monitor :=
  { m with
    state := .seeking
    reference := some f
    run := 1
    runSum := f
    cls := c
    unsteady := 0
    fref := none
    lref := none
    timer := seekTimer now }

/-- An accepted field in SEEKING (R63, R64). -/
def Monitor.seekField (m : Monitor) (now f l : Nat) (c : SigClass) : Monitor × Option SignalCause :=
  if steady c f (m.reference.getD 0) && c == m.cls then
    let sum := m.runSum + f
    if 3 ≤ m.run then
      ({ m with
          state := .locked
          run := 4
          runSum := sum
          fref := some (sum / 4)
          lref := some l
          unsteady := 0
          reference := none
          timer := firstTimer now (sum / 4) }, some .locked)
    else ({ m with run := m.run + 1, runSum := sum, reference := some f, timer := seekTimer now }, none)
  else (m.seekFrom now f c, none)

/-- An accepted field in LOCKED or WEAK (R65, R66, R68). -/
def Monitor.lockField (m : Monitor) (now f l : Nat) (c : SigClass) : Monitor × Option SignalCause :=
  let fref := m.fref.getD 0
  if c ≠ m.cls then (m.seekFrom now f c, some .changed)
  else if steady c f fref then
    let tracked := trackRef fref f
    ({ m with
        state := .locked
        fref := some tracked
        lref := some l
        unsteady := 0
        timer := firstTimer now tracked }, if m.state = .weak then some .locked else none)
  else if 2 ≤ m.unsteady then (m.seekFrom now f c, some .changed)
  else ({ m with unsteady := m.unsteady + 1, timer := firstTimer now fref }, none)

/-- An accepted field: its figures are kept, and it acts under the monitor's state (R59, R62, R63, R65, R68). -/
def Monitor.acceptField (m : Monitor) (now f l : Nat) : Monitor × Option SignalCause :=
  let rate := lineRateOf f l
  let c := classOf rate
  let m := { m with lastF := f, lastL := l, lineRate := rate, fieldRate := fieldRateOf f }
  match m.state with
  | .dark => (m.seekFrom now f c, none)
  | .seeking => m.seekField now f l c
  | .locked | .weak => m.lockField now f l c

/-- The record of a monitor gone DARK by its sync timer (R67). -/
def Monitor.dark (m : Monitor) : Monitor :=
  { m with
    state := .dark
    fref := none
    lref := none
    cls := .none
    reference := none
    run := 0
    runSum := 0
    unsteady := 0
    timer := none }

/-- The record with its readings cleared, in DARK (R70). -/
def Monitor.cleared (m : Monitor) : Monitor := { m.dark with lastF := 0, lastL := 0, lineRate := 0, fieldRate := 0 }

/-! ### Menu presence (R72) -/

/-- The menu is present: monitor 9 is LOCKED and its Fref is near Fout. -/
def menuLocked (s : State) : Bool :=
  let m := s.monitor sourceM
  match m.state, m.fref with
  | .locked, some f => decide (absDiff f s.out.fout ≤ s.out.fout / 256)
  | _, _ => false

/-- Presence judged afresh and handed to the picture conditioner and the duck (R72, R140). -/
def judgeMenu (s : State) : State := judgeDuck { s with pic := { s.pic with menuPresent := menuLocked s } }

/-! ### A monitor's change taken by the part -/

/-- A SIGNAL notice with the monitor's figures as they stand after the change (R73). -/
def postSignal (src : Source) (c : SignalCause) (s : State) : State :=
  let m := s.monitor src
  post (.signal src m.state c m.cls (m.fref.getD 0)) s

/-- A monitor's new record: a SIGNAL notice where the change posts one, menu presence for monitor 9, and a change of
state reported to the changeover controller (R71 to R73). -/
def applyMonitor (src : Source) (m : Monitor) (c : Option SignalCause) (s : State) : State :=
  let old := (s.monitor src).state
  let s := s.setMonitor src m
  let s := match c with
    | some c => postSignal src c s
    | none => s
  let s := if src = sourceM then judgeMenu s else s
  if m.state = old then s else s.report (.monitor src m.state)

/-- The open field of a source closes with a verdict: the frame store is handed the closing (R57, R58). -/
def closeField (src : Source) (accepted : Bool) (s : State) : State :=
  let m := s.monitor src
  fieldCloses src accepted (s.setMonitor src { m with field := none })

/-- A vertical sync closes the open field, if one is open, and the field is judged (R57, R58). -/
def syncCloses (src : Source) (s : State) : State :=
  match (s.monitor src).field with
  | none => s
  | some f =>
    let period := s.now - f.start
    if fieldAccepted period f.lines then
      let s := closeField src true s
      let (m, c) := (s.monitor src).acceptField s.now period f.lines
      applyMonitor src m c s
    else closeField src false s

/-- A vertical sync opens a new field (R57). -/
def syncOpens (src : Source) (s : State) : State :=
  let m := s.monitor src
  fieldOpens src (s.setMonitor src { m with field := some ⟨s.now, 0⟩ })

/-- A line sync of a source with a field open (R57, R105). -/
def lineSyncAt (src : Source) (video : List (Nat × RGB)) (s : State) : State :=
  let m := s.monitor src
  match m.taking, m.field with
  | true, some f =>
    let s := captureLine src f.lines video s
    s.setMonitor src { m with field := some { f with lines := min 701 (f.lines + 1) } }
  | _, _ => s

/-- The field still open 675,000 ticks after its opening is closed as rejected (R58). -/
def fieldExpires (src : Source) (s : State) : State :=
  match (s.monitor src).field with
  | none => s
  | some f => closeField src false (s.reach (f.start + 675000))

/-- The sync timer expires (R67). -/
def syncTimerExpires (src : Source) (s : State) : State :=
  let m := s.monitor src
  match m.timer with
  | none => s
  | some t =>
    let s := s.reach t.expiry
    match t.stage with
    | .first =>
      let m' := { m with timer := some ⟨.second, t.since, t.since + 8 * m.fref.getD 0⟩ }
      if m.state = .locked then applyMonitor src { m' with state := .weak } (some .weak) s
      else applyMonitor src m' none s
    | .seek | .second => applyMonitor src m.dark (some .lost) s

/-! ### Supply and restart (R69, R70, R75) -/

/-- Slot n's supply is switched on (R69). -/
def supplyOn (n : Slot) (s : State) : State :=
  s.setMonitor n.source { s.monitor n.source with taking := true }

/-- Slot n's supply is switched off (R70). -/
def supplyOff (n : Slot) (s : State) : State :=
  let src := n.source
  let s := s.setMonitor src { s.monitor src with taking := false }
  let s := match (s.monitor src).field with
    | some _ => closeField src false s
    | none => s
  let m := s.monitor src
  applyMonitor src m.cleared (if m.state = .dark then none else some .lost) s

/-- A monitor at RESTART: the open field discarded, the readings cleared, DARK (R75). -/
def Monitor.restarted (m : Monitor) (taking : Bool) : Monitor := { m.cleared with field := none, taking := taking }

/-- Every monitor at RESTART: those of supplied slots and monitor 9 keep taking syncs (R75). -/
def restartMonitors (s : State) : State :=
  judgeMenu { s with monitors := Vector.ofFn fun src =>
    (s.monitor src).restarted (if h : src.val < 8 then (s.slot ⟨src.val, h⟩).state.supplied else true) }

end Sys2Proof.Machine
end

