-- ==== Sys2Proof/Machine/Output.lean ====
section
/-! DEFINITION. The output timing generator: the output decision, the retime and the start-up decision (R114 to
R120), and the output field start at which the reader and the conditioner act (R107, R125). -/

namespace Sys2Proof.Machine

/-! ### Timings and decisions -/

/-- Line period and total lines of a class in PACE (R115). -/
def paceTiming : OutClass → Nat × Nat
  | .low => (1716, 262)
  | .medium => (1080, 416)
  | .high => (858, 525)

/-- Fout of a class in PACE: the line period times the total lines (R115). -/
def paceFout (c : OutClass) : Nat := (paceTiming c).1 * (paceTiming c).2

/-- An output decision other than CLASS_MISMATCH (R117). -/
structure Decision where
  pass : Bool
  cls : OutClass
  slaved : Option Slot
  doubled : Bool
  deriving DecidableEq, Repr

/-- The output class of a signal class, if it is one of the three. -/
def SigClass.output : SigClass → Option OutClass
  | .low => some .low
  | .medium => some .medium
  | .high => some .high
  | .none | .outOfClass => Option.none

/-- The field rate lies in the follow range (R117). -/
def inFollowRange (c : Cabinet) (fref : Nat) : Bool :=
  decide (c.followMin ≤ fieldRateOf fref) && decide (fieldRateOf fref ≤ c.followMax)

/-- Cases 3 to 6 of the output decision, for a monitor of an output class (R117). -/
def decideFor (n : Slot) (follow : Bool) (c : Cabinet) (cls : OutClass) (fref : Nat) : Option Decision :=
  if c.multisync && follow && inFollowRange c fref then some ⟨true, cls, some n, false⟩
  else if cls = c.homeClass then some ⟨false, c.homeClass, none, false⟩
  else if cls = .low ∧ c.homeClass = .high then some ⟨false, .high, none, true⟩
  else none

/-- The output decision for a slot; `none` is CLASS_MISMATCH (R117). -/
def decision (n : Slot) (s : State) : Option Decision :=
  let m := s.monitor n.source
  let p := s.profile n
  match m.state.hasLock, m.fref, m.cls.output with
  | true, some fref, some cls =>
    if p.general.expectedClass.isSome && p.general.expectedClass != some cls then none
    else decideFor n p.picture.follow s.cabinet cls fref
  | _, _, _ => none

/-- The decision for standby: PACE at the home class (R117). -/
def standbyDecision (s : State) : Decision := ⟨false, s.cabinet.homeClass, none, false⟩

/-- The output decision for a slot or standby. -/
def decisionFor (t : Option Slot) (s : State) : Option Decision :=
  match t with
  | none => some (standbyDecision s)
  | some n => decision n s

/-- The Fref a decision's slaved source holds. -/
def Decision.fref (d : Decision) (s : State) : Nat :=
  match d.slaved with
  | some n => (s.monitor n.source).fref.getD 0
  | none => 0

/-- A decision needs a retime against the output as it runs (R118). -/
def needsRetime (d : Decision) (s : State) : Bool :=
  d.pass != s.out.pass || d.cls != s.out.cls
    || (d.pass && s.out.pass && decide (s.out.fout / 128 < absDiff (d.fref s) s.out.fout))

/-- A slot's signal is acceptable (R119). -/
def acceptable (n : Slot) (s : State) : Bool := (decision n s).isSome

/-- A slot's signal fits the present output (R119). -/
def fits (n : Slot) (s : State) : Bool :=
  match decision n s with
  | some d => !needsRetime d s
  | none => false

/-! ### The output field start (R107, R116, R125) -/

/-- In PASS, Fout follows the slaved source's Fref (R116). -/
def followSource (s : State) : State :=
  match s.out.pass, s.out.slaved with
  | true, some n =>
    match (s.monitor n.source).fref with
    | some f =>
      if f = s.out.fout then s
      else judgeMenu { s with out := { s.out with fout := f, linePeriod := f / s.out.lineCount } }
    | none => s
  | _, _ => s

/-- The placement of what is shown: the shown buffer's source slot's (R121; log 26). A black or standby field in PASS has
the geometry of the output's slaved source, S being that of the window latched for it (R122); with no slaved source,
in PACE or from a RESTART on, the geometry last held stands. -/
def placementOf (shown : Shown) (s : State) : Placement :=
  match shown, s.out.slaved with
  | .buffer n _ _ _, _ => s.frame.placements.at n
  | _, some n => s.frame.placements.at n
  | _, none => s.pic.field.placement

/-- The colour settings of what is shown: the shown buffer's source slot's (R125). -/
def coloursOf (shown : Shown) (s : State) : Colours :=
  match shown with
  | .buffer n _ _ _ => (s.profile n).picture.colours
  | _ => s.pic.field.colours

/-- The conditioner fixes everything it holds for the field (R125). -/
def fixField (s : State) : State :=
  let shown := shownNow s
  { s with pic := { s.pic with field :=
    { shown := shown
      placement := placementOf shown s
      pass := s.out.pass
      cls := s.out.cls
      lineCount := s.out.lineCount
      colours := coloursOf shown s
      fade := s.pic.level
      overlay := s.pic.overlay
      menuPresent := s.pic.menuPresent
      standbyColour := s.cabinet.standbyColour
      dim := s.pic.dim } } }

/-- An output field start: the reader, the fade step, the dim and the field's settings, and the next start a field
period later (R107, R114, R125, R128). Where Fout follows its source at this start (R116), menu presence is judged by
the new Fout (R72) before the conditioner reads it, so the new presence governs this very field; the spec does not
order the two (the model's choice, log 48). -/
def fieldStart (s : State) : State :=
  let s := readerStart (followSource s)
  let s := fixField (refreshDim (stepPictureFade s))
  { s with out := { s.out with nextStart := s.now + s.out.fout } }

/-! ### Retime (R118) -/

/-- The Lref of a slot's monitor, as latched for PASS (R116). -/
def lrefOf (n : Slot) (s : State) : Nat := (s.monitor n.source).lref.getD 0

/-- The generator with a decision's mode, class, slaved source, Fout and line timing (R115, R116, R118). -/
def Output.take (o : Output) (d : Decision) (s : State) : Output :=
  match d.pass, d.slaved with
  | true, some n =>
    { o with
      pass := true
      cls := d.cls
      fout := d.fref s
      slaved := some n
      lineCount := lrefOf n s
      linePeriod := d.fref s / lrefOf n s }
  | _, _ =>
    { o with
      pass := false
      cls := d.cls
      fout := paceFout d.cls
      slaved := none
      lineCount := (paceTiming d.cls).2
      linePeriod := (paceTiming d.cls).1 }

/-- A retime: the decision's timing, menu presence, the settle timer, the OUTPUT notice and an output field start,
as one event (R118). Menu presence is judged by the new Fout before the field start fixes the field, although R118
lists the field start first (the model's choice, log 48). -/
def retime (d : Decision) (s : State) : State :=
  let s := judgeMenu { s with out := s.out.take d s }
  let settle := s.cabinet.settleTime
  let s := { s with out := { s.out with
    settle := if settle = 0 then none else some (s.now + ms settle), startMark := false } }
  fieldStart (postOutput false s)

/-- A decision that needs no retime: in PASS the slaved source becomes its slot, with its Lref latched (R118). -/
def follow (d : Decision) (s : State) : State :=
  match d.pass, d.slaved with
  | true, some n =>
    { s with out := { s.out with
      slaved := some n, lineCount := lrefOf n s, linePeriod := s.out.fout / lrefOf n s } }
  | _, _ => s

/-- The placement of a slot fixed at its decision, from the window latched for it (R121). The decision is that of RETIME: a
later test that the signal still fits (R88, R96, R98) fixes no placement anew, so the line multiplier stays for a board
that relocks at another class and still fits (the model's choice, log 60). -/
def placeSlot (n : Slot) (d : Decision) (s : State) : State :=
  { s with frame := { s.frame with
    placements := s.frame.placements.put n ⟨s.frame.window.getD factoryWindow, d.doubled⟩ } }

/-! ### Settle and the start-up decision (R118, R120) -/

/-- The end of a settle: a settle the start-up decision began clears the blank flag when no changeover is in flight
(R120). The start-up mark is set only while that settle runs (R114). -/
def settleDone (s : State) : State :=
  let s := if s.out.startMark && !s.inFlight then setBlank false s else s
  { s with out := { s.out with settle := none, startMark := false } }

/-- The start-up decision (R120). -/
def startupDecision (s : State) : State :=
  let d := standbyDecision s
  if needsRetime d s then
    let s := retime d s
    let s := { s with out := { s.out with startMark := true } }
    if s.out.settle.isNone then settleDone s else s
  else setBlank false s

/-- The frame store, the generator, the conditioner and the mixer at RESTART (R123, R141). The field in progress goes on
with what was fixed for it, and the black of R141 begins at the next output field start, where R113 has the blank flag
take its effect (the model's choice, log 49). -/
def restartPicture (s : State) : State :=
  let field := s.pic.field
  { s with
    frame := .initial
    out := { s.out with slaved := none, settle := none, startMark := false }
    pic := { Conditioner.initial with field := field }
    snd := .initial }

end Sys2Proof.Machine
end

