-- ==== Sys2Proof/Machine/Router.lean ====
section
/-! DEFINITION. The control router: debounce, owners, the working map, the grant mask, the chord and the play timer
(R142 to R156). -/

namespace Sys2Proof.Machine

/-! ### Inputs and lines (R142, R144) -/

/-- The input whose number a line shares (R144). -/
def lineInput (t : Line) : Input := ⟨t.val, by omega⟩

/-- The line an input shares its number with: inputs 0 to 54 (R144). -/
def inputLine (i : Input) : Option Line := if h : i.val < 55 then some ⟨i.val, h⟩ else none

/-- The player and direction of a direction input (R142). -/
def dirOf (i : Input) : Option (Player × Dir) :=
  if h : i.val < 52 then
    let p : Player := ⟨i.val / 13, by omega⟩
    match i.val % 13 with
    | 0 => some (p, .up)
    | 1 => some (p, .down)
    | 2 => some (p, .left)
    | 3 => some (p, .right)
    | _ => none
  else none

/-- The START inputs 12, 25, 38 and 51 (R155). -/
def isStart (i : Input) : Bool := decide (i.val < 52) && i.val % 13 == 12

/-- The chute of a coin input, 55 to 58 (R143). -/
def inputChute (i : Input) : Option Chute :=
  if h : 55 ≤ i.val ∧ i.val < 59 then some ⟨i.val - 55, by omega⟩ else none

/-- The coin input of a chute (R142). -/
def coinInput (c : Chute) : Input := ⟨55 + c.val, by omega⟩

/-- The MENU input (R142). -/
def menuInput : Input := 59

/-- An input's debounced state. -/
def inputActive (s : State) (i : Input) : Bool := s.router.debounced.at i

/-! ### The 4-way step, the mask and the map (R149 to R151) -/

/-- The opposite direction. -/
def Dir.opposite : Dir → Dir
  | .up => .down | .down => .up | .left => .right | .right => .left

/-- A player's direction order brought up to date (R150). -/
def orderWith (d : Dir) (active : Bool) (l : List Dir) : List Dir :=
  let rest := l.filter fun e => e != d
  if active then rest ++ [d] else rest

/-- The direction that passes for a player whose 4-way flag is on (R150). -/
def passedDir (l : List Dir) : Option Dir :=
  match l.getLast? with
  | none => none
  | some d => if l.contains d.opposite then none else some d

/-- An input's state after the 4-way step (R150). -/
def passes (s : State) (i : Input) : Bool :=
  match dirOf i with
  | some (p, d) => if s.router.fourWay.at p then passedDir (s.router.order.at p) == some d else inputActive s i
  | none => inputActive s i

/-- A map source's state after the 4-way step and the grant mask (R151). -/
def sourceActive (s : State) (t : Line) : Bool := passes s (lineInput t) && !s.router.grantMask.at t

/-- A board line is active when any entry of the working map that targets it gives active (R149). -/
def lineActive (s : State) (t : Line) : Bool :=
  s.router.workingMap.any fun e => e.target == t && sourceActive s e.source != e.invert

/-- A slot's harness line as driven: not driven while the slot has no supply; active only for the owner slot
(R144, R149). -/
def boardLine (s : State) (n : Slot) (t : Line) : Option Bool :=
  if (s.slot n).state.supplied then
    let high := (s.slot n).lineHigh.at t
    some (if s.router.owner == .slot n && lineActive s t then high else !high)
  else none

/-! ### Changes of owner (R145, R151, R153) -/

/-- An INPUT notice with the present states and the latch (R153). -/
def postInput (s : State) : State := post (.input s.router.debounced s.router.latch) s

/-- The owner becomes LINK; a change to it posts the snapshot (R146, R153). -/
def giveLink (s : State) : State :=
  let was := s.router.owner
  let s := { s with router := { s.router with owner := .link, grantMask := Tab.all 55 false, playTimer := none } }
  cutLostPulses (if was = .link then s else postInput s)

/-- The owner becomes NONE (R146). -/
def giveNone (s : State) : State :=
  cutLostPulses { s with router := { s.router with owner := .none, grantMask := Tab.all 55 false, playTimer := none } }

/-- The inputs 0 to 54 that are active (R151). -/
def heldInputs (s : State) : Tab Bool 55 := Vector.ofFn fun t => inputActive s (lineInput t)

/-- The owner becomes a slot: the grant mask is taken and the play timer starts (R146, R151, R155). -/
def giveSlot (n : Slot) (s : State) : State :=
  let s := { s with router := { s.router with
    owner := .slot n, claim := none, grantMask := heldInputs s, playTimer := some (s.now + ms 1000) } }
  judgePulse n (cutLostPulses s)

/-- The changeover controller's request at QUIESCE (R146). -/
def routerQuiesce (s : State) : State :=
  let s := { s with router := { s.router with claim := none } }
  if s.router.linkHold then giveLink s else giveNone s

/-- The working map and 4-way flags copied, and the active levels read, at GRANT (R144, R146). -/
def copyMap (t : Option Slot) (s : State) : State :=
  match t with
  | none => { s with router := { s.router with workingMap := [], fourWay := Tab.all 4 false } }
  | some n =>
    let p := s.profile n
    let s := s.setSlot n { s.slot n with lineHigh := p.general.lineHigh }
    { s with router := { s.router with workingMap := p.controls.toList.flatten, fourWay := p.general.fourWay } }

/-- The changeover controller's request at GRANT (R146). -/
def routerGrant (t : Option Slot) (s : State) : State :=
  let s := copyMap t s
  match t with
  | none => giveLink s
  | some n =>
    if s.router.linkHold then giveLink s
    else if (s.slot n).state = .live then giveSlot n s
    else
      let s := giveNone s
      { s with router := { s.router with claim := some n } }

/-- The owner slot has left LIVE (R147). -/
def ownerLost (n : Slot) (new : SlotState) (s : State) : State :=
  let s := giveNone s
  if new = .held then { s with router := { s.router with claim := some n } } else s

/-- The resume claim's slot has changed state (R147). -/
def claimChanged (n : Slot) (new : SlotState) (s : State) : State :=
  match new with
  | .live => if s.inFlight then s else giveSlot n s
  | .fault | .empty => { s with router := { s.router with claim := none } }
  | .off | .powering | .held | .booting | .frozen => s

/-- A slot's state change taken by the router (R147). -/
def routerSlotChanged (n : Slot) (new : SlotState) (s : State) : State :=
  if s.router.owner = .slot n ∧ new ≠ .live then ownerLost n new s
  else if s.router.claim = some n then claimChanged n new s
  else s

/-! ### The chord (R154) -/

/-- The chord's two inputs as inputs. -/
def chordPair (s : State) : Option (Input × Input) := s.cabinet.chord.map fun p => (lineInput p.1, lineInput p.2)

/-- A chord is named and both its inputs are active. -/
def chordHeld (s : State) : Bool :=
  match chordPair s with
  | some (a, b) => inputActive s a && inputActive s b
  | none => false

/-- The chord judged after a change of one of its inputs (R154). -/
def judgeChord (i : Input) (active : Bool) (s : State) : State :=
  match chordPair s with
  | none => s
  | some (a, b) =>
    if i = a ∨ i = b then
      if active then
        if chordHeld s && s.router.chordArmed then
          { s with router := { s.router with chordTimer := some (s.now + ms s.cabinet.chordTime) } }
        else s
      else { s with router := { s.router with chordTimer := none, chordArmed := true } }
    else s

/-- A change of the named inputs: the timer stops, and the chord is armed unless the new pair is held (R154; log 50). -/
def chordRenamed (s : State) : State :=
  { s with router := { s.router with chordTimer := none, chordArmed := !chordHeld s } }

/-- The chord timer expires (R154). -/
def chordExpires (s : State) : State :=
  post (.menuCall true) { s with router := { s.router with chordTimer := none, chordArmed := false } }

/-! ### A change of an input (R142, R143) -/

/-- The direction order after a change of an input (R150). -/
def updateOrder (i : Input) (active : Bool) (s : State) : State :=
  match dirOf i with
  | some (p, d) =>
    { s with router := { s.router with order := s.router.order.put p (orderWith d active (s.router.order.at p)) } }
  | none => s

/-- An input going inactive leaves the grant mask (R151). -/
def leaveMask (i : Input) (active : Bool) (s : State) : State :=
  match active, inputLine i with
  | false, some t => { s with router := { s.router with grantMask := s.router.grantMask.put t false } }
  | _, _ => s

/-- A START input going active while the owner is a slot counts a start (R155). -/
def countStart (i : Input) (active : Bool) (s : State) : State :=
  match s.router.owner with
  | .slot n => if active && isStart i then increment (starts n) s else s
  | .none | .link => s

/-- MENU going active posts MENU_CALL (R153). -/
def menuButton (i : Input) (active : Bool) (s : State) : State :=
  if i = menuInput ∧ active = true then post (.menuCall false) s else s

/-- A coin input's change is handed to the coin unit (R143). -/
def coinChange (i : Input) (active : Bool) (s : State) : State :=
  match inputChute i with
  | some c => chuteInput c active s
  | none => s

/-- While the owner is LINK, a change is latched and posts INPUT (R153). -/
def reportInput (i : Input) (s : State) : State :=
  if s.router.owner = .link then
    postInput { s with router := { s.router with latch := s.router.latch.put i true } }
  else s

/-- A change of an input's debounced state, in the order R143 lists its parts. -/
def changeInput (i : Input) (active : Bool) (s : State) : State :=
  let s := { s with router := { s.router with debounced := s.router.debounced.put i active } }
  let s := countStart i active (leaveMask i active (updateOrder i active s))
  reportInput i (coinChange i active (menuButton i active (judgeChord i active s)))

/-- A raw level changes: the debounce timer starts or stops (R142). -/
def rawChange (i : Input) (closed : Bool) (s : State) : State :=
  if s.router.raw.at i = closed then s
  else
    let timer := if closed = inputActive s i then none else some ⟨s.now + ms s.cabinet.debounce, closed⟩
    { s with router := { s.router with raw := s.router.raw.put i closed, timers := s.router.timers.put i timer } }

/-- A raw level changes on a part without power: only the pin changes (log 9). -/
def rawPin (i : Input) (closed : Bool) (s : State) : State :=
  { s with router := { s.router with raw := s.router.raw.put i closed } }

/-- A debounce timer expires: the debounced state takes the raw level (R142). -/
def debounceExpires (i : Input) (s : State) : State :=
  match s.router.timers.at i with
  | none => s
  | some t =>
    let s := s.reach t.expiry
    changeInput i t.target { s with router := { s.router with timers := s.router.timers.put i none } }

/-- The play timer expires: PLAY_SECONDS counts, and the timer starts again (R155). -/
def playExpires (s : State) : State :=
  match s.router.owner with
  | .slot n => increment (playSeconds n) { s with router := { s.router with playTimer := some (s.now + ms 1000) } }
  | .none | .link => { s with router := { s.router with playTimer := none } }

/-- The router at RESTART (R156): an INPUT notice is posted if any input is active. With no input active none is posted,
also where the owner was a slot or NONE, a change of owner for which R153 has a snapshot (the model's choice, log 51). -/
def restartRouter (s : State) : State :=
  let s := { s with router := { s.router with
    owner := .link
    linkHold := false
    claim := none
    workingMap := []
    fourWay := Tab.all 4 false
    grantMask := Tab.all 55 false
    playTimer := none
    latch := Tab.all 60 false
    chordTimer := none
    chordArmed := !chordHeld s } }
  if allInputs.any (inputActive s) then postInput s else s

end Sys2Proof.Machine
end

