-- ==== Sys2Proof/Machine/Bus.lean ====
section
/-! DEFINITION. The slot bus: the adapters (R42, R43), transactions and the arbiter (R44 to R46), and the queues of
DIP apply runs, the pass-through run and the waiting poll (R45, R47, R50 to R53). -/

namespace Sys2Proof.Machine

/-! ### The adapter (R42, R43) -/

/-- A value the adapter keeps in a cell: a DIP cell keeps the low byte (R43). -/
def keptValue (c : Fin 256) (v : Word16) : Word16 := if 3 ≤ c.val ∧ c.val ≤ 6 then v &&& 0x00FF else v

/-- A write to a cell: cells 0 to 2 are set by the adapter itself, and a write to them is ignored (R43). -/
def Adapter.write (a : Adapter) (c : Fin 256) (v : Word16) : Adapter :=
  if c.val ≤ 2 then a else { a with cells := a.cells.put c (keptValue c v) }

/-- The far pointer advanced by one, from 255 to 16 (R42). -/
def nextFar (c : Fin 256) : Fin 256 := if h : c.val < 255 then ⟨c.val + 1, by omega⟩ else 16

/-- The cell a transaction reads, if it reads one. -/
def BusOp.readCell (a : Adapter) : BusOp → Option (Fin 256)
  | .read c => some c
  | .readOn => some a.pointer
  | .write .. | .point _ | .writeOn _ => none

/-- A value of its own that the adapter has put in the cell being read (log 12). -/
def Adapter.withOwn (a : Adapter) (op : BusOp) (own : Option Word16) : Adapter :=
  match op.readCell a, own with
  | some c, some v => { a with cells := a.cells.put c (keptValue c v) }
  | _, _ => a

/-- A transaction the adapter has received whole, carried out (R42). -/
def Adapter.perform (a : Adapter) : BusOp → Adapter
  | .read _ => a
  | .write c v => a.write c v
  | .point c => { a with pointer := c }
  | .readOn => { a with pointer := nextFar a.pointer }
  | .writeOn v => { a.write a.pointer v with pointer := nextFar a.pointer }

/-- The value a transaction's good answer carries (R42). -/
def BusOp.answer (a : Adapter) (op : BusOp) : Option Word16 := (op.readCell a).map fun c => a.cells.at c

/-- An adapter that receives power starts afresh, with the contents it gives its own cells: pointer 16, DIP cells 0
(R42; log 8). -/
def pluggedAdapter (own : List (Fin 256 × Word16)) : Adapter :=
  { Adapter.blank with
    cells := own.foldl (fun cells p => if 3 ≤ p.1.val ∧ p.1.val ≤ 6 then cells else cells.put p.1 p.2)
      Adapter.blank.cells
    own := own }

/-! ### The arbiter (R46) -/

/-- A transaction begins on the bus (R44). -/
def beginTransaction (n : Slot) (op : BusOp) (owner : BusOwner) (s : State) : State :=
  { s with bus := { s.bus with current := some ⟨n, op, owner, s.now, false⟩ } }

/-- The next transaction of the oldest DIP apply run begins. -/
def beginSequence (s : State) : Option State :=
  match s.bus.sequence with
  | [] => none
  | r :: rest =>
    match r.todo with
    | [] => none
    | op :: ops =>
      some (beginTransaction r.slot op .sequence { s with bus := { s.bus with sequence := { r with todo := ops } :: rest } })

/-- The next transaction of the pass-through run begins. -/
def beginLink (s : State) : Option State :=
  match s.bus.linkRun with
  | none => none
  | some r =>
    match r.todo with
    | [] => none
    | op :: ops =>
      some (beginTransaction r.slot op .link
        { s with bus := { s.bus with linkRun := some { r with todo := ops, begun := true } } })

/-- The waiting poll begins with READ cell 0 (R48). -/
def beginPoll (s : State) : Option State :=
  match s.bus.waitingPoll with
  | none => none
  | some n => some (beginTransaction n (.read 0) .poll { s with bus := { s.bus with waitingPoll := none } })

/-- A pass-through run has begun and is not finished (R46). -/
def linkRunBegun (s : State) : Bool :=
  match s.bus.linkRun with
  | some r => r.begun
  | none => false

/-- The arbiter's choice on an idle bus: SEQUENCE, a poll inside a LINK run, LINK, POLL (R46). -/
def arbitrate (s : State) : State :=
  match s.bus.current with
  | some _ => s
  | none =>
    let rest := if linkRunBegun s then (beginPoll s).or (beginLink s) else (beginLink s).or (beginPoll s)
    ((beginSequence s).or rest).getD s

/-! ### The queues -/

/-- A slot's DIP apply is withdrawn: what has not begun is removed, and a transaction of it on the bus has its result
discarded (R51). -/
def withdrawApply (n : Slot) (s : State) : State :=
  { s with bus := { s.bus with
    sequence := s.bus.sequence.filter fun r => r.slot != n
    current := s.bus.current.map fun t =>
      if t.owner = .sequence ∧ t.slot = n then { t with discard := true } else t } }

/-- The eight transactions of a DIP apply (R50). -/
def applyOps (banks : Tab Byte 4) : List BusOp :=
  allFour.map (fun k => .write ⟨3 + k.val, by omega⟩ ((banks.at k).setWidth 16))
    ++ allFour.map (fun k => .read ⟨3 + k.val, by omega⟩)

/-- A DIP apply handed over: an earlier run of the slot is withdrawn, and the new one joins the tail (R50, R51). -/
def handOver (n : Slot) (banks : Tab Byte 4) (s : State) : State :=
  let s := withdrawApply n s
  arbitrate { s with bus := { s.bus with sequence := s.bus.sequence ++ [⟨n, applyOps banks, banks⟩] } }

/-- The pass-through run of a request begins to wait (R52, R53). -/
def startLinkRun (n : Slot) (ops : List BusOp) (isRead : Bool) (s : State) : State :=
  arbitrate { s with bus := { s.bus with linkRun := some ⟨n, ops, 0, false, [], isRead⟩ } }

/-- The slot after a slot in the poll order, 1 to 2 and so on, 8 to 1 (R47). -/
def nextSlot (n : Slot) : Slot := if h : n.val < 7 then ⟨n.val + 1, by omega⟩ else 0

/-- The poll timer expires: the poll of the slot at the poll position waits, unless one waits already (R47). -/
def pollExpires (s : State) : State :=
  match s.bus.pollTimer with
  | none => s
  | some t =>
    let s := s.reach t
    let s := { s with bus := { s.bus with pollTimer := some (t + 337500) } }
    match s.bus.waitingPoll with
    | some _ => s
    | none =>
      arbitrate { s with bus := { s.bus with
        waitingPoll := some s.bus.position, position := nextSlot s.bus.position } }

/-- The slot bus controller at RESTART (R55). -/
def restartBus (s : State) : State :=
  { s with bus :=
    { Bus.initial s.now with current := s.bus.current.map fun t => { t with discard := true } } }

end Sys2Proof.Machine
end

