-- ==== Sys2Proof/Machine/Slots.lean ====
section
/-! DEFINITION. The slot manager: states and lines (R18, R19), presence (R21 to R24), power (R25 to R32), standing modes
and wake (R33, R34), and the pause freeze (R37). -/

namespace Sys2Proof.Machine

/-! ### Lines (R18, R19) -/

/-- The levels a state fixes for its lines (R18). -/
def SlotState.lines : SlotState → SlotLines
  | .empty | .off | .fault => .off
  | .powering | .held => ⟨true, .asserted, .released⟩
  | .booting | .live => ⟨true, .released, .released⟩
  | .frozen => ⟨true, .released, .asserted⟩

/-- One line changed. -/
def SlotLines.move (l : SlotLines) : LineMove → SlotLines
  | .supply on => { l with supply := on }
  | .reset d => { l with reset := d }
  | .clockHold d => { l with clockHold := d }

/-- The changes of reset between two supplied states. -/
def resetMoves (a b : SlotLines) : List LineMove := if a.reset = b.reset then [] else [.reset b.reset]

/-- The changes of clock-hold between two supplied states. -/
def clockMoves (a b : SlotLines) : List LineMove := if a.clockHold = b.clockHold then [] else [.clockHold b.clockHold]

/-- The line changes of a move, in order: reset and clock-hold driven before the supply goes on, the supply off before
they cease to be driven, and reset asserted before clock-hold is released (R19). R19 does not order reset and clock-hold
between themselves as a slot comes up, nor as they cease to be driven; reset comes first in both (the model's choice,
log 59). -/
def lineMoves (l : SlotLines) (new : SlotState) : List LineMove :=
  match l.supply, new.supplied with
  | false, true => [.reset new.lines.reset, .clockHold new.lines.clockHold, .supply true]
  | true, false => [.supply false, .reset .notDriven, .clockHold .notDriven]
  | true, true => resetMoves l new.lines ++ clockMoves l new.lines
  | false, false => []

/-! ### A move -/

/-- A slot record moved to a state, its lines changed in order (R18, R19). -/
def SlotRecord.move (r : SlotRecord) (new : SlotState) : SlotRecord :=
  let moves := lineMoves r.lines new
  { r with state := new, lines := moves.foldl SlotLines.move r.lines, moves := moves }

/-- A slot enters a state: lines, SLOT notice, and reports to the router, the coin unit and the changeover controller
(R18, R38, R39). -/
def enter (n : Slot) (new : SlotState) (cause : SlotCause) (s : State) : State :=
  let old := (s.slot n).state
  let s := s.setSlot n ((s.slot n).move new)
  let s := post (.slot n new cause (s.slot n).kind) s
  (judgePulse n (routerSlotChanged n new s)).report (.slot n old new cause)

/-- The mismatch flag of a record against its profile's expected kind (R24). -/
def mismatchOf (n : Slot) (s : State) : Bool :=
  let expected := (s.profile n).general.expectedKind
  expected != 0 && expected != (s.slot n).kind

/-- The mismatch flag computed for a slot that is OFF (R24). -/
def recomputeMismatch (n : Slot) (s : State) : State :=
  if (s.slot n).state = .off then s.setSlot n { s.slot n with mismatch := mismatchOf n s } else s

/-- The record cleared of everything R20 clears. -/
def SlotRecord.powerless (r : SlotRecord) : SlotRecord :=
  { r with
    pgWindow := none
    bootWindow := none
    applying := false
    runUp := false
    paused := false
    lastSig := none
    parkedSig := none }

/-- The record of a slot with no board (R22). -/
def SlotRecord.boardless (r : SlotRecord) : SlotRecord :=
  { r with kind := 0, revision := 0, status := 0, mismatch := false, lastSig := none, parkedSig := none }

/-- The record as the state it is about to enter has it: no board in EMPTY (R22), the mismatch flag computed in OFF
(R24). -/
def SlotRecord.entering (r : SlotRecord) (new : SlotState) (mismatch : Bool) : SlotRecord :=
  match new with
  | .empty => r.boardless
  | .off => { r with mismatch := mismatch }
  | .powering | .held | .booting | .live | .frozen | .fault => r

/-- A slot leaves the supplied states (R20). -/
def leaveSupplied (n : Slot) (new : SlotState) (cause : SlotCause) (s : State) : State :=
  let s := withdrawApply n s
  let s := s.setSlot n ((s.slot n).powerless.entering new (mismatchOf n s))
  let s := cutPulse n true (enter n new cause s)
  supplyOff n (returnQueue n s)

/-! ### Powering up (R25 to R28) -/

/-- Reset is released: BOOTING, with the boot window started (R27, R28). -/
def release (n : Slot) (s : State) : State :=
  let window := some (s.now + ms (s.profile n).general.bootTime)
  enter n .booting .released
    (s.setSlot n { s.slot n with runUp := false, applying := false, bootWindow := window })

/-- A slot in HELD goes on, if its run-up flag is set: a DIP apply or the release (R27). -/
def proceedHeld (n : Slot) (s : State) : State :=
  if (s.slot n).runUp then
    let d := (s.profile n).dips
    if d.apply then handOver n d.banks (s.setSlot n { s.slot n with applying := true }) else release n s
  else s

/-- Power-good is seen in POWERING (R26). -/
def powerGoodSeen (n : Slot) (s : State) : State :=
  proceedHeld n (enter n .held .powerGood (s.setSlot n { s.slot n with pgWindow := none }))

/-- A slot enters POWERING: levels read, run-up set, the window started, the monitor told; power-good already asserted
counts as seen (R25, R26, R69, R144). -/
def enterPowering (n : Slot) (cause : SlotCause) (s : State) : State :=
  let s := readCoinLevels n s
  let s := s.setSlot n { s.slot n with
    runUp := true
    pgWindow := some (s.now + ms 1000)
    lineHigh := (s.profile n).general.lineHigh
    rereadLevels := false }
  let s := enter n .powering cause (supplyOn n s)
  if (s.slot n).powerGood then powerGoodSeen n s else s

/-- The power-good window expires (R26). -/
def powerGoodExpires (n : Slot) (s : State) : State :=
  match (s.slot n).pgWindow with
  | none => s
  | some t => leaveSupplied n .fault .noPowerGood (s.reach t)

/-- The boot window expires (R28). -/
def bootExpires (n : Slot) (s : State) : State :=
  match (s.slot n).bootWindow with
  | none => s
  | some t => enter n .live .booted ((s.reach t).setSlot n { s.slot n with bootWindow := none })

/-- The power-good pin changes (R19). -/
def setPowerGood (n : Slot) (on : Bool) (s : State) : State := s.setSlot n { s.slot n with powerGood := on }

/-- Power-good rises: seen in POWERING, ignored elsewhere (R19, R26). -/
def powerGoodRises (n : Slot) (s : State) : State :=
  let s := setPowerGood n true s
  if (s.slot n).state = .powering then powerGoodSeen n s else s

/-- Power-good falls: a power fault in HELD, BOOTING, LIVE and FROZEN (R29). -/
def powerGoodFalls (n : Slot) (s : State) : State :=
  let s := setPowerGood n false s
  match (s.slot n).state with
  | .held | .booting | .live | .frozen => leaveSupplied n .fault .powerGoodLost s
  | .powering | .empty | .off | .fault => s

/-! ### The end of a DIP apply (R27) -/

/-- All four banks read back equal. -/
def applyMatched (n : Slot) (s : State) : State := release n s

/-- The apply failed: the slot stays HELD, and the failure is reported. -/
def applyFailed (n : Slot) (s : State) : State :=
  let s := s.setSlot n { s.slot n with runUp := false, applying := false }
  let s := post (.slot n (s.slot n).state .dipMismatch (s.slot n).kind) s
  s.report (.dipFailed n)

/-! ### Presence (R21 to R23, R32) -/

/-- Auto power acts for a slot (R32). -/
def autoPower (n : Slot) (s : State) : State :=
  let s := s.setSlot n { s.slot n with autoPending := false }
  let r := s.slot n
  if r.state = .off ∧ r.mismatch = false ∧ (s.profile n).general.autoPower = true then enterPowering n .autoPower s else s

/-- The first verdict's part in auto power: it acts if it is pending and the profiles are loaded (R32). -/
def autoPowerVerdict (n : Slot) (s : State) : State :=
  if (s.slot n).autoPending && s.profiles.loaded then autoPower n s else s

/-- A board recorded in a slot that enters OFF (R21, R23). -/
def boardFound (n : Slot) (kind revision : Nat) (cause : SlotCause) (s : State) : State :=
  let s := s.setSlot n { s.slot n with kind := kind, revision := revision }
  enter n .off cause (s.setSlot n { s.slot n with mismatch := mismatchOf n s })

/-- A PRESENT verdict (R21). -/
def verdictPresent (n : Slot) (kind revision : Nat) (s : State) : State :=
  autoPowerVerdict n (boardFound n kind revision .present s)

/-- A slot that is not EMPTY goes to EMPTY (R22). -/
def removeBoard (n : Slot) (cause : SlotCause) (s : State) : State :=
  if (s.slot n).state.supplied then leaveSupplied n .empty cause s
  else returnQueue n (enter n .empty cause (s.setSlot n (s.slot n).boardless))

/-- An ABSENT verdict; `first`: it is the slot's first verdict since the reset, and clears auto-power pending (R22,
R32; log 27). -/
def verdictAbsent (n : Slot) (first : Bool) (s : State) : State :=
  let s := if first then s.setSlot n { s.slot n with autoPending := false } else s
  if (s.slot n).state = .empty then (if first then post (.slot n .empty .absent 0) s else s)
  else removeBoard n .removed s

/-- The adapter status as last read; it is 0 while EMPTY (R17). -/
def takeStatus (n : Slot) (v : Word16) (s : State) : State :=
  if (s.slot n).state = .empty then s else s.setSlot n { s.slot n with status := v }

/-! ### Powering down and restart (R30, R31) -/

/-- SLOT_POWER off carried out (R30). -/
def powerOff (n : Slot) (s : State) : State :=
  if (s.slot n).state.supplied then leaveSupplied n .off .powerOff s
  else enter n .off .powerOff (s.setSlot n { s.slot n with mismatch := mismatchOf n s })

/-- An accepted SLOT_RESTART (R31). -/
def restartBoard (n : Slot) (s : State) : State :=
  let s := withdrawApply n s
  let s := s.setSlot n { (s.slot n).powerless with runUp := true }
  proceedHeld n (enter n .held .restart s)

/-! ### Standing modes (R33) -/

/-- A slot stopped at HELD: reset asserted, the boot window stopped, the run-up and paused flags and the last capture
signature cleared (R28, R33, R35). -/
def parkHeld (n : Slot) (s : State) : State :=
  enter n .held .parked (s.setSlot n { s.slot n with bootWindow := none, runUp := false, paused := false, lastSig := none })

/-- A park into FREEZE or HOLD of a slot in POWERING, HELD or BOOTING (R33). Clearing the run-up flag and withdrawing an
apply leave the slot's state as it was and post no notice (the model's choice, log 47). -/
def parkNotRunning (n : Slot) (s : State) : State :=
  match (s.slot n).state with
  | .powering => s.setSlot n { s.slot n with runUp := false }
  | .held =>
    let s := withdrawApply n s
    s.setSlot n { s.slot n with runUp := false, applying := false }
  | .booting => parkHeld n s
  | .empty | .off | .fault | .live | .frozen => s

/-- A park into FREEZE (R33, R36). A slot that stays FROZEN posts no notice (the model's choice, log 47). -/
def parkFreeze (n : Slot) (s : State) : State :=
  let r := s.slot n
  match r.state with
  | .live => enter n .frozen .parked (s.setSlot n { r with parkedSig := r.lastSig })
  | .frozen => s.setSlot n { r with paused := false, parkedSig := r.lastSig }
  | .empty | .off | .powering | .held | .booting | .fault => parkNotRunning n s

/-- A park into HOLD (R33, R36). -/
def parkHold (n : Slot) (s : State) : State :=
  match (s.slot n).state with
  | .live => parkHeld n s
  | .frozen => parkHeld n (s.setSlot n { s.slot n with parkedSig := none })
  | .empty | .off | .powering | .held | .booting | .fault => parkNotRunning n s

/-- A park into RUN (R33, R36). -/
def parkRun (n : Slot) (s : State) : State :=
  if (s.slot n).state = .frozen then
    enter n .live .parked (s.setSlot n { s.slot n with paused := false, parkedSig := none })
  else s

/-- A park request for a slot, in its standing mode (R33). -/
def park (n : Slot) (s : State) : State :=
  match (s.profile n).general.standing with
  | .run => parkRun n s
  | .freeze => parkFreeze n s
  | .hold => parkHold n s
  | .off => if (s.slot n).state.supplied then leaveSupplied n .off .parked s else s

/-! ### Wake (R34) -/

/-- What a wake request is answered at once: LIVE, a failure, or nothing yet. -/
inductive WakeReport where
  | live (wasFrozen : Bool)
  | noBoard
  | powerFault
  | underWay
  deriving DecidableEq, Repr

/-- A wake request for a slot (R34). -/
def wake (n : Slot) (s : State) : State × WakeReport :=
  let r := s.slot n
  match r.state with
  | .live => (s, .live false)
  | .frozen => (enter n .live .wake (s.setSlot n { r with paused := false }), .live true)
  | .booting => (s, .underWay)
  | .held =>
    let s := s.setSlot n { r with runUp := true }
    (if r.applying then s else proceedHeld n s, .underWay)
  | .powering => (s.setSlot n { r with runUp := true }, .underWay)
  | .off => if r.mismatch then (s, .noBoard) else (enterPowering n .wake s, .underWay)
  | .fault => (s, .powerFault)
  | .empty => (s, .noBoard)

/-! ### The pause freeze (R37) -/

/-- The freeze of a LIVE slot. -/
def pauseFreeze (n : Slot) (s : State) : State :=
  if (s.slot n).state = .live then enter n .frozen .pause (s.setSlot n { s.slot n with paused := true }) else s

/-- The slot is FROZEN by a pause. -/
def isPaused (n : Slot) (s : State) : Bool := (s.slot n).state == .frozen && (s.slot n).paused

/-- The release of a slot FROZEN by a pause. -/
def pauseRelease (n : Slot) (s : State) : State :=
  if isPaused n s then enter n .live .pauseEnd (s.setSlot n { s.slot n with paused := false, parkedSig := none }) else s

/-! ### RESTART (R41) -/

/-- A supplied slot at RESTART: reset asserted, and HELD or FAULT as power-good stands. -/
def restartSupplied (n : Slot) (s : State) : State :=
  let r := (s.slot n).powerless
  let before := lineMoves r.lines .held
  let s := s.setSlot n { r with autoPending := false, rereadLevels := true }
  if r.powerGood then (if r.state = .held then s else enter n .held .partRestart s)
  else
    let s := leaveSupplied n .fault .partRestart s
    s.setSlot n { s.slot n with moves := before ++ (s.slot n).moves }

/-- One slot at RESTART. -/
def restartSlot (n : Slot) (s : State) : State :=
  match (s.slot n).state with
  | .powering | .held | .booting | .live | .frozen => restartSupplied n s
  | .fault => s.setSlot n { s.slot n with autoPending := false }
  | .off | .empty => s.setSlot n { s.slot n with autoPending := true }

end Sys2Proof.Machine
end

