-- ==== Sys2Proof/Machine/Changeover.lean ====
section
/-! DEFINITION. The changeover controller: the seven phases, supersession, failure and fallback, and the loss of the
current board (R76 to R98). A phase that has nothing to wait for is passed within the event that enters it: each
entry goes on to the next phase, and `progress` carries a changeover over the phases whose ends are conditions. -/

namespace Sys2Proof.Machine

/-! ### The record and its start (R76, R77, R80) -/

/-- What a start gives its record (R77). -/
structure Start where
  tag : Byte
  target : Option Slot
  isReturn : Bool
  reason : Option Reason
  deriving DecidableEq, Repr

def setRecord (r : Option Record) (s : State) : State := { s with co := { s.co with record := r } }

def setPending (p : Option Pending) (s : State) : State := { s with co := { s.co with pending := p } }

def setWatch (w : Watch) (s : State) : State := { s with co := { s.co with watch := w } }

/-- The record a start creates (R77). -/
def newRecord (st : Start) (s : State) : Record where
  tag := st.tag
  source := s.co.current
  target := st.target
  phase := .quiesce
  reason := st.reason
  isReturn := st.isReturn
  superseded := ⟨[], false⟩
  resume := .notChecked
  wokenFrozen := false
  lockSeen := false
  lockLimit := none
  holdStyle := s.cabinet.holdStyle
  checkApplies := false
  holdUntilReady := false
  sawSeeking := false

/-- The picture at QUIESCE: a fade to 0 in FADE style, at once when there is no `from`; the hold flag in HOLD style
(R80). In HOLD style no request is made of the fade, and one still in progress runs on (R129; the model's choice, log
57). -/
def quiescePicture (r : Record) (s : State) : State :=
  if r.holdStyle then setHold true s
  else if r.source.isNone then setPictureLevel 0 s
  else fadePicture false s.cabinet.videoFade s

/-- The sound at QUIESCE (R80). -/
def quiesceSound (r : Record) (s : State) : State :=
  if r.source.isNone then setGain 0 s else fadeSound false s.cabinet.audioFade s

/-- The coins at QUIESCE: `from`'s queue is returned (R80). -/
def quiesceCoins (r : Record) (s : State) : State :=
  match r.source with
  | some n => returnQueue n s
  | none => s

/-- A changeover starts: the record is created, the recovery watch is over, and QUIESCE is entered (R77, R80). -/
def startChangeover (st : Start) (s : State) : State :=
  let r := newRecord st s
  let s := routerQuiesce (setWatch .stopped (setRecord (some r) s))
  quiesceSound r (quiescePicture r (quiesceCoins r s))

/-! ### The end of a changeover (R79, R89, R93, R94) -/

/-- The contents of a record's CHANGEOVER_DONE notice (R94). -/
def Record.report (r : Record) (o : CoOutcome) : DoneReport :=
  ⟨r.tag, r.source, r.target, o, r.resume, r.isReturn, r.reason, r.superseded⟩

/-- CHANGEOVER_DONE is posted and the record removed. -/
def closeRecord (r : Record) (o : CoOutcome) (s : State) : State :=
  setRecord none (post (.changeoverDone (r.report o)) s)

/-- A changeover to the pending target starts (R89, R92, R93). -/
def startPending (p : Pending) (s : State) : State :=
  startChangeover ⟨p.tag, p.target, false, none⟩ (setPending none s)

/-- `to` is parked in its standing mode, unless it is standby or, where asked, `from` (R89, R91, R93). -/
def parkTarget (r : Record) (evenSource : Bool) (s : State) : State :=
  match r.target with
  | none => s
  | some n => if evenSource || r.source != some n then park n s else s

/-- Supersession by the pending target at a phase end (R89). -/
def supersede (r : Record) (p : Pending) (s : State) : State :=
  startPending p (closeRecord r .superseded (parkTarget r false (disableWriter s)))

/-- A fallback return is due (R93). -/
def returnDue (r : Record) (s : State) : Option Slot :=
  match r.source with
  | none => none
  | some n =>
    let st := (s.slot n).state
    if s.cabinet.fallbackReturn && !r.isReturn && st != .empty && st != .fault then some n else none

/-- The changeover after one that failed: pending, return or standby (R93). -/
def startNext (r : Record) (s : State) : State :=
  match s.co.pending with
  | some p => startPending p s
  | none =>
    match returnDue r s with
    | some n => startChangeover ⟨0, some n, true, none⟩ s
    | none => startChangeover ⟨0, none, false, none⟩ s

/-- LOCK_FAILURES of `to` (R93). -/
def countFailure (r : Record) (s : State) : State :=
  match r.target with
  | some n => increment (lockFailures n) s
  | none => s

/-- A changeover fails (R93). -/
def fail (r : Record) (o : CoOutcome) (s : State) : State :=
  let s := stopSoundFade (stopPictureFade (disableWriter s))
  startNext r (closeRecord r o (countFailure r (parkTarget r false s)))

/-- An aborted changeover, and the changeover to standby that carries the ABORT's tag (R91). -/
def abortChangeover (r : Record) (tag : Byte) (s : State) : State :=
  let s := parkTarget r true (disableWriter s)
  let r := match s.co.pending with
    | some p => { r with superseded := r.superseded.append p.tag }
    | none => r
  startChangeover ⟨tag, none, false, none⟩ (closeRecord r .aborted (setPending none s))

/-! ### The loss of the current board (R95 to R97) -/

/-- A changeover to standby with a reason. -/
def loseBoard (reason : Reason) (s : State) : State :=
  startChangeover ⟨0, none, false, some reason⟩ (setWatch .stopped s)

/-- The recovery watch starts for a length; a length of 0 expires at once (R95). -/
def startWatch (length : Nat) (s : State) : State :=
  if length = 0 then loseBoard .lostSignal s else setWatch (.running (s.now + ms length)) s

/-- The watch ends with a fitting lock: the hold flag is cleared and the accumulator re-centred (R96). -/
def endWatch (s : State) : State := recentre (setHold false (setWatch .stopped s))

/-- The current slot's monitor is LOCKED and its signal fits the present output. -/
def lockedAndFits (n : Slot) (s : State) : Bool := (s.monitor n.source).state == .locked && fits n s

/-! ### GRANT, REVEAL and RETIME (R87, R90, R92) -/

/-- The recovery watch of a current slot granted without a signal (R92, R95). -/
def watchIfLost (n : Slot) (s : State) : State :=
  match (s.monitor n.source).state with
  | .seeking | .dark => startWatch (s.profile n).general.recoveryLimit (setHold true s)
  | .locked | .weak => s

/-- What GRANT does for a `to` other than standby: the parked signature and SELECTED_COUNT (R92). -/
def grantSlot (t : Option Slot) (s : State) : State :=
  match t with
  | some n => increment (selectedCount n) (s.setSlot n { s.slot n with parkedSig := none })
  | none => s

/-- GRANT (R92). -/
def grant (r : Record) (s : State) : State :=
  let s := judgeWatched { s with co := { s.co with current := r.target } }
  let s := closeRecord r .done (grantSlot r.target s)
  match s.co.pending with
  | some p => startPending p s
  | none =>
    let s := routerGrant r.target s
    match r.target with
    | some n => watchIfLost n s
    | none => s

/-- REVEAL is entered (R90). -/
def enterReveal (r : Record) (s : State) : State :=
  let r := { r with phase := .reveal, holdStyle := s.cabinet.holdStyle }
  let s := setBlank false (setRecord (some r) s)
  let s := match r.target with
    | some n => revealSlot n s
    | none => revealStandby s
  let s := if r.holdStyle then setPictureLevel 256 s else fadePicture true s.cabinet.videoFade s
  fadeSound true s.cabinet.audioFade { s with snd := { s.snd with source := r.target } }

/-- The output set at RETIME by a decision: a retime under blanking, or the timing left as it stands (R87). -/
def setOutput (r : Record) (d : Decision) (s : State) : State :=
  if needsRetime d s then retime d (setHold false (setBlank true (setRecord (some r) s)))
  else
    let ready := match r.target with
      | some n => hasReady n s
      | none => true
    let s := setRecord (some { r with holdUntilReady := !ready }) (follow d s)
    if ready then setHold false s else s

/-- RETIME is entered (R87). -/
def enterRetime (r : Record) (s : State) : State :=
  let r := { r with phase := .retime, lockLimit := none }
  match decisionFor r.target s with
  | none => fail r .classMismatch s
  | some d =>
    match r.target with
    | none => setOutput r d s
    | some n => enableWriter n (setOutput r d (placeSlot n d (latchWindow n s)))

/-! ### LOCK, WAKE, PARK and the end of QUIESCE (R80 to R86) -/

/-- LOCK ends: a pending target supersedes, otherwise RETIME (R86, R89). -/
def endLock (r : Record) (s : State) : State :=
  match s.co.pending with
  | some p => supersede r p s
  | none => enterRetime r s

/-- The lock limit once an acceptable lock has been taken: a lock taken first at the limit's own moment stops the timer
(R84); before that moment the limit runs on, and an awaited check's field may still time out. -/
def limitAfterLock (r : Record) (s : State) : Option Nat := r.lockLimit.filter fun t => s.now < t

/-- `to`'s monitor is judged in LOCK (R84). -/
def judgeLock (r : Record) (n : Slot) (s : State) : State :=
  if acceptable n s then
    let r := { r with lockSeen := true, lockLimit := limitAfterLock r s }
    if r.checkApplies then
      let s := setRecord (some r) s
      if s.frame.writer = some n then s else enableWriter n (latchWindow n s)
    else endLock r s
  else fail r .classMismatch s

/-- LOCK is entered (R84). -/
def enterLock (r : Record) (n : Slot) (s : State) : State :=
  let p := (s.profile n).general
  let r := { r with
    phase := .lock
    lockLimit := some (s.now + ms p.lockLimit)
    checkApplies := p.resumeCheck && r.wokenFrozen && (s.slot n).parkedSig.isSome }
  let s := setRecord (some r) s
  if (s.monitor n.source).state = .locked then judgeLock r n s else s

/-- WAKE ends with `to` LIVE: a pending target supersedes, otherwise LOCK (R83, R89). -/
def endWake (r : Record) (n : Slot) (s : State) : State :=
  match s.co.pending with
  | some p => supersede r p s
  | none => enterLock r n s

/-- WAKE is entered (R83). -/
def enterWake (r : Record) (n : Slot) (s : State) : State :=
  let r := { r with phase := .wake }
  match wake n (setRecord (some r) s) with
  | (s, .live wasFrozen) => endWake { r with wokenFrozen := wasFrozen } n s
  | (s, .noBoard) => fail r .noBoard s
  | (s, .powerFault) => fail r .powerFault s
  | (s, .underWay) => s

/-- PARK: `from` is parked unless it is `to`, and the writer is disabled (R82). WAKE follows, or RETIME for
standby. -/
def enterPark (r : Record) (s : State) : State :=
  let r := { r with phase := .park }
  let s := setRecord (some r) s
  let s := match r.source with
    | some n => if r.target = some n then s else park n s
    | none => s
  let s := disableWriter s
  match r.target with
  | some n => enterWake r n s
  | none => enterRetime r s

/-- The coins at the end of QUIESCE: a pulse of `from` still in ON is cut, its unit going to the bank (R167;
log 37). -/
def endQuiesceCoins (r : Record) (s : State) : State :=
  match r.source with
  | some n => cutPulse n true s
  | none => s

/-- QUIESCE ends: the writer is disabled in HOLD style, a pulse still in ON is cut, and a pending target supersedes
(R80, R81, R89, R167). -/
def endQuiesce (r : Record) (s : State) : State :=
  let s := endQuiesceCoins r (if r.holdStyle then disableWriter s else s)
  match s.co.pending with
  | some p => supersede r p s
  | none => enterPark r s

/-! ### Conditions a phase waits for -/

/-- The fades a transition style waits on are complete (R80, R90). -/
def fadesDone (r : Record) (s : State) : Bool := s.snd.fade.isNone && (r.holdStyle || s.pic.fade.isNone)

/-- QUIESCE ends at once with `from` = 0, otherwise with its fades (R80). -/
def quiesceDone (r : Record) (s : State) : Bool := r.source.isNone || fadesDone r s

/-- What ends RETIME: no settle, and for a slot a READY buffer and a LOCKED monitor (R87). -/
def retimeDone (r : Record) (s : State) : Bool :=
  s.out.settle.isNone &&
    match r.target with
    | some n => hasReady n s && (s.monitor n.source).state == .locked
    | none => true

/-- One phase passed, if its end has come. -/
def advancePhase (s : State) : State :=
  match s.co.record with
  | none => s
  | some r =>
    match r.phase with
    | .quiesce => if quiesceDone r s then endQuiesce r s else s
    | .retime => if retimeDone r s then enterReveal r s else s
    | .reveal => if fadesDone r s then grant r s else s
    | .park | .wake | .lock | .grant => s

/-- `n` phases passed, as far as their ends have come. -/
def advancePhases : Nat → State → State
  | 0, s => s
  | n + 1, s => advancePhases n (advancePhase s)

/-- Every phase whose end has come is passed. Three phases wait on conditions, and a changeover that fails at once is
followed by at most a return and a change to standby, so sixteen passes reach the phase that waits (log 24). -/
def progress (s : State) : State := advancePhases 16 s

/-! ### Reports while a changeover is in flight (R81 to R88) -/

/-- A report in WAKE (R83). -/
def onWake (r : Record) (n : Slot) (rep : Report) (s : State) : State :=
  match rep with
  | .slot m _ new _ =>
    if m = n then
      match new with
      | .live => endWake r n s
      | .fault => fail r .powerFault s
      | .empty => fail r .noBoard s
      | .off | .powering | .held | .booting | .frozen => s
    else s
  | .dipFailed m => if m = n then fail r .dipMismatch s else s
  | .monitor .. | .ready .. => s

/-- `to` enters FAULT or EMPTY in LOCK, RETIME or REVEAL (R86, R88). -/
def onTargetState (r : Record) (n m : Slot) (new : SlotState) (s : State) : State :=
  if m = n then
    match new with
    | .fault => fail r .powerFault s
    | .empty => fail r .noBoard s
    | .off | .powering | .held | .booting | .live | .frozen => s
  else s

/-- The resume check's field: the first READY buffer of `to` after the writer was enabled for it (R85). -/
def onCheckField (r : Record) (n : Slot) (sig : Word16) (s : State) : State :=
  if r.checkApplies && s.frame.writer == some n then
    endLock { r with resume := if (s.slot n).parkedSig = some sig then .clean else .changed } s
  else s

/-- A report of `to`'s monitor in LOCK (R84). -/
def onLockMonitor (r : Record) (n : Slot) (st : MonState) (s : State) : State :=
  match st with
  | .locked => judgeLock r n s
  | .weak => s
  | .seeking => if r.lockSeen && s.frame.writer == some n then disableWriter s else s
  | .dark => if r.lockSeen then fail r .lostSignal s else s

/-- A report in LOCK (R84 to R86). -/
def onLock (r : Record) (n : Slot) (rep : Report) (s : State) : State :=
  match rep with
  | .slot m _ new _ => onTargetState r n m new s
  | .dipFailed _ => s
  | .monitor src st => if src = n.source then onLockMonitor r n st s else s
  | .ready m sig => if m = n then onCheckField r n sig s else s

/-- A report of `to`'s monitor in RETIME or REVEAL (R88). -/
def onShownMonitor (r : Record) (n : Slot) (st : MonState) (s : State) : State :=
  match st with
  | .weak => s
  | .seeking => setHold true (setRecord (some { r with sawSeeking := true, holdUntilReady := false }) s)
  | .locked =>
    if r.sawSeeking then
      if fits n s then setHold false (setRecord (some { r with sawSeeking := false }) s)
      else fail r .classMismatch s
    else s
  | .dark => fail r .lostSignal s

/-- The first READY buffer of `to` clears the hold flag of a RETIME without a retime (R87). -/
def onFirstReady (r : Record) (s : State) : State :=
  if r.holdUntilReady then setHold false (setRecord (some { r with holdUntilReady := false }) s) else s

/-- A report in RETIME or REVEAL (R88). -/
def onShown (r : Record) (n : Slot) (rep : Report) (s : State) : State :=
  match rep with
  | .slot m _ new _ => onTargetState r n m new s
  | .dipFailed _ => s
  | .monitor src st => if src = n.source then onShownMonitor r n st s else s
  | .ready m _ => if m = n then onFirstReady r s else s

/-- A report while a changeover is in flight. -/
def onRecord (r : Record) (rep : Report) (s : State) : State :=
  match r.target with
  | none => s
  | some n =>
    match r.phase with
    | .wake => onWake r n rep s
    | .lock => onLock r n rep s
    | .retime | .reveal => onShown r n rep s
    | .quiesce | .park | .grant => s

/-! ### Reports of the current slot with no changeover in flight (R95 to R98) -/

/-- The current slot is LIVE again after a restart (R97). A monitor LOCKED on a fitting signal ends the watch also where the
recovery limit is 0, which R95 has expire at once (the model's choice, log 56). -/
def onLiveAgain (n : Slot) (s : State) : State :=
  let s := enableWriter n s
  if lockedAndFits n s then endWatch s else startWatch (s.profile n).general.recoveryLimit s

/-- The current slot's pause ends (R98). -/
def onPauseEnd (n : Slot) (s : State) : State :=
  let s := enableWriter n s
  if lockedAndFits n s then endWatch s else startWatch (s.profile n).general.lockLimit s

/-- A state change of the current slot (R97, R98). -/
def onCurrentState (n : Slot) (old new : SlotState) (cause : SlotCause) (s : State) : State :=
  match new, cause with
  | .fault, _ | .empty, _ => loseBoard .powerFault s
  | .held, .restart =>
    if old = .live ∨ old = .frozen then setWatch .waitingLive (disableWriter (setHold true s)) else s
  | .frozen, .pause => setWatch .stopped (disableWriter (setHold true s))
  | .live, .pauseEnd => onPauseEnd n s
  | .live, _ => if s.co.watch = .waitingLive then onLiveAgain n s else s
  | _, _ => s

/-- A report of the current slot's monitor; none is acted on while the slot is paused (R95, R96, R98). -/
def onCurrentMonitor (n : Slot) (st : MonState) (s : State) : State :=
  if isPaused n s then s
  else match s.co.watch, st with
    | .stopped, .seeking | .stopped, .dark => startWatch (s.profile n).general.recoveryLimit (setHold true s)
    | .running _, .locked => if fits n s then endWatch s else loseBoard .lostSignal s
    | _, _ => s

/-- A report with no changeover in flight and a current slot. -/
def onCurrent (n : Slot) (rep : Report) (s : State) : State :=
  match rep with
  | .slot m old new cause => if m = n then onCurrentState n old new cause s else s
  | .dipFailed m => if m = n then loseBoard .lostSignal s else s
  | .monitor src st => if src = n.source then onCurrentMonitor n st s else s
  | .ready .. => s

/-- One report taken by the controller. What its own requests make other blocks report, it does not take (log 16). -/
def onReport (s : State) (rep : Report) : State :=
  let s := match s.co.record with
    | some r => onRecord r rep s
    | none =>
      match s.co.current with
      | some n => onCurrent n rep s
      | none => s
  { s with reports := [] }

/-- The controller has acted: every phase whose end has come is passed, and no report is left standing. -/
def conduct (s : State) : State := { progress { s with reports := [] } with reports := [] }

/-- The controller takes the reports made so far in the step, in order, and goes on. -/
def settle (s : State) : State := conduct (s.reports.foldl onReport { s with reports := [] })

/-! ### Timers and requests -/

/-- The lock limit expires (R84). -/
def lockLimitExpires (s : State) : State :=
  match s.co.record with
  | none => s
  | some r =>
    match r.phase, r.lockLimit with
    | .lock, some t => conduct (fail r .lockTimeout (s.reach t))
    | _, _ => s

/-- The recovery watch expires (R96). -/
def watchExpires (s : State) : State :=
  match s.co.watch with
  | .running t => conduct (loseBoard .lostSignal (s.reach t))
  | .stopped | .waitingLive => s

/-- A SELECT accepted while a changeover is in flight: the target goes pending (R78, R79). -/
def selectPending (t : Option Slot) (tag : Byte) (r : Record) (s : State) : State :=
  let r := match s.co.pending with
    | some p => { r with superseded := r.superseded.append p.tag }
    | none => r
  setPending (some ⟨t, tag⟩) (setRecord (some r) s)

/-- A SELECT of `to`: a pending target is dropped (R78, R79). -/
def dropPending (r : Record) (s : State) : State :=
  match s.co.pending with
  | some p => setPending none (setRecord (some { r with superseded := r.superseded.append p.tag }) s)
  | none => s

/-- The controller at RESTART (R99). -/
def restartController (s : State) : State := { s with co := .initial }

end Sys2Proof.Machine
end

