-- ==== Sys2Proof/Machine/BusEvents.lean ====
section
/-! DEFINITION. The end of a slot bus transaction and what its owner does with the result: polls and verdicts (R48,
R49), DIP applies (R50), and pass-through runs (R52 to R54). -/

namespace Sys2Proof.Machine

/-- The result of a transaction (R44). -/
inductive TxResult where
  | answered (value : Option Word16)
  | badAnswer
  | noAnswer
  deriving DecidableEq, Repr

/-! ### Polls (R48, R49) -/

def setView (n : Slot) (v : View) (s : State) : State := { s with bus := { s.bus with views := s.bus.views.put n v } }

def setMisses (n : Slot) (k : Nat) (s : State) : State := { s with bus := { s.bus with misses := s.bus.misses.put n k } }

/-- A poll's read of cell 0 that was missed (R49). -/
def pollMissed (n : Slot) (s : State) : State :=
  let k := min 2 (s.bus.misses.at n + 1)
  let s := setMisses n k s
  let view := s.bus.views.at n
  if 2 ≤ k ∧ view ≠ .absent then verdictAbsent n (view == .unconfirmed) (setView n .absent s) else s

/-- A poll's read of cell 0 answered with a value (R48, R49). -/
def pollKind (n : Slot) (v : Word16) (s : State) : State :=
  if v.toNat < 1 ∨ 255 < v.toNat then s
  else
    let s := setMisses n 0 s
    let r := s.slot n
    if s.bus.views.at n = .answering ∧ r.state ≠ .empty ∧ v.toNat = r.kind then s
    else beginTransaction n (.read 1) (.pollRevision v.toNat) s

/-- The verdict of a poll whose identify reads are answered (R48). Between the two halves of a kind change the
changeover controller takes the removal (R23, R39). -/
def giveVerdict (n : Slot) (kind revision : Nat) (s : State) : State :=
  let view := s.bus.views.at n
  let r := s.slot n
  let s := setView n .answering s
  if r.state = .empty then verdictPresent n kind revision s
  else if kind ≠ r.kind then
    let s := s.setSlot n { s.slot n with autoPending := false }
    boardFound n kind revision .kindChanged (settle (removeBoard n .removed s))
  else if view = .unconfirmed then autoPowerVerdict n s
  else s

/-- The end of a poll's transaction (R48, R49). -/
def pollEnds (t : Transaction) (res : TxResult) (s : State) : State :=
  match t.owner, res with
  | .poll, .answered (some v) => pollKind t.slot v s
  | .poll, .noAnswer => pollMissed t.slot s
  | .pollRevision kind, .answered (some v) =>
      beginTransaction t.slot (.read 2) (.pollStatus kind (v.toNat % 256)) s
  | .pollStatus kind revision, .answered (some v) => takeStatus t.slot v (giveVerdict t.slot kind revision s)
  | _, _ => s

/-! ### DIP applies (R50) -/

/-- A run's bank for a cell it compares. -/
def ApplyRun.bankOf (r : ApplyRun) (c : Fin 256) : Word16 := ((r.banks.toList.getD (c.val - 3) 0)).setWidth 16

/-- A transaction of a run was answered as a good apply has it. -/
def stepMatches (r : ApplyRun) (op : BusOp) (value : Option Word16) : Bool :=
  match op, value with
  | .read c, some v => v == r.bankOf c
  | .read _, none => false
  | _, _ => true

/-- The oldest run is over: it leaves the queue, and its end is reported to the slot manager. -/
def endApply (r : ApplyRun) (matched : Bool) (s : State) : State :=
  let s := { s with bus := { s.bus with sequence := s.bus.sequence.tail } }
  if matched then applyMatched r.slot s else applyFailed r.slot s

/-- The end of a DIP apply's transaction: MATCHED after the last, MISMATCH, FAILED, or the next one (R50). -/
def sequenceEnds (t : Transaction) (res : TxResult) (s : State) : State :=
  match s.bus.sequence with
  | [] => s
  | r :: _ =>
    match res with
    | .answered v =>
      if stepMatches r t.op v then (if r.todo.isEmpty then endApply r true s else s) else endApply r false s
    | .badAnswer | .noAnswer => endApply r false s

/-! ### Pass-through runs (R52 to R54) -/

/-- The run is over, and its request is answered. -/
def endLinkRun (a : Answer) (s : State) : State := giveReply a { s with bus := { s.bus with linkRun := none } }

/-- The data of a pass-through reply: the values read, 2 bytes each (R52). -/
def linkData (values : List Word16) : List Byte := values.flatMap fun v => le2 v.toNat

/-- The end of a pass-through transaction (R52, R53). -/
def linkEnds (res : TxResult) (s : State) : State :=
  match s.bus.linkRun with
  | none => s
  | some r =>
    match res with
    | .answered v =>
      let r := { r with ended := r.ended + 1, values := r.values ++ v.toList }
      if r.todo.isEmpty then endLinkRun ⟨.ok, linkData r.values⟩ s
      else { s with bus := { s.bus with linkRun := some r } }
    | .badAnswer => endLinkRun (.plain .badAnswer) s
    | .noAnswer => endLinkRun (.plain .noAnswer) s

/-! ### The end of a transaction (R44) -/

/-- A read of cell 2 that was answered hands its value to the slot manager; a poll's does so after its verdict
(R17, R48, R52). -/
def statusRead (t : Transaction) (res : TxResult) (s : State) : State :=
  match t.owner, t.op, res with
  | .link, .read c, .answered (some v) => if c = 2 then takeStatus t.slot v s else s
  | _, _, _ => s

/-- The result goes to whoever queued the transaction; a discarded result goes to no one (R44, R51, R55). -/
def deliverResult (t : Transaction) (res : TxResult) (s : State) : State :=
  if t.discard then s
  else
    match t.owner with
    | .sequence => sequenceEnds t res s
    | .link => linkEnds res (statusRead t res s)
    | .poll | .pollRevision _ | .pollStatus _ _ => pollEnds t res s

/-- A transaction ends at a moment: the result is delivered, and the arbiter chooses again (R44, R46). It chooses before
the changeover controller takes what the result has reported, so a DIP apply that the controller then hands over is not
in this choice; a kind change alone has the controller act first (the model's choice, log 55). -/
def endTransaction (t : Transaction) (moment : Nat) (a : Adapter) (res : TxResult) (s : State) : State :=
  let s := (s.reach moment).setAdapter t.slot a
  settle (arbitrate (deliverResult t res { s with bus := { s.bus with current := none } }))

/-- The adapter's answer arrives, 0.5 ms after the transaction began (R44). -/
def answerArrives (x : BusAnswer) (s : State) : State :=
  match s.bus.current with
  | none => s
  | some t =>
    let a := s.adapter t.slot
    match x with
    | .good own =>
      let a := a.withOwn t.op own
      endTransaction t (t.began + 13500) (a.perform t.op) (.answered (t.op.answer a)) s
    | .badParity received =>
      endTransaction t (t.began + 13500) (if received then a.perform t.op else a) .badAnswer s

/-- The answer window expires, 2 ms after the transaction began (R44). `received`: the adapter had carried it out. -/
def answerExpires (received : Bool) (s : State) : State :=
  match s.bus.current with
  | none => s
  | some t =>
    let a := s.adapter t.slot
    endTransaction t (t.began + 54000) (if received then a.perform t.op else a) .noAnswer s

end Sys2Proof.Machine
end

