-- ==== Sys2Proof/Machine/Store.lean ====
section
/-! DEFINITION. The profile store (R185, R186), retained memory, power-up reset, RESTART and the loss of power (R187,
R188 and each chapter's reset rule). -/

namespace Sys2Proof.Machine

/-! ### Sections of the store -/

/-- Section `k` of a slot's profile. -/
def sectionId (n : Slot) (k : Fin 5) : SectionId := ⟨1 + 5 * n.val + k.val, by omega⟩

/-- What a write leaves in a section: the new contents, contents that fail their check, or the earlier ones (R185). -/
inductive SectionFate where
  | written | broken | kept
  deriving DecidableEq, Repr

/-- A section after its fate. -/
def SectionFate.apply {α : Type} (f : SectionFate) (new : α) (old : Option α) : Option α :=
  match f with
  | .written => some new
  | .broken => none
  | .kept => old

/-- The store after a write of a snapshot, each section by its fate. -/
def Store.written (st : Store) (w : Working) (fate : SectionId → SectionFate) : Store where
  cabinet := (fate 0).apply w.cabinet st.cabinet
  slots := Vector.ofFn fun n =>
    let p := w.slots.at n
    let q := st.slots.at n
    { general := (fate (sectionId n 0)).apply p.general q.general
      picture := (fate (sectionId n 1)).apply p.picture q.picture
      controls := (fate (sectionId n 2)).apply p.controls q.controls
      coins := (fate (sectionId n 3)).apply p.coins q.coins
      dips := (fate (sectionId n 4)).apply p.dips q.dips }

/-- The store's contents of a section pass their check. -/
def Store.passes (st : Store) (i : SectionId) : Bool :=
  if h : i.val = 0 then st.cabinet.isSome
  else
    let q := st.slots.at ⟨(i.val - 1) / 5, by omega⟩
    match (i.val - 1) % 5 with
    | 0 => q.general.isSome
    | 1 => q.picture.isSome
    | 2 => q.controls.isSome
    | 3 => q.coins.isSome
    | _ => q.dips.isSome

/-- A loaded section: the stored contents where they are good, the factory default otherwise (R186). -/
def loadSection {α : Type} (good : Bool) (stored : Option α) (dflt : α) : α := if good then stored.getD dflt else dflt

/-- The working copies a load gives, from the sections that are good (R186). -/
def Store.load (st : Store) (good : SectionId → Bool) : Working where
  cabinet := loadSection (good 0) st.cabinet factoryCabinet
  slots := Vector.ofFn fun n =>
    let q := st.slots.at n
    { general := loadSection (good (sectionId n 0)) q.general factoryGeneral
      picture := loadSection (good (sectionId n 1)) q.picture factoryPicture
      controls := loadSection (good (sectionId n 2)) q.controls factoryControls
      coins := loadSection (good (sectionId n 3)) q.coins factoryCoins
      dips := loadSection (good (sectionId n 4)) q.dips factoryDips }

/-- The 41 sections in order. -/
def allSections : List SectionId := List.finRange 41

/-! ### Saves (R185) -/

/-- The end of a save: every section that verified holds the snapshot; whether one that did not still passes its check
is open (log 3). -/
def saveEnds (failed : List SectionId) (s : State) : State :=
  match s.profiles.saving with
  | none => s
  | some w =>
    let fate (i : SectionId) : SectionFate :=
      if failed.contains i && !Config.unverifiedPasses (s.free + i.val) then .broken else .written
    let s := { s with free := s.free + 41, profiles := { s.profiles with
      store := s.profiles.store.written w fate, saving := none } }
    post (.store false (!failed.isEmpty) []) s

/-- How far each section had come when a save was abandoned after `p` sections (R185; log 2). -/
def fateAfter (p : Nat) (i : SectionId) : SectionFate :=
  if i.val < p then .written else if i.val = p then .broken else .kept

/-- A save in flight is abandoned; how far it had come is open (R185; log 2). -/
def abandonSave (s : State) : State :=
  match s.profiles.saving with
  | none => s
  | some w =>
    { s.nextFree with profiles := { s.profiles with
      store := s.profiles.store.written w (fateAfter (Config.sectionsWritten s.free % 42)), saving := none } }

/-! ### Loads (R186) -/

/-- A section is good at a load: the store answers and the section's check does not fail. A store that stops answering
during a load that STORE_LOAD began gives factory defaults for all 41, as R186 has it for a start-up load (the model's
choice, log 58). -/
def goodSection (st : Store) (answers : Bool) (failed : List SectionId) (i : SectionId) : Bool :=
  answers && st.passes i && !failed.contains i

/-- Every working section replaced together, and the STORE notice (R186). The notice lists the replaced sections in the
order of `allSections`: the cabinet's, then slot by slot, section by section; R186 and the STORE layout state no order
(the model's choice, log 52). -/
def loadSections (answers : Bool) (failed : List SectionId) (s : State) : State :=
  let st := s.profiles.store
  let good := goodSection st answers failed
  let replaced := allSections.filter fun i => !good i
  let s := { s with profiles := { s.profiles with working := st.load good, loading := false } }
  post (.store true (!replaced.isEmpty) replaced) s

/-- A change of the chord's inputs takes effect at once (R154). Naming the same two inputs in the other order counts as a
change of the named inputs, which R154 and R183 leave open (the model's choice, log 50). -/
def chordAfter (before : Cabinet) (s : State) : State :=
  if s.cabinet.chord = before.chord then s else chordRenamed s

/-- The active levels of the harness lines of a slot that RESTART left supplied, read afresh (R156). -/
def rereadLevels (n : Slot) (s : State) : State :=
  if (s.slot n).rereadLevels then
    s.setSlot n { s.slot n with lineHigh := (s.profile n).general.lineHigh, rereadLevels := false }
  else s

/-- Auto power at the load: it acts for a slot whose first presence verdict has been taken (R32, R186; log 27). -/
def autoPowerLoaded (n : Slot) (s : State) : State :=
  if (s.slot n).autoPending && s.bus.views.at n != .unconfirmed then autoPower n s else s

/-- What the first load since a reset does besides (R186). Auto power acts for the slots from 1 to 8 in turn, which is also
the order in which their DIP applies are handed over; the spec states no order (the model's choice, log 54). -/
def firstLoad (s : State) : State :=
  let s := judgeAllReasons { s with
    profiles := { s.profiles with loaded := true }, coins := { s.coins with startup := false } }
  let s := startupDecision (forAll allSlots rereadLevels s)
  forAll allSlots autoPowerLoaded s

/-- A profile load ends (R186). -/
def loadEnds (answers : Bool) (failed : List SectionId) (s : State) : State :=
  if s.profiles.loading then
    let before := s.cabinet
    let s := forAll allSlots recomputeMismatch (loadSections answers failed s)
    let s := chordAfter before s
    settle (if s.profiles.loaded then judgeSettings s else firstLoad s)
  else s

/-! ### Power-up reset (R16, R187) -/

/-- The retained coin items with everything else at its power-up value; the reasons are judged afterwards (R157). -/
def Coins.retained (c : Coins) : Coins :=
  { Coins.lost with
    bank := c.bank
    accepted := c.accepted
    delivered := c.delivered
    drained := c.drained
    queues := c.queues
    meters := Vector.ofFn fun m => ⟨(c.meters.at m).owed, .idle⟩ }

/-- A chute's reasons after power-up reset: STARTUP, with BANK_LIMIT and METER_FULL as R160 judges them (R157). -/
def startReasons (c : Chute) (s : State) : Reasons :=
  { Reasons.clear with bankLimit := bankAtLimit s, meterFull := meterFull c s, startup := true }

/-- Every chute's reasons at power-up, set without notices. -/
def setStartReasons (s : State) : State :=
  { s with coins := { s.coins with chutes := Vector.ofFn fun c => .initial (startReasons c s) } }

/-- An adapter when the part's power is applied: it starts afresh, as when it was plugged in, so nothing the host wrote
to its cells is left (R42; log 8). -/
def Adapter.powered (a : Adapter) : Adapter := pluggedAdapter a.own

/-- Every block at its power-up values; the retained items are kept when `kept` (R187). -/
def powerUpBlocks (kept : Bool) (s : State) : State where
  powered := true
  now := s.now
  link := Link.initial (if kept then s.link.maskDefault else Tab.all 11 true)
  counters := if kept then s.counters else .lost
  slots := Vector.ofFn fun n => .initial (s.slot n).powerGood
  adapters := Vector.ofFn fun n => (s.adapter n).powered
  bus := .initial s.now
  monitors := Monitor.initialAll
  co := .initial
  frame := .initial
  out := .initial s.now
  pic := .initial
  snd := .initial
  router := .initial s.now s.router.raw
  coins := if kept then s.coins.retained else .lost
  profiles := .initial s.profiles.store
  free := s.free
  reports := []
  pending := s.pending

/-- Start-up: READY, the returns of every queue, the meters (R187). -/
def startUp (kept : Bool) (s : State) : State :=
  let s := setStartReasons (powerUpBlocks kept s)
  let s := post (.ready false kept) s
  forAll allFour judgeMeter (forAll allSlots returnQueue s)

/-- Power is applied (R187). A save still in flight is abandoned first, as the loss of power before it would have. -/
def powerUp (retainedGood : Bool) (s : State) : State := startUp retainedGood (abandonSave s)

/-! ### Loss of power (R185) -/

/-- Power is lost: a save is abandoned, retained memory keeps its items, and the other blocks stand at their power-up
values until power returns (log 21). -/
def losePower (s : State) : State := { powerUpBlocks true (abandonSave s) with powered := false }

/-! ### RESTART (R16, R188) -/

/-- The link at RESTART: its start state, with READY posted (R16). -/
def restartLink (s : State) : State :=
  post (.ready true true) { s with link := Link.initial s.link.maskDefault }

/-- One slot's money at RESTART: a pulse in ON is cut to the bank and the queue returned (R175). -/
def restartMoney (n : Slot) (s : State) : State := returnQueue n (cutPulse n true s)

/-- The chutes at RESTART: the host lock flags cleared, and STARTUP added to every chute's reasons (R175). -/
def restartChutes (s : State) : State :=
  judgeAllReasons { s with coins := { s.coins with
    startup := true, chutes := Vector.ofFn fun c => { s.coins.chutes.at c with hostLock := false } } }

/-- The coin unit at RESTART (R175). STARTUP is in force before the money moves, so that every notice of the event
carries it, as R174 has the reasons after the event (log 13). -/
def restartCoins (s : State) : State :=
  let s := forAll allSlots restartMoney (restartChutes s)
  { s with coins := { s.coins with generators := Tab.all 8 .idle } }

/-- A new load begins, the working copies staying in force until it ends (R188). -/
def restartProfiles (s : State) : State :=
  { s with profiles := { s.profiles with loading := true, loaded := false } }

/-- The restart takes effect: each block takes the state its own chapter's rule gives it (R188). -/
def restartPart (s : State) : State :=
  let s := restartBus (restartController (restartLink (abandonSave s)))
  let s := restartMonitors (restartCoins (restartRouter s))
  restartProfiles (restartPicture (forAll allSlots restartSlot s))

/-- The transmitter is sending the RESTART request's reply. -/
def sendingRestart (s : State) : Bool :=
  match s.link.sending with
  | some (.reply _ r) => r
  | _ => false

/-- The place whose reply has been sent is free (R4): replies leave in the order their requests arrived. -/
def freePlace : List Place → List Place
  | [] => []
  | p :: rest => if p.stage = .answered then rest else p :: freePlace rest

/-- The transmitter finishes a frame (R4, R13, R16). -/
def frameEnds (s : State) : State :=
  match s.link.sending with
  | none => s
  | some (.notice _) => { s with link := { s.link with sending := none } }
  | some (.reply _ isRestart) =>
    if isRestart then restartPart s
    else { s with link := { s.link with sending := none, buffer := freePlace s.link.buffer } }

end Sys2Proof.Machine
end

