-- ==== Sys2Proof/Machine/LinkCommands.lean ====
section
/-! DEFINITION. The meanings of the cabinet link's commands: characters, the gap timer, the end of a frame, and the
requests the link itself owns (R1 to R16), with the resets and the loss of power (R16, R185, R187, R188). -/

namespace Sys2Proof.Machine

/-- CHARACTER_RECEIVED (R1 to R5). -/
def execCharacterReceived (dt : Nat) (c : LineChar) (s : State) : Host.Outcome State Fault Refusal :=
  event s fun s => receiveChar c (s.tick dt)

/-- The gap timer expires: the frame being assembled is discarded (R2). -/
def gapExpires (s : State) : State :=
  match s.link.gap with
  | none => s
  | some t => linkError .gap (setRx .hunt (s.reach t))

/-- GAP_TIMEOUT (R2). -/
def execGapTimeout (s : State) : Host.Outcome State Fault Refusal := event s gapExpires

/-- FRAME_SENT (R4, R13, R16). -/
def execFrameSent (dt : Nat) (s : State) : Host.Outcome State Fault Refusal := event s fun s => frameEnds (s.tick dt)

/-- A KIND the request catalogue does not hold, below 80h (R3, R7). -/
def isUnknownKind (kind : Byte) : Bool := kind.toNat < 0x80 && (kind.toNat < 0x01 || 0x1C < kind.toNat)

/-- A dispatched request of unknown KIND is answered UNKNOWN_KIND (R7). -/
def dispatchUnknown (kind tag : Byte) (payload : List Byte) (s : State) : State :=
  match takeTurn kind tag payload s.link with
  | some b => giveReply (.plain .unknownKind) { s with link := { s.link with buffer := b } }
  | none => offer kind tag payload s

/-- UNKNOWN_KIND (R7). A KIND of the catalogue, or of 80h and above, is not this command's (log 17). -/
def execUnknownKind (dt : Nat) (kind tag : Byte) (payload : List Byte) (s : State) : Host.Outcome State Fault Refusal :=
  if isUnknownKind kind then event s fun s => dispatchUnknown kind tag payload (s.tick dt) else .next s

/-! ### IDENT and STATE (R14, R15) -/

/-- The part's identity (R14). -/
def identData : List Byte := le2 0x5A08 ++ [Config.firmwareMajor, Config.firmwareMinor, 8, 200, 4, 30]

def identBlock (s : State) (_ : List Byte) : State × Option Answer := (s, some ⟨.ok, identData⟩)

/-- IDENT (R14). -/
def execIdent (dt : Nat) (tag : Byte) (payload : List Byte) (s : State) : Host.Outcome State Fault Refusal :=
  request dt 0x01 tag payload noPayload identBlock s

/-- The changeover's part of the STATE reply (R15). -/
def recordData (s : State) : List Byte :=
  match s.co.record with
  | none => [0, 0xFF, 0xFF, 0xFF, 0]
  | some r => [1, r.phase.code, slotCode r.source, slotCode r.target, boolByte r.isReturn]

/-- The STATE snapshot (R15). -/
def stateData (s : State) : List Byte :=
  [slotCode s.co.current] ++ recordData s
    ++ [slotCodeOr (s.co.pending.map Pending.target), s.router.owner.code, boolByte s.router.linkHold]
    ++ allSlots.map (fun n => (s.slot n).state.code)
    ++ [boolByte s.out.pass, s.out.cls.code, boolByte s.frame.hold, boolByte s.frame.blank]
    ++ le2 s.coins.bank ++ [boolByte s.profiles.loading, boolByte s.profiles.saving.isSome]

def stateBlock (s : State) (_ : List Byte) : State × Option Answer := (s, some ⟨.ok, stateData s⟩)

/-- STATE (R15). -/
def execState (dt : Nat) (tag : Byte) (payload : List Byte) (s : State) : Host.Outcome State Fault Refusal :=
  request dt 0x02 tag payload noPayload stateBlock s

/-! ### NOTICE_MASK (R12) -/

/-- The checks of NOTICE_MASK: booleans, with READY enabled. -/
def maskFields (p : List Byte) : List FieldCheck :=
  (List.range 10).map (fun i => boolCheck 0 i p) ++ [byteCheck 0 10 1 1 p, boolCheck 0 11 p]

/-- The set of kinds a payload enables. -/
def readMask (p : List Byte) : Tab Bool 11 := Vector.ofFn fun i => flagAt p i.val

/-- The mask set at once, and kept as the retained default when asked (R12). -/
def noticeMaskBlock (s : State) (p : List Byte) : State × Option Answer :=
  let m := readMask p
  let s := setMask m s
  let s := if flagAt p 11 then { s with link := { s.link with maskDefault := m } } else s
  (s, some (.plain .ok))

/-- NOTICE_MASK (R12). -/
def execNoticeMask (dt : Nat) (tag : Byte) (payload : List Byte) (s : State) : Host.Outcome State Fault Refusal :=
  request dt 0x1A tag payload (fixedLayout 12 maskFields) noticeMaskBlock s

/-! ### RESTART and the resets (R16, R185, R187, R188) -/

/-- RESTART is answered OK, and the requests behind it are held back (R16, R188). -/
def restartBlock (s : State) (_ : List Byte) : State × Option Answer :=
  ({ s with link := { s.link with restartHeld := true } }, some (.plain .ok))

/-- RESTART (R188). -/
def execRestart (dt : Nat) (tag : Byte) (payload : List Byte) (s : State) : Host.Outcome State Fault Refusal :=
  request dt 0x1B tag payload noPayload restartBlock s

/-- RESTART_EFFECT: the last byte of the RESTART reply leaves the transmitter (R16, R188; log 18). -/
def execRestartEffect (dt : Nat) (s : State) : Host.Outcome State Fault Refusal :=
  event s fun s => if sendingRestart s then restartPart (s.tick dt) else s.tick dt

/-- POWER_UP_RESET (R187). -/
def execPowerUpReset (dt : Nat) (retainedGood : Bool) (s : State) : Host.Outcome State Fault Refusal :=
  .next (conclude (powerUp retainedGood (s.tick dt)))

/-- POWER_LOSS (R185). -/
def execPowerLoss (dt : Nat) (s : State) : Host.Outcome State Fault Refusal :=
  whenPowered s fun s => losePower (s.tick dt)

end Sys2Proof.Machine
end

