-- ==== Sys2Proof/Machine/SlotCommands.lean ====
section
/-! DEFINITION. The meanings of the slot and slot bus commands (R25 to R31, R40, R42 to R54). -/

namespace Sys2Proof.Machine

/-- The slot a payload names at offset 0; the check has held it in 1 to 8. -/
def payloadSlot (p : List Byte) : Slot := Fin.ofNat 8 (byteAt p 0 + 7)

/-- The check of a slot field at offset 0. -/
def slotField (p : List Byte) : FieldCheck := byteCheck 0 0 1 8 p

/-- A request's change taken by the changeover controller before its reply is built (R39). -/
def answered (r : Result) (s : State) : State × Option Answer := (settle s, some (.plain r))

/-- A request refused, or answered without a change. -/
def unchanged (r : Result) (s : State) : State × Option Answer := (s, some (.plain r))

/-! ### SLOT_INFO (R40) -/

/-- The slot record as SLOT_INFO reports it. -/
def slotInfoData (n : Slot) (s : State) : List Byte :=
  let r := s.slot n
  [byteOf (n.val + 1), r.state.code, byteOf r.kind, byteOf r.revision, boolByte r.mismatch, boolByte r.parkedSig.isSome]
    ++ le2 (r.parkedSig.getD 0).toNat ++ [byteOf (s.queue n).length, byteOf (s.bus.misses.at n)] ++ le2 r.status.toNat

def slotInfoBlock (s : State) (p : List Byte) : State × Option Answer := (s, some ⟨.ok, slotInfoData (payloadSlot p) s⟩)

/-- SLOT_INFO (R40). -/
def execSlotInfo (dt : Nat) (tag : Byte) (payload : List Byte) (s : State) : Host.Outcome State Fault Refusal :=
  request dt 0x03 tag payload (fixedLayout 1 fun p => [slotField p]) slotInfoBlock s

/-! ### SLOT_POWER and SLOT_RESTART (R25, R30, R31) -/

/-- SLOT_POWER on (R25). -/
def powerOnBlock (n : Slot) (s : State) : State × Option Answer :=
  match (s.slot n).state with
  | .empty | .fault => unchanged .noBoard s
  | .off => if (s.slot n).mismatch then unchanged .wrongBoard s else answered .accepted (enterPowering n .powerOn s)
  | .powering | .held | .booting | .live | .frozen => unchanged .already s

/-- SLOT_POWER off (R30). -/
def powerOffBlock (n : Slot) (s : State) : State × Option Answer :=
  match (s.slot n).state with
  | .empty => unchanged .noBoard s
  | .off => unchanged .already s
  | .powering | .held | .booting | .live | .frozen | .fault =>
    if s.co.current = some n ∨ s.isFrom n = true ∨ s.isTo n = true then unchanged .wrongState s
    else answered .accepted (powerOff n s)

/-- SLOT_POWER, by its on flag (R25, R30). -/
def slotPowerBlock (s : State) (p : List Byte) : State × Option Answer :=
  if flagAt p 1 then powerOnBlock (payloadSlot p) s else powerOffBlock (payloadSlot p) s

/-- The checks of SLOT_POWER (R25). -/
def slotPowerFields (p : List Byte) : List FieldCheck := [slotField p, boolCheck 0 1 p]

/-- SLOT_POWER_ON: SLOT_POWER with on set to 1 (R25). -/
def execSlotPowerOn (dt : Nat) (tag : Byte) (payload : List Byte) (s : State) : Host.Outcome State Fault Refusal :=
  request dt 0x04 tag payload (fixedLayout 2 slotPowerFields) slotPowerBlock s

/-- SLOT_POWER_OFF: SLOT_POWER with on set to 0 (R30). -/
def execSlotPowerOff (dt : Nat) (tag : Byte) (payload : List Byte) (s : State) : Host.Outcome State Fault Refusal :=
  request dt 0x04 tag payload (fixedLayout 2 slotPowerFields) slotPowerBlock s

/-- SLOT_RESTART's state checks (R31). -/
def slotRestartBlock (s : State) (p : List Byte) : State × Option Answer :=
  let n := payloadSlot p
  match (s.slot n).state with
  | .empty => unchanged .noBoard s
  | .off | .powering | .fault => unchanged .wrongState s
  | .held | .booting | .live | .frozen =>
    if s.isFrom n || s.isTo n then unchanged .wrongState s else answered .accepted (restartBoard n s)

/-- SLOT_RESTART (R31). -/
def execSlotRestart (dt : Nat) (tag : Byte) (payload : List Byte) (s : State) : Host.Outcome State Fault Refusal :=
  request dt 0x05 tag payload (fixedLayout 1 fun p => [slotField p]) slotRestartBlock s

/-! ### Power-good and the windows (R26, R28, R29) -/

/-- POWER_GOOD_RISE (R26). The pin of a part without power changes all the same (log 9). -/
def execPowerGoodRise (dt : Nat) (n : Slot) (s : State) : Host.Outcome State Fault Refusal :=
  if s.powered then .next (conclude (settle (powerGoodRises n (s.tick dt)))) else .next (setPowerGood n true s)

/-- POWER_GOOD_FALL (R29). -/
def execPowerGoodFall (dt : Nat) (n : Slot) (s : State) : Host.Outcome State Fault Refusal :=
  if s.powered then .next (conclude (settle (powerGoodFalls n (s.tick dt)))) else .next (setPowerGood n false s)

/-- POWER_GOOD_WINDOW_EXPIRY (R26). -/
def execPowerGoodWindowExpiry (n : Slot) (s : State) : Host.Outcome State Fault Refusal :=
  event s fun s => settle (powerGoodExpires n s)

/-- BOOT_WINDOW_EXPIRY (R28). -/
def execBootWindowExpiry (n : Slot) (s : State) : Host.Outcome State Fault Refusal :=
  event s fun s => settle (bootExpires n s)

/-! ### The slot bus (R44, R47) -/

/-- TRANSACTION_ANSWERED (R44). -/
def execTransactionAnswered (a : BusAnswer) (s : State) : Host.Outcome State Fault Refusal :=
  event s fun s => answerArrives a s

/-- ANSWER_WINDOW_EXPIRY (R44). -/
def execAnswerWindowExpiry (received : Bool) (s : State) : Host.Outcome State Fault Refusal :=
  event s fun s => answerExpires received s

/-- POLL_TIMER_EXPIRY (R47). -/
def execPollTimerExpiry (s : State) : Host.Outcome State Fault Refusal := event s pollExpires

/-- ADAPTER_PLUGGED_IN (R42). -/
def execAdapterPluggedIn (dt : Nat) (n : Slot) (own : List (Fin 256 × Word16)) (s : State) :
    Host.Outcome State Fault Refusal :=
  if s.powered then .next (conclude ((s.tick dt).setAdapter n (pluggedAdapter own)))
  else .next (s.setAdapter n (pluggedAdapter own))

/-! ### Pass-through (R52, R53) -/

/-- The count fits the cell: 1 to 32, and a direct run stays within cells 0 to 15 (R52). -/
def countField (p : List Byte) : FieldCheck :=
  let cell := byteAt p 1
  let count := byteAt p 2
  (2, decide (1 ≤ count) && decide (count ≤ 32) && (decide (16 ≤ cell) || decide (cell + count ≤ 16)))

/-- The checks of ADAPTER_READ (R52). -/
def adapterReadFields (p : List Byte) : List FieldCheck := [slotField p, countField p]

/-- The transactions of a read run (R52). -/
def readOps (cell count : Nat) : List BusOp :=
  if cell < 16 then (List.range count).map fun i => .read (Fin.ofNat 256 (cell + i))
  else .point (Fin.ofNat 256 cell) :: List.replicate count .readOn

/-- ADAPTER_READ stays in service until its run ends (R52). -/
def adapterReadBlock (s : State) (p : List Byte) : State × Option Answer :=
  let n := payloadSlot p
  if (s.slot n).state = .empty then unchanged .noBoard s
  else (startLinkRun n (readOps (byteAt p 1) (byteAt p 2)) true s, none)

/-- ADAPTER_READ (R52). -/
def execAdapterRead (dt : Nat) (tag : Byte) (payload : List Byte) (s : State) : Host.Outcome State Fault Refusal :=
  request dt 0x18 tag payload (fixedLayout 3 adapterReadFields) adapterReadBlock s

/-- The checks of ADAPTER_WRITE: LEN by the count, then the fields (R53). -/
def adapterWriteCheck (_ : State) (p : List Byte) : Option Result :=
  if p.length < 3 ∨ p.length ≠ 3 + 2 * byteAt p 2 then some .badLength
  else (firstBad [slotField p, (1, decide (3 ≤ byteAt p 1)), countField p]).map .badField

/-- The transactions of a write run (R53). -/
def writeOps (cell count : Nat) (p : List Byte) : List BusOp :=
  let value (i : Nat) : Word16 := BitVec.ofNat 16 (word2 p (3 + 2 * i))
  if cell < 16 then (List.range count).map fun i => .write (Fin.ofNat 256 (cell + i)) (value i)
  else .point (Fin.ofNat 256 cell) :: (List.range count).map fun i => .writeOn (value i)

/-- ADAPTER_WRITE stays in service until its run ends (R53). -/
def adapterWriteBlock (s : State) (p : List Byte) : State × Option Answer :=
  let n := payloadSlot p
  if (s.slot n).state = .empty then unchanged .noBoard s
  else (startLinkRun n (writeOps (byteAt p 1) (byteAt p 2) p) false s, none)

/-- ADAPTER_WRITE (R53). -/
def execAdapterWrite (dt : Nat) (tag : Byte) (payload : List Byte) (s : State) : Host.Outcome State Fault Refusal :=
  request dt 0x19 tag payload adapterWriteCheck adapterWriteBlock s

end Sys2Proof.Machine
end

