-- ==== Sys2Proof/Machine/ChangeoverCommands.lean ====
section
/-! DEFINITION. The meanings of the changeover commands and of the picture path's events: SELECT, ABORT, the lock limit
and the recovery watch (R78, R84, R91, R96), the sync monitors (R57, R58, R67, R74), and output, picture and sound
(R107, R118, R133, R135, R139). -/

namespace Sys2Proof.Machine

/-! ### SELECT and ABORT (R78, R91) -/

/-- The target a SELECT names: 0 is standby (R78). -/
def payloadTarget (p : List Byte) : Option Slot := if byteAt p 0 = 0 then none else some (payloadSlot p)

/-- The SELECT reply's data: current, in-flight `to` and pending target, as they stand (R78). -/
def selectData (s : State) : List Byte :=
  [slotCode s.co.current, slotCodeOr (s.co.record.map Record.target), slotCodeOr (s.co.pending.map Pending.target)]

/-- A SELECT taken: its reply carries the targets as they stand after it (R78). -/
def selected (r : Result) (s : State) : State × Option Answer := (s, some ⟨r, selectData s⟩)

/-- The slot checks of SELECT: NO_BOARD and WRONG_BOARD (R78). -/
def selectRefusal (t : Option Slot) (s : State) : Option Result :=
  match t with
  | none => none
  | some n =>
    let expected := (s.profile n).general.expectedKind
    if (s.slot n).state = .empty ∨ (s.slot n).state = .fault then some .noBoard
    else if expected ≠ 0 ∧ expected ≠ (s.slot n).kind then some .wrongBoard
    else none

/-- A SELECT that passed its checks (R78). -/
def selectTarget (t : Option Slot) (tag : Byte) (s : State) : State × Option Answer :=
  match s.co.record with
  | none =>
    if t = s.co.current then selected .already s
    else selected .accepted (conduct (startChangeover ⟨tag, t, false, none⟩ s))
  | some r =>
    if t = r.target then selected .already (dropPending r s)
    else selected .accepted (selectPending t tag r s)

/-- SELECT's state checks in order (R78). -/
def selectBlock (tag : Byte) (s : State) (p : List Byte) : State × Option Answer :=
  let t := payloadTarget p
  if s.profiles.loading then unchanged .busy s
  else match selectRefusal t s with
    | some r => unchanged r s
    | none => selectTarget t tag s

/-- SELECT (R78). -/
def execSelect (dt : Nat) (tag : Byte) (payload : List Byte) (s : State) : Host.Outcome State Fault Refusal :=
  request dt 0x06 tag payload (fixedLayout 1 fun p => [byteCheck 0 0 0 8 p]) (selectBlock tag) s

/-- ABORT's state checks (R91). -/
def abortBlock (tag : Byte) (s : State) (_ : List Byte) : State × Option Answer :=
  match s.co.record with
  | none => unchanged .wrongState s
  | some r =>
    match r.phase with
    | .quiesce | .park | .wake | .lock => (conduct (abortChangeover r tag s), some (.plain .accepted))
    | .retime | .reveal | .grant => unchanged .tooLate s

/-- ABORT (R91). -/
def execAbort (dt : Nat) (tag : Byte) (payload : List Byte) (s : State) : Host.Outcome State Fault Refusal :=
  request dt 0x07 tag payload noPayload (abortBlock tag) s

/-- LOCK_LIMIT_EXPIRY (R84). -/
def execLockLimitExpiry (s : State) : Host.Outcome State Fault Refusal := event s lockLimitExpires

/-- RECOVERY_WATCH_EXPIRY (R96). -/
def execRecoveryWatchExpiry (s : State) : Host.Outcome State Fault Refusal := event s watchExpires

/-! ### The sync monitors (R57, R58, R67, R74) -/

/-- The source a TIMING request names; the check has held it in 1 to 9. -/
def payloadSource (p : List Byte) : Source := Fin.ofNat 9 (byteAt p 0 + 8)

/-- The sync timer's stage code (R74). -/
def stageCode : Option SyncTimer → Byte
  | none => 0
  | some t => match t.stage with
    | .seek | .first => 1
    | .second => 2

/-- A monitor's record as TIMING reports it (R74). -/
def timingData (src : Source) (m : Monitor) : List Byte :=
  [byteOf (src.val + 1), m.state.code, m.cls.code] ++ le4 m.lastF ++ le2 m.lastL ++ le4 (m.fref.getD 0)
    ++ le2 (m.lref.getD 0) ++ le2 m.lineRate ++ le2 m.fieldRate
    ++ [byteOf m.run, byteOf m.unsteady, stageCode m.timer]

def timingBlock (s : State) (p : List Byte) : State × Option Answer :=
  (s, some ⟨.ok, timingData (payloadSource p) (s.monitor (payloadSource p))⟩)

/-- TIMING (R74). -/
def execTiming (dt : Nat) (tag : Byte) (payload : List Byte) (s : State) : Host.Outcome State Fault Refusal :=
  request dt 0x08 tag payload (fixedLayout 1 fun p => [byteCheck 0 0 1 9 p]) timingBlock s

/-- A vertical sync of a source: it closes the open field, the changeover controller acts on what that reports, and a
new field opens if the source's syncs are still taken (R57; log 19). -/
def verticalSyncAt (src : Source) (s : State) : State :=
  if (s.monitor src).taking then
    let s := settle (syncCloses src s)
    if (s.monitor src).taking then syncOpens src s else s
  else s

/-- VERTICAL_SYNC (R57). -/
def execVerticalSync (dt : Nat) (src : Source) (s : State) : Host.Outcome State Fault Refusal :=
  event s fun s => verticalSyncAt src (s.tick dt)

/-- LINE_SYNC (R57, R105). -/
def execLineSync (dt : Nat) (src : Source) (video : List (Nat × RGB)) (s : State) : Host.Outcome State Fault Refusal :=
  event s fun s => lineSyncAt src video (s.tick dt)

/-- FIELD_TIMEOUT (R58). -/
def execFieldTimeout (src : Source) (s : State) : Host.Outcome State Fault Refusal :=
  event s fun s => fieldExpires src s

/-- SYNC_TIMER_EXPIRY (R67). -/
def execSyncTimerExpiry (src : Source) (s : State) : Host.Outcome State Fault Refusal :=
  event s fun s => settle (syncTimerExpires src s)

/-! ### Output, picture and sound (R107, R118, R133, R135, R139) -/

/-- The output field period expires: an output field starts, and a fade that completes there is reported (R114, R128). -/
def outputFieldStarts (s : State) : State := settle (fieldStart (s.reach s.out.nextStart))

/-- OUTPUT_FIELD_START (R107, R114). -/
def execOutputFieldStart (s : State) : Host.Outcome State Fault Refusal := event s outputFieldStarts

/-- The settle timer expires (R118, R120). -/
def settleExpires (s : State) : State :=
  match s.out.settle with
  | none => s
  | some t => settle (settleDone (s.reach t))

/-- SETTLE_EXPIRY (R118). -/
def execSettleExpiry (s : State) : Host.Outcome State Fault Refusal := event s settleExpires

/-- AUDIO_FADE_STEP (R139). -/
def execAudioFadeStep (s : State) : Host.Outcome State Fault Refusal := event s fun s => settle (stepSoundFade s)

/-- The still timer expires (R135). -/
def stillExpires (s : State) : State :=
  match s.pic.stillTimer with
  | none => s
  | some t => stillExpiry (s.reach t)

/-- STILL_TIMER_EXPIRY (R135). -/
def execStillTimerExpiry (s : State) : Host.Outcome State Fault Refusal := event s stillExpires

/-- The checks of OVERLAY (R133). -/
def overlayFields (p : List Byte) : List FieldCheck := [boolCheck 0 0 p, wordCheck 0 10 0 256 p]

/-- All the fields replace the overlay settings together, and the duck is judged afresh (R133, R140). -/
def overlayBlock (s : State) (p : List Byte) : State × Option Answer :=
  (judgeDuck { s with pic := { s.pic with overlay := readOverlay p } }, some (.plain .ok))

/-- OVERLAY (R133). -/
def execOverlay (dt : Nat) (tag : Byte) (payload : List Byte) (s : State) : Host.Outcome State Fault Refusal :=
  request dt 0x1C tag payload (fixedLayout 12 overlayFields) overlayBlock s

end Sys2Proof.Machine
end

