-- ==== Sys2Proof/Machine/ControlCommands.lean ====
section
/-! DEFINITION. The meanings of the control routing commands (R142, R148, R152, R154, R155). -/

namespace Sys2Proof.Machine

/-! ### CONTROLS_TAKE and CONTROLS_GIVE (R148, R152) -/

/-- What an OK of CONTROLS_TAKE does first: the hold flag, the claim and the owner (R148). -/
def takeControls (s : State) : State :=
  giveLink { s with router := { s.router with linkHold := true, claim := none } }

/-- CONTROLS_TAKE with freeze (R148). -/
def takeFrozen (s : State) : State × Option Answer :=
  match s.co.record, s.co.current with
  | some _, _ => unchanged .wrongState s
  | none, none => unchanged .wrongState s
  | none, some n =>
    if isPaused n s then unchanged .already s
    else if (s.slot n).state = .live then answered .ok (pauseFreeze n (takeControls s))
    else unchanged .wrongState s

/-- CONTROLS_TAKE's state checks in order (R148). -/
def controlsTakeBlock (s : State) (p : List Byte) : State × Option Answer :=
  if flagAt p 0 then takeFrozen s
  else if s.router.owner = .link ∧ s.router.linkHold = true then unchanged .already s
  else unchanged .ok (takeControls s)

/-- CONTROLS_TAKE (R148). -/
def execControlsTake (dt : Nat) (tag : Byte) (payload : List Byte) (s : State) : Host.Outcome State Fault Refusal :=
  request dt 0x0F tag payload (fixedLayout 1 fun p => [boolCheck 0 0 p]) controlsTakeBlock s

/-- The link hold flag cleared. -/
def clearHold (s : State) : State := { s with router := { s.router with linkHold := false } }

/-- The resume claim set to a slot. -/
def setClaim (n : Slot) (s : State) : State := { s with router := { s.router with claim := some n } }

/-- CONTROLS_GIVE with no changeover in flight and a current slot (R152). -/
def giveToSlot (n : Slot) (s : State) : State × Option Answer :=
  if s.router.owner = .slot n then unchanged .already s
  else if (s.slot n).state = .live then unchanged .ok (giveSlot n (clearHold s))
  else if isPaused n s then answered .ok (pauseRelease n (setClaim n (clearHold s)))
  else unchanged .accepted (setClaim n (giveNone (clearHold s)))

/-- CONTROLS_GIVE's state checks in order (R152). -/
def controlsGiveBlock (s : State) (_ : List Byte) : State × Option Answer :=
  if s.inFlight then
    if s.router.linkHold = false ∧ s.router.owner = .none then unchanged .already s
    else unchanged .accepted (giveNone (clearHold s))
  else match s.co.current with
    | none => unchanged .wrongState s
    | some n => giveToSlot n s

/-- CONTROLS_GIVE (R152). -/
def execControlsGive (dt : Nat) (tag : Byte) (payload : List Byte) (s : State) : Host.Outcome State Fault Refusal :=
  request dt 0x10 tag payload noPayload controlsGiveBlock s

/-! ### Inputs and timers (R142, R154, R155) -/

/-- RAW_INPUT_CHANGE (R142). The pin of a part without power changes all the same (log 9). -/
def execRawInputChange (dt : Nat) (i : Input) (closed : Bool) (s : State) : Host.Outcome State Fault Refusal :=
  if s.powered then .next (conclude (rawChange i closed (s.tick dt))) else .next (rawPin i closed s)

/-- DEBOUNCE_EXPIRY (R142, R143). -/
def execDebounceExpiry (i : Input) (s : State) : Host.Outcome State Fault Refusal :=
  event s fun s => debounceExpires i s

/-- The chord timer's expiry is reached (R154). -/
def chordTimerEnds (s : State) : State :=
  match s.router.chordTimer with
  | none => s
  | some t => chordExpires (s.reach t)

/-- CHORD_TIMER_EXPIRY (R154). -/
def execChordTimerExpiry (s : State) : Host.Outcome State Fault Refusal := event s chordTimerEnds

/-- The play timer's expiry is reached (R155). -/
def playTimerEnds (s : State) : State :=
  match s.router.playTimer with
  | none => s
  | some t => playExpires (s.reach t)

/-- PLAY_TIMER_EXPIRY (R155). -/
def execPlayTimerExpiry (s : State) : Host.Outcome State Fault Refusal := event s playTimerEnds

end Sys2Proof.Machine
end

