-- ==== Sys2Proof/Machine/CoinCommands.lean ====
section
/-! DEFINITION. The meanings of the coin unit's and the counters' commands (R158 to R173, R179, R180). -/

namespace Sys2Proof.Machine

/-! ### COIN_STATE (R172) -/

/-- The coin unit's state as COIN_STATE reports it. -/
def coinStateData (s : State) : List Byte :=
  le2 s.coins.bank ++ le4 s.coins.accepted.toNat ++ le4 s.coins.delivered.toNat ++ le4 s.coins.drained.toNat
    ++ allSlots.map (fun n => byteOf (s.queue n).length)
    ++ allSlots.map (fun n => (s.generator n).code)
    ++ allFour.map (fun c => byteOf (s.chute c).state.code)
    ++ allFour.map (fun c => (s.chute c).reasons.code)
    ++ allFour.map (fun m => byteOf (s.meter m).owed)

def coinStateBlock (s : State) (_ : List Byte) : State × Option Answer := (s, some ⟨.ok, coinStateData s⟩)

/-- COIN_STATE (R172). -/
def execCoinState (dt : Nat) (tag : Byte) (payload : List Byte) (s : State) : Host.Outcome State Fault Refusal :=
  request dt 0x11 tag payload noPayload coinStateBlock s

/-! ### COIN_DELIVER, COIN_DRAIN, COIN_LOCK and COIN_TOTALS_CLEAR (R168 to R171) -/

/-- Credit moved from the bank to a slot's queue (R168). -/
def deliver (n : Slot) (units : Nat) (k : CoinLine) (s : State) : State :=
  let s := { s with coins := { s.coins with bank := s.coins.bank - units } }
  let s := s.setQueue n (s.queue n ++ List.replicate units k)
  judgePulse n (judgeBankLimit s)

/-- The board coin line a payload names at offset 1; the check has held it in 1 to 4. -/
def payloadLine (p : List Byte) : CoinLine := Fin.ofNat 4 (byteAt p 1 + 3)

/-- COIN_DELIVER's state checks in order (R168). -/
def coinDeliverBlock (s : State) (p : List Byte) : State × Option Answer :=
  let units := byteAt p 0
  match s.co.record, s.co.current with
  | none, some n =>
    if s.coins.bank < units then unchanged .noCredit s
    else if 32 - (s.queue n).length < units then unchanged .queueFull s
    else unchanged .ok (deliver n units (payloadLine p) s)
  | _, _ => unchanged .wrongState s

/-- COIN_DELIVER (R168). -/
def execCoinDeliver (dt : Nat) (tag : Byte) (payload : List Byte) (s : State) : Host.Outcome State Fault Refusal :=
  request dt 0x12 tag payload (fixedLayout 2 fun p => [byteCheck 0 0 1 32 p, byteCheck 0 1 1 4 p]) coinDeliverBlock s

/-- Credit taken out of the cabinet (R169). -/
def drain (units : Nat) (s : State) : State :=
  judgeBankLimit { s with coins := { s.coins with
    bank := s.coins.bank - units, drained := s.coins.drained + BitVec.ofNat 32 units } }

/-- COIN_DRAIN's state check (R169). -/
def coinDrainBlock (s : State) (p : List Byte) : State × Option Answer :=
  if s.coins.bank < word2 p 0 then unchanged .noCredit s else unchanged .ok (drain (word2 p 0) s)

/-- COIN_DRAIN (R169). -/
def execCoinDrain (dt : Nat) (tag : Byte) (payload : List Byte) (s : State) : Host.Outcome State Fault Refusal :=
  request dt 0x13 tag payload (fixedLayout 2 fun p => [wordCheck 0 0 1 65535 p]) coinDrainBlock s

/-- The chute a payload names at offset 0; the check has held it in 1 to 4. -/
def payloadChute (p : List Byte) : Chute := Fin.ofNat 4 (byteAt p 0 + 3)

/-- A chute's host lock flag set or cleared, and LINK judged (R170). -/
def coinLockBlock (s : State) (p : List Byte) : State × Option Answer :=
  let c := payloadChute p
  unchanged .ok (judgeLink c (s.setChute c { s.chute c with hostLock := flagAt p 1 }))

/-- COIN_LOCK (R170). -/
def execCoinLock (dt : Nat) (tag : Byte) (payload : List Byte) (s : State) : Host.Outcome State Fault Refusal :=
  request dt 0x14 tag payload (fixedLayout 2 fun p => [byteCheck 0 0 1 4 p, boolCheck 0 1 p]) coinLockBlock s

/-- A pulse generator is in ON. -/
def Generator.isOn : Generator → Bool
  | .on .. => true
  | .idle | .gap _ => false

/-- No money is left in the bank, the queues or a pulse (R171). -/
def moneyGone (s : State) : Bool :=
  s.coins.bank == 0 && allSlots.all fun n => (s.queue n).isEmpty && !(s.generator n).isOn

/-- COIN_TOTALS_CLEAR's state check (R171). -/
def coinTotalsClearBlock (s : State) (_ : List Byte) : State × Option Answer :=
  if moneyGone s then
    unchanged .ok (postBank .cleared { s with coins := { s.coins with accepted := 0, delivered := 0, drained := 0 } })
  else unchanged .wrongState s

/-- COIN_TOTALS_CLEAR (R171). -/
def execCoinTotalsClear (dt : Nat) (tag : Byte) (payload : List Byte) (s : State) : Host.Outcome State Fault Refusal :=
  request dt 0x15 tag payload noPayload coinTotalsClearBlock s

/-! ### Timers (R159, R166, R173) -/

/-- A chute's jam timer expires (R159). -/
def jamExpires (c : Chute) (s : State) : State :=
  match (s.chute c).jamTimer with
  | none => s
  | some t => jamExpiry c (inputActive s (coinInput c)) (s.reach t)

/-- JAM_TIMER_EXPIRY (R159). -/
def execJamTimerExpiry (c : Chute) (s : State) : Host.Outcome State Fault Refusal := event s fun s => jamExpires c s

/-- A pulse's on time expires: the line goes inactive and the generator enters GAP (R166). -/
def pulseOnExpires (n : Slot) (s : State) : State :=
  match s.generator n with
  | .on _ t gap =>
    let s := s.reach t
    s.setGenerator n (.gap (s.now + gap))
  | .idle | .gap _ => s

/-- PULSE_ON_EXPIRY (R166). -/
def execPulseOnExpiry (n : Slot) (s : State) : Host.Outcome State Fault Refusal := event s fun s => pulseOnExpires n s

/-- A pulse's gap expires: the generator enters IDLE and judges again (R166). -/
def pulseGapExpires (n : Slot) (s : State) : State :=
  match s.generator n with
  | .gap t => judgePulse n ((s.reach t).setGenerator n .idle)
  | .idle | .on .. => s

/-- PULSE_GAP_EXPIRY (R166). -/
def execPulseGapExpiry (n : Slot) (s : State) : Host.Outcome State Fault Refusal := event s fun s => pulseGapExpires n s

/-- A meter's output goes off after 60 ms (R173). -/
def meterOnExpires (m : Meter) (s : State) : State :=
  match (s.meter m).driver with
  | .on t =>
    let s := s.reach t
    s.setMeter m { s.meter m with driver := .off (s.now + ms 60) }
  | .idle | .off _ => s

/-- METER_ON_EXPIRY (R173). -/
def execMeterOnExpiry (m : Meter) (s : State) : Host.Outcome State Fault Refusal := event s fun s => meterOnExpires m s

/-- A meter's driver enters IDLE after 60 ms off and judges again (R173). -/
def meterOffExpires (m : Meter) (s : State) : State :=
  match (s.meter m).driver with
  | .off t =>
    let s := s.reach t
    judgeMeter m (s.setMeter m { s.meter m with driver := .idle })
  | .idle | .on _ => s

/-- METER_OFF_EXPIRY (R173). -/
def execMeterOffExpiry (m : Meter) (s : State) : Host.Outcome State Fault Refusal := event s fun s => meterOffExpires m s

/-! ### The counters (R179, R180) -/

/-- The range check of COUNTERS_READ (R180). -/
def countersReadFields (p : List Byte) : List FieldCheck :=
  [byteCheck 0 0 0 66 p,
    (1, decide (1 ≤ byteAt p 1 ∧ byteAt p 1 ≤ 38) && decide (byteAt p 0 + byteAt p 1 ≤ 67)),
    boolCheck 0 2 p]

/-- The counter mode's three bytes. -/
def modeBytes (c : Counters) : List Byte := [boolByte c.freeze, boolByte c.saturate, boolByte c.readClear]

/-- The reply of COUNTERS_READ (R180). -/
def countersData (first count : Nat) (c : Counters) : List Byte :=
  modeBytes c ++ [byteOf first, byteOf count]
    ++ ((c.table.toList.drop first).take count).flatMap Counter.bytes

/-- COUNTERS_READ: the range as it stands, then cleared when clearing is in force (R180). -/
def countersReadBlock (s : State) (p : List Byte) : State × Option Answer :=
  let first := byteAt p 0
  let count := byteAt p 1
  let after := if flagAt p 2 || s.counters.readClear then clearRange first count s.counters else s.counters
  ({ s with counters := after }, some ⟨.ok, countersData first count s.counters⟩)

/-- COUNTERS_READ (R180). -/
def execCountersRead (dt : Nat) (tag : Byte) (payload : List Byte) (s : State) : Host.Outcome State Fault Refusal :=
  request dt 0x16 tag payload (fixedLayout 3 countersReadFields) countersReadBlock s

/-- The checks of COUNTERS_MODE (R179). -/
def countersModeFields (p : List Byte) : List FieldCheck :=
  [boolCheck 0 0 p, boolCheck 0 1 p, boolCheck 0 2 p, byteCheck 0 3 0 2 p]

/-- COUNTERS_MODE: the mode replaced, then the preset applied (R179). -/
def countersModeBlock (s : State) (p : List Byte) : State × Option Answer :=
  let c := { s.counters with freeze := flagAt p 0, saturate := flagAt p 1, readClear := flagAt p 2 }
  ({ s with counters := applyPreset (byteAt p 3) c }, some (.plain .ok))

/-- COUNTERS_MODE (R179). -/
def execCountersMode (dt : Nat) (tag : Byte) (payload : List Byte) (s : State) : Host.Outcome State Fault Refusal :=
  request dt 0x17 tag payload (fixedLayout 4 countersModeFields) countersModeBlock s

end Sys2Proof.Machine
end

