-- ==== Sys2Proof/Machine/ProfileCommands.lean ====
section
/-! DEFINITION. The meanings of the profile and store commands (R184 to R186). -/

namespace Sys2Proof.Machine

/-! ### PROFILE_GET and PROFILE_PUT (R184) -/

/-- The page is one the section has: 0, or 0 to 3 for CONTROLS (R184). -/
def pageField (p : List Byte) : FieldCheck := (2, byteAt p 2 == 0 || (byteAt p 1 == 2 && decide (byteAt p 2 ≤ 3)))

/-- The checks of the slot, section and page (R184). -/
def profileFields (p : List Byte) : List FieldCheck := [slotField p, byteCheck 0 1 0 4 p, pageField p]

/-- The CONTROLS page a payload names; the check has held it in 0 to 3. -/
def payloadPage (p : List Byte) : Fin 4 := Fin.ofNat 4 (byteAt p 2)

/-- A section's contents, laid out as PROFILE_PUT carries them (R184). -/
def sectionContents (x : SlotProfile) (sec : Nat) (page : Fin 4) : List Byte :=
  match sec with
  | 0 => writeGeneral x.general
  | 1 => writePicture x.picture
  | 2 => writePage (x.controls.at page)
  | 3 => writeCoins x.coins
  | _ => writeDips x.dips

def profileGetBlock (s : State) (p : List Byte) : State × Option Answer :=
  if s.profiles.loading then unchanged .busy s
  else (s, some ⟨.ok, sectionContents (s.profile (payloadSlot p)) (byteAt p 1) (payloadPage p)⟩)

/-- PROFILE_GET (R184). -/
def execProfileGet (dt : Nat) (tag : Byte) (payload : List Byte) (s : State) : Host.Outcome State Fault Refusal :=
  request dt 0x09 tag payload (fixedLayout 3 profileFields) profileGetBlock s

/-- The section's length; that of CONTROLS is accounted for by its count byte (R184). -/
def sectionLength (sec : Nat) (contents : List Byte) : Nat :=
  match sec with
  | 0 => generalLength
  | 1 => pictureLength
  | 2 => 1 + 3 * byteAt contents 0
  | 3 => coinsLength
  | _ => dipsLength

/-- The entries of the CONTROLS pages other than one. -/
def otherEntries (x : SlotProfile) (page : Fin 4) : List MapEntry :=
  (allFour.filter fun k => k != page).flatMap fun k => x.controls.at k

/-- The field checks of a section's contents, which begin at payload offset 3 (R182, R184). -/
def sectionFields (x : SlotProfile) (sec : Nat) (page : Fin 4) (contents : List Byte) : List FieldCheck :=
  match sec with
  | 0 => checkGeneral 3 contents
  | 1 => checkPicture 3 contents
  | 2 => checkPage 3 contents (otherEntries x page)
  | 3 => checkCoins 3 contents
  | _ => checkDips 3 contents

/-- The length and field checks of PROFILE_PUT (R184). -/
def profilePutCheck (s : State) (p : List Byte) : Option Result :=
  let contents := p.drop 3
  let sec := byteAt p 1
  if p.length < 3 then some .badLength
  else if 4 < sec then some (.badField 1)
  else if p.length ≠ 3 + sectionLength sec contents ∨ (sec = 2 ∧ p.length < 4) then some .badLength
  else
    (firstBad (profileFields p ++ sectionFields (s.profile (payloadSlot p)) sec (payloadPage p) contents)).map .badField

/-- A section replaced by a payload's contents (R184). -/
def putSection (x : SlotProfile) (sec : Nat) (page : Fin 4) (contents : List Byte) : SlotProfile :=
  match sec with
  | 0 => { x with general := readGeneral contents }
  | 1 => { x with picture := readPicture contents }
  | 2 => { x with controls := x.controls.put page (readPage contents) }
  | 3 => { x with coins := readCoins contents }
  | _ => { x with dips := readDips contents }

/-- PROFILE_PUT: the section replaced together; a change of the expected kind while the slot is OFF recomputes its
mismatch flag at once (R24, R182, R184). -/
def profilePutBlock (s : State) (p : List Byte) : State × Option Answer :=
  if s.profiles.loading then unchanged .busy s
  else
    let n := payloadSlot p
    let old := s.profile n
    let new := putSection old (byteAt p 1) (payloadPage p) (p.drop 3)
    let s := s.setProfile n new
    unchanged .ok (if new.general.expectedKind = old.general.expectedKind then s else recomputeMismatch n s)

/-- PROFILE_PUT (R184). -/
def execProfilePut (dt : Nat) (tag : Byte) (payload : List Byte) (s : State) : Host.Outcome State Fault Refusal :=
  request dt 0x0A tag payload profilePutCheck profilePutBlock s

/-! ### CABINET_GET and CABINET_PUT (R184) -/

def cabinetGetBlock (s : State) (_ : List Byte) : State × Option Answer :=
  if s.profiles.loading then unchanged .busy s else (s, some ⟨.ok, writeCabinet s.cabinet⟩)

/-- CABINET_GET (R184). -/
def execCabinetGet (dt : Nat) (tag : Byte) (payload : List Byte) (s : State) : Host.Outcome State Fault Refusal :=
  request dt 0x0B tag payload noPayload cabinetGetBlock s

/-- The working cabinet settings replaced; the chord and the coin reasons take the change at once (R154, R160). -/
def putCabinet (c : Cabinet) (s : State) : State :=
  let before := s.cabinet
  let s := { s with profiles := { s.profiles with working := { s.profiles.working with cabinet := c } } }
  judgeSettings (chordAfter before s)

def cabinetPutBlock (s : State) (p : List Byte) : State × Option Answer :=
  if s.profiles.loading then unchanged .busy s else unchanged .ok (putCabinet (readCabinet p) s)

/-- CABINET_PUT (R184). -/
def execCabinetPut (dt : Nat) (tag : Byte) (payload : List Byte) (s : State) : Host.Outcome State Fault Refusal :=
  request dt 0x0C tag payload (fixedLayout cabinetLength checkCabinet) cabinetPutBlock s

/-! ### The store (R185, R186) -/

/-- STORE_SAVE's state checks; an accepted save takes its snapshot and begins the write (R185). -/
def storeSaveBlock (answers : Bool) (s : State) (_ : List Byte) : State × Option Answer :=
  if s.profiles.saving.isSome || s.profiles.loading then unchanged .busy s
  else if answers then
    unchanged .accepted { s with profiles := { s.profiles with saving := some s.profiles.working } }
  else unchanged .storeFault s

/-- STORE_SAVE (R185). -/
def execStoreSave (dt : Nat) (tag : Byte) (payload : List Byte) (answers : Bool) (s : State) :
    Host.Outcome State Fault Refusal :=
  request dt 0x0D tag payload noPayload (storeSaveBlock answers) s

/-- STORE_LOAD's state checks (R186). -/
def storeLoadBlock (answers : Bool) (s : State) (_ : List Byte) : State × Option Answer :=
  if s.inFlight || s.profiles.saving.isSome || s.profiles.loading then unchanged .busy s
  else if answers then unchanged .accepted { s with profiles := { s.profiles with loading := true } }
  else unchanged .storeFault s

/-- STORE_LOAD (R186). -/
def execStoreLoad (dt : Nat) (tag : Byte) (payload : List Byte) (answers : Bool) (s : State) :
    Host.Outcome State Fault Refusal :=
  request dt 0x0E tag payload noPayload (storeLoadBlock answers) s

/-- STORE_SAVE_END (R185). -/
def execStoreSaveEnd (dt : Nat) (failed : List SectionId) (s : State) : Host.Outcome State Fault Refusal :=
  event s fun s => saveEnds failed (s.tick dt)

/-- PROFILE_LOAD_END (R186). -/
def execProfileLoadEnd (dt : Nat) (answers : Bool) (failed : List SectionId) (s : State) :
    Host.Outcome State Fault Refusal :=
  event s fun s => loadEnds answers failed (s.tick dt)

end Sys2Proof.Machine
end

