-- ==== Sys2Proof/Machine/Dispatch.lean ====
section
/-! DEFINITION. One arm per command, in the order of spec/opcode_table.json, each a direct call of its meaning. -/

namespace Sys2Proof.Machine

def exec (i : Instr) (s : State) : Host.Outcome State Fault Refusal :=
  match i with
  | .characterReceived dt c => Sys2Proof.Machine.execCharacterReceived dt c s
  | .gapTimeout => Sys2Proof.Machine.execGapTimeout s
  | .frameSent dt => Sys2Proof.Machine.execFrameSent dt s
  | .unknownKind dt kind tag payload => Sys2Proof.Machine.execUnknownKind dt kind tag payload s
  | .ident dt tag payload => Sys2Proof.Machine.execIdent dt tag payload s
  | .state dt tag payload => Sys2Proof.Machine.execState dt tag payload s
  | .slotInfo dt tag payload => Sys2Proof.Machine.execSlotInfo dt tag payload s
  | .slotPowerOn dt tag payload => Sys2Proof.Machine.execSlotPowerOn dt tag payload s
  | .slotPowerOff dt tag payload => Sys2Proof.Machine.execSlotPowerOff dt tag payload s
  | .slotRestart dt tag payload => Sys2Proof.Machine.execSlotRestart dt tag payload s
  | .select dt tag payload => Sys2Proof.Machine.execSelect dt tag payload s
  | .abort dt tag payload => Sys2Proof.Machine.execAbort dt tag payload s
  | .timing dt tag payload => Sys2Proof.Machine.execTiming dt tag payload s
  | .profileGet dt tag payload => Sys2Proof.Machine.execProfileGet dt tag payload s
  | .profilePut dt tag payload => Sys2Proof.Machine.execProfilePut dt tag payload s
  | .cabinetGet dt tag payload => Sys2Proof.Machine.execCabinetGet dt tag payload s
  | .cabinetPut dt tag payload => Sys2Proof.Machine.execCabinetPut dt tag payload s
  | .storeSave dt tag payload answers => Sys2Proof.Machine.execStoreSave dt tag payload answers s
  | .storeLoad dt tag payload answers => Sys2Proof.Machine.execStoreLoad dt tag payload answers s
  | .controlsTake dt tag payload => Sys2Proof.Machine.execControlsTake dt tag payload s
  | .controlsGive dt tag payload => Sys2Proof.Machine.execControlsGive dt tag payload s
  | .coinState dt tag payload => Sys2Proof.Machine.execCoinState dt tag payload s
  | .coinDeliver dt tag payload => Sys2Proof.Machine.execCoinDeliver dt tag payload s
  | .coinDrain dt tag payload => Sys2Proof.Machine.execCoinDrain dt tag payload s
  | .coinLock dt tag payload => Sys2Proof.Machine.execCoinLock dt tag payload s
  | .coinTotalsClear dt tag payload => Sys2Proof.Machine.execCoinTotalsClear dt tag payload s
  | .countersRead dt tag payload => Sys2Proof.Machine.execCountersRead dt tag payload s
  | .countersMode dt tag payload => Sys2Proof.Machine.execCountersMode dt tag payload s
  | .adapterRead dt tag payload => Sys2Proof.Machine.execAdapterRead dt tag payload s
  | .adapterWrite dt tag payload => Sys2Proof.Machine.execAdapterWrite dt tag payload s
  | .noticeMask dt tag payload => Sys2Proof.Machine.execNoticeMask dt tag payload s
  | .restart dt tag payload => Sys2Proof.Machine.execRestart dt tag payload s
  | .overlay dt tag payload => Sys2Proof.Machine.execOverlay dt tag payload s
  | .restartEffect dt => Sys2Proof.Machine.execRestartEffect dt s
  | .powerUpReset dt retainedGood => Sys2Proof.Machine.execPowerUpReset dt retainedGood s
  | .powerLoss dt => Sys2Proof.Machine.execPowerLoss dt s
  | .powerGoodRise dt n => Sys2Proof.Machine.execPowerGoodRise dt n s
  | .powerGoodFall dt n => Sys2Proof.Machine.execPowerGoodFall dt n s
  | .powerGoodWindowExpiry n => Sys2Proof.Machine.execPowerGoodWindowExpiry n s
  | .bootWindowExpiry n => Sys2Proof.Machine.execBootWindowExpiry n s
  | .transactionAnswered a => Sys2Proof.Machine.execTransactionAnswered a s
  | .answerWindowExpiry received => Sys2Proof.Machine.execAnswerWindowExpiry received s
  | .pollTimerExpiry => Sys2Proof.Machine.execPollTimerExpiry s
  | .verticalSync dt src => Sys2Proof.Machine.execVerticalSync dt src s
  | .lineSync dt src video => Sys2Proof.Machine.execLineSync dt src video s
  | .fieldTimeout src => Sys2Proof.Machine.execFieldTimeout src s
  | .syncTimerExpiry src => Sys2Proof.Machine.execSyncTimerExpiry src s
  | .lockLimitExpiry => Sys2Proof.Machine.execLockLimitExpiry s
  | .recoveryWatchExpiry => Sys2Proof.Machine.execRecoveryWatchExpiry s
  | .outputFieldStart => Sys2Proof.Machine.execOutputFieldStart s
  | .settleExpiry => Sys2Proof.Machine.execSettleExpiry s
  | .audioFadeStep => Sys2Proof.Machine.execAudioFadeStep s
  | .stillTimerExpiry => Sys2Proof.Machine.execStillTimerExpiry s
  | .rawInputChange dt input closed => Sys2Proof.Machine.execRawInputChange dt input closed s
  | .debounceExpiry input => Sys2Proof.Machine.execDebounceExpiry input s
  | .chordTimerExpiry => Sys2Proof.Machine.execChordTimerExpiry s
  | .playTimerExpiry => Sys2Proof.Machine.execPlayTimerExpiry s
  | .jamTimerExpiry c => Sys2Proof.Machine.execJamTimerExpiry c s
  | .pulseOnExpiry n => Sys2Proof.Machine.execPulseOnExpiry n s
  | .pulseGapExpiry n => Sys2Proof.Machine.execPulseGapExpiry n s
  | .meterOnExpiry m => Sys2Proof.Machine.execMeterOnExpiry m s
  | .meterOffExpiry m => Sys2Proof.Machine.execMeterOffExpiry m s
  | .storeSaveEnd dt failed => Sys2Proof.Machine.execStoreSaveEnd dt failed s
  | .profileLoadEnd dt answers failed => Sys2Proof.Machine.execProfileLoadEnd dt answers failed s
  | .adapterPluggedIn dt n own => Sys2Proof.Machine.execAdapterPluggedIn dt n own s

end Sys2Proof.Machine
end

