-- ==== Sys2Proof/Safety.lean ====
section
/-! DEFINITION. What the claims about the part speak of: which blocks of the state a command leaves alone, what it
means that a request was answered, what a frame on the line is, and the properties that every step keeps. -/

namespace Sys2Proof.Machine

/-! ### Frames: the blocks of the state -/

/-- The blocks of the state. -/
inductive Block where
  | powered | now | link | counters | slots | adapters | bus | monitors | co | frame | out | pic | snd | router | coins
  | profiles | free | reports | pending
  deriving DecidableEq, Repr

/-- Two states have the same contents in a block. -/
def Block.same (s t : State) : Block → Prop
  | .powered => t.powered = s.powered
  | .now => t.now = s.now
  | .link => t.link = s.link
  | .counters => t.counters = s.counters
  | .slots => t.slots = s.slots
  | .adapters => t.adapters = s.adapters
  | .bus => t.bus = s.bus
  | .monitors => t.monitors = s.monitors
  | .co => t.co = s.co
  | .frame => t.frame = s.frame
  | .out => t.out = s.out
  | .pic => t.pic = s.pic
  | .snd => t.snd = s.snd
  | .router => t.router = s.router
  | .coins => t.coins = s.coins
  | .profiles => t.profiles = s.profiles
  | .free => t.free = s.free
  | .reports => t.reports = s.reports
  | .pending => t.pending = s.pending

/-- `t` has the contents of `s` in every block outside the list. -/
structure SameOutside (l : List Block) (s t : State) : Prop where
  same : ∀ b, b ∉ l → b.same s t

/-! ### Requests -/

/-- A request is dispatched by this command: the part has power, the tag is not 0, and the request's turn has come,
which leaves the buffer `b` with the request in service (R4, R6, R7). -/
def Turn (kind tag : Byte) (p : List Byte) (s : State) (b : List Place) : Prop :=
  s.powered = true ∧ tag ≠ 0 ∧ takeTurn kind tag p s.link = some b

/-- The link with a reply given to the request in service of the buffer `b` (R6, R8). -/
def Link.replied (l : Link) (b : List Place) (r : Reply) : Link :=
  { l with buffer := markAnswered b, replies := l.replies ++ [r] }

/-- `dt` ticks pass and the request in service of `b` is given a reply; nothing else changes. -/
def State.justReplied (s : State) (dt : Nat) (b : List Place) (r : Reply) : State :=
  { s with now := s.now + dt, link := s.link.replied b r }

/-- The bytes are one frame on the line: A5h, LEN, KIND, TAG, the payload, and a check byte that makes the sum of all
but A5h equal 0 modulo 256 (Frame layout). -/
def IsFrame (kind tag : Byte) (payload bytes : List Byte) : Prop :=
  ∃ check : Byte, bytes = 0xA5 :: BitVec.ofNat 8 payload.length :: kind :: tag :: (payload ++ [check]) ∧
    (payload.length + kind.toNat + tag.toNat + (payload.map BitVec.toNat).sum + check.toNat) % 256 = 0

/-- A slot's number as a payload byte, 1 to 8. -/
def slotByte (n : Slot) : Byte := BitVec.ofNat 8 (n.val + 1)

/-- No changeover is in flight, and no report waits for the changeover controller. -/
def Settled (s : State) : Prop := s.co.record = none ∧ s.reports = []

/-- A slot has neither the controls nor a claim to them (R145, R147). -/
def Apart (n : Slot) (s : State) : Prop := s.router.owner ≠ .slot n ∧ s.router.claim ≠ some n

/-- The kind, tag and payload of a command that is a request, with the time before it. -/
def requestOf : Instr → Option (Nat × Byte × Byte × List Byte)
  | .ident dt t p => some (dt, 0x01, t, p)
  | .state dt t p => some (dt, 0x02, t, p)
  | .slotInfo dt t p => some (dt, 0x03, t, p)
  | .slotPowerOn dt t p => some (dt, 0x04, t, p)
  | .slotPowerOff dt t p => some (dt, 0x04, t, p)
  | .slotRestart dt t p => some (dt, 0x05, t, p)
  | .select dt t p => some (dt, 0x06, t, p)
  | .abort dt t p => some (dt, 0x07, t, p)
  | .timing dt t p => some (dt, 0x08, t, p)
  | .profileGet dt t p => some (dt, 0x09, t, p)
  | .profilePut dt t p => some (dt, 0x0A, t, p)
  | .cabinetGet dt t p => some (dt, 0x0B, t, p)
  | .cabinetPut dt t p => some (dt, 0x0C, t, p)
  | .storeSave dt t p _ => some (dt, 0x0D, t, p)
  | .storeLoad dt t p _ => some (dt, 0x0E, t, p)
  | .controlsTake dt t p => some (dt, 0x0F, t, p)
  | .controlsGive dt t p => some (dt, 0x10, t, p)
  | .coinState dt t p => some (dt, 0x11, t, p)
  | .coinDeliver dt t p => some (dt, 0x12, t, p)
  | .coinDrain dt t p => some (dt, 0x13, t, p)
  | .coinLock dt t p => some (dt, 0x14, t, p)
  | .coinTotalsClear dt t p => some (dt, 0x15, t, p)
  | .countersRead dt t p => some (dt, 0x16, t, p)
  | .countersMode dt t p => some (dt, 0x17, t, p)
  | .adapterRead dt t p => some (dt, 0x18, t, p)
  | .adapterWrite dt t p => some (dt, 0x19, t, p)
  | .noticeMask dt t p => some (dt, 0x1A, t, p)
  | .restart dt t p => some (dt, 0x1B, t, p)
  | .overlay dt t p => some (dt, 0x1C, t, p)
  | _ => none

/-- The length of a request of fixed layout, by its KIND (Request payloads table). -/
def requestLength (kind : Byte) : Option Nat :=
  match kind.toNat with
  | 0x01 | 0x02 | 0x07 | 0x0B | 0x0D | 0x0E | 0x10 | 0x11 | 0x15 | 0x1B => some 0
  | 0x03 | 0x05 | 0x06 | 0x08 | 0x0F => some 1
  | 0x04 | 0x12 | 0x13 | 0x14 => some 2
  | 0x09 | 0x16 | 0x18 => some 3
  | 0x17 => some 4
  | 0x0C => some 47
  | 0x1A | 0x1C => some 12
  | _ => none

/-- Commands executed one after another. -/
def execAll : List Instr → State → Host.Outcome State Fault Refusal
  | [], s => .next s
  | c :: rest, s =>
    match exec c s with
    | .next t => execAll rest t
    | other => other

/-! ### What a park makes of a slot (R33, R35, R36) -/

/-- The state a park in a standing mode leaves a slot in: the table of R33. -/
def parkedState : StandingMode → SlotState → SlotState
  | .run, .frozen => .live
  | .freeze, .live => .frozen
  | .freeze, .booting | .hold, .booting | .hold, .live | .hold, .frozen => .held
  | .off, .powering | .off, .held | .off, .booting | .off, .live | .off, .frozen => .off
  | _, st => st

/-- `t` is what a park makes of the slot record `r` under the GENERAL section `g`: the state of R33's table; in the other
rows the flags, windows and signatures that R33, R20, R35 and R36 name. -/
def Parked (g : General) (r t : SlotRecord) : Prop :=
  t.state = parkedState g.standing r.state ∧ t.kind = r.kind ∧ t.revision = r.revision ∧ t.powerGood = r.powerGood ∧
  (r.state.supplied = false ∨ (g.standing = .run ∧ r.state ≠ .frozen) → t = r) ∧
  (t.state = .held → r.state ≠ .held → r.state ≠ .powering →
    t.runUp = false ∧ t.paused = false ∧ t.bootWindow = none ∧ t.lastSig = none) ∧
  (g.standing = .freeze ∨ g.standing = .hold → r.state = .powering ∨ r.state = .held →
    t.runUp = false ∧ t.pgWindow = r.pgWindow ∧ (r.state = .held → t.applying = false)) ∧
  (g.standing = .freeze → r.state = .live ∨ r.state = .frozen → t.parkedSig = r.lastSig ∧ t.lastSig = r.lastSig) ∧
  (r.state = .frozen → t.paused = false ∧ (g.standing ≠ .freeze → t.parkedSig = none)) ∧
  (g.standing = .off → r.state.supplied = true →
    t.mismatch = decide (g.expectedKind ≠ 0 ∧ g.expectedKind ≠ r.kind) ∧ t.runUp = false ∧ t.paused = false ∧
    t.pgWindow = none ∧ t.bootWindow = none ∧ t.applying = false ∧ t.lastSig = none ∧ t.parkedSig = none)

/-! ### Properties every step keeps -/

/-- The equality of R163: the bank plus the queues is what was accepted and neither delivered nor drained, in the
totals' own arithmetic modulo 2^32. -/
def Conserved (s : State) : Prop :=
  BitVec.ofNat 32 (s.coins.bank + queuedUnits s) = s.coins.accepted - s.coins.delivered - s.coins.drained

/-- The bank is at most 65,535 units, a queue at most 32, an owed count at most 255 (R161, R162, R164). -/
def CoinsBounded (s : State) : Prop :=
  s.coins.bank ≤ 65535 ∧ (∀ n, (s.queue n).length ≤ 32) ∧ ∀ m, (s.meter m).owed ≤ 255

/-- Every slot's lines are at the levels its state fixes (R18). -/
def LinesMatch (s : State) : Prop := ∀ n, (s.slot n).lines = (s.slot n).state.lines

/-- The notice table holds at most one entry per key (R9). -/
def KeysDistinct (s : State) : Prop := (s.link.notices.map fun e => e.notice.key).Nodup

/-- The receive buffer holds at most four requests (R4). -/
def BufferBounded (s : State) : Prop := s.link.buffer.length ≤ 4

/-- At most one buffer is FILLING and at most one is SHOWING (R100). -/
def OneEach (s : State) : Prop :=
  ∀ b c, (s.buffer b).state = (s.buffer c).state → (s.buffer b).state = .filling ∨ (s.buffer b).state = .showing → b = c

/-- The owner is a slot only when that slot is the current slot, no changeover is in flight and the slot is LIVE; a
resume claim is only ever the current slot's, with no changeover in flight (R145, R147). -/
def OwnerSound (s : State) : Prop :=
  (∀ n, s.router.owner = .slot n → s.co.current = some n ∧ s.co.record = none ∧ (s.slot n).state = .live) ∧
  (∀ n, s.router.claim = some n → s.co.current = some n ∧ s.co.record = none)

/-- What a slot's record holds fits its state: a mismatch flag only in EMPTY or OFF, a power-good window only in POWERING,
a boot window only in BOOTING, and a DIP apply only for a slot in HELD that has it under way (R24, R26, R28, R50). The
bus has at most one apply run for each slot (R45). -/
def PowerSound (s : State) : Prop :=
  (∀ n, (s.slot n).mismatch = true → (s.slot n).state = .empty ∨ (s.slot n).state = .off) ∧
  (∀ n, (s.slot n).pgWindow ≠ none → (s.slot n).state = .powering) ∧
  (∀ n, (s.slot n).bootWindow ≠ none → (s.slot n).state = .booting) ∧
  (∀ r ∈ s.bus.sequence, (s.slot r.slot).state = .held ∧ (s.slot r.slot).applying = true) ∧
  (s.bus.sequence.map ApplyRun.slot).Nodup

/-- A period within the bounds of R58. -/
def GoodPeriod (f : Nat) : Prop := 337500 ≤ f ∧ f ≤ 675000

/-- A monitor's figures fit its state: Fref and Lref are present exactly in LOCKED and WEAK, Fref within the bounds of
an accepted field; in SEEKING a run of 1 to 3 accepted fields stands (R56, R63, R65). -/
def Monitor.sound (m : Monitor) : Prop :=
  (m.state.hasLock = true → ∃ f l, m.fref = some f ∧ m.lref = some l ∧ GoodPeriod f) ∧
  (m.state.hasLock = false → m.fref = none ∧ m.lref = none) ∧
  (m.state = .seeking →
    1 ≤ m.run ∧ m.run ≤ 3 ∧ 337500 * m.run ≤ m.runSum ∧ m.runSum ≤ 675000 * m.run ∧ ∃ f, m.reference = some f ∧ GoodPeriod f)

/-- Every monitor is sound. -/
def MonitorsSound (s : State) : Prop := ∀ src, (s.monitor src).sound

end Sys2Proof.Machine
end

