-- ==== Sys2Proof/WellFormed.lean ====
section
/-! DEFINITION. Which commands can arise: the bounds the manual puts on what a frame, a line or the bus can carry. -/

namespace Sys2Proof

/-- A frame's payload has at most 200 bytes (link chapter, Frame). -/
def payloadFits (p : List Byte) : Bool := decide (p.length ≤ 200)

/-- A KIND below 80h that the request catalogue (01h to 1Ch) does not hold (R3, R7). -/
def kindOutsideCatalogue (k : Byte) : Bool := decide (k = 0) || (decide (0x1C < k.toNat) && decide (k.toNat < 0x80))

/-- A line's video signal: its changes in order, at most one for each of the 1,024 positions a line can have (R102; log
14). -/
def videoFits (v : List (Nat × RGB)) : Bool := decide (v.length ≤ 1024) && decide ((v.map Prod.fst).Pairwise (· < ·))

/-- A list of sections names none twice. -/
def sectionsDistinct (l : List SectionId) : Bool := decide l.Nodup

/-- What an adapter gives itself: each cell at most once, and no DIP cell, which holds 0 (R42, R43). -/
def ownCellsFit (l : List (Fin 256 × Word16)) : Bool :=
  decide ((l.map Prod.fst).Nodup) && l.all fun p => decide (p.1.val < 3) || decide (6 < p.1.val)

/-- A command that can arise. SLOT_POWER_ON and SLOT_POWER_OFF are told apart by the payload's on byte (R25, R30). -/
def Instr.wellFormed : Instr → Bool
  | .characterReceived _ _ => true
  | .gapTimeout => true
  | .frameSent _ => true
  | .unknownKind _ k _ p => kindOutsideCatalogue k && payloadFits p
  | .ident _ _ p => payloadFits p
  | .state _ _ p => payloadFits p
  | .slotInfo _ _ p => payloadFits p
  | .slotPowerOn _ _ p => payloadFits p && p.getD 1 1 != 0
  | .slotPowerOff _ _ p => payloadFits p && p.getD 1 0 == 0
  | .slotRestart _ _ p => payloadFits p
  | .select _ _ p => payloadFits p
  | .abort _ _ p => payloadFits p
  | .timing _ _ p => payloadFits p
  | .profileGet _ _ p => payloadFits p
  | .profilePut _ _ p => payloadFits p
  | .cabinetGet _ _ p => payloadFits p
  | .cabinetPut _ _ p => payloadFits p
  | .storeSave _ _ p _ => payloadFits p
  | .storeLoad _ _ p _ => payloadFits p
  | .controlsTake _ _ p => payloadFits p
  | .controlsGive _ _ p => payloadFits p
  | .coinState _ _ p => payloadFits p
  | .coinDeliver _ _ p => payloadFits p
  | .coinDrain _ _ p => payloadFits p
  | .coinLock _ _ p => payloadFits p
  | .coinTotalsClear _ _ p => payloadFits p
  | .countersRead _ _ p => payloadFits p
  | .countersMode _ _ p => payloadFits p
  | .adapterRead _ _ p => payloadFits p
  | .adapterWrite _ _ p => payloadFits p
  | .noticeMask _ _ p => payloadFits p
  | .restart _ _ p => payloadFits p
  | .overlay _ _ p => payloadFits p
  | .restartEffect _ => true
  | .powerUpReset _ _ => true
  | .powerLoss _ => true
  | .powerGoodRise _ _ => true
  | .powerGoodFall _ _ => true
  | .powerGoodWindowExpiry _ => true
  | .bootWindowExpiry _ => true
  | .transactionAnswered _ => true
  | .answerWindowExpiry _ => true
  | .pollTimerExpiry => true
  | .verticalSync _ _ => true
  | .lineSync _ _ v => videoFits v
  | .fieldTimeout _ => true
  | .syncTimerExpiry _ => true
  | .lockLimitExpiry => true
  | .recoveryWatchExpiry => true
  | .outputFieldStart => true
  | .settleExpiry => true
  | .audioFadeStep => true
  | .stillTimerExpiry => true
  | .rawInputChange _ _ _ => true
  | .debounceExpiry _ => true
  | .chordTimerExpiry => true
  | .playTimerExpiry => true
  | .jamTimerExpiry _ => true
  | .pulseOnExpiry _ => true
  | .pulseGapExpiry _ => true
  | .meterOnExpiry _ => true
  | .meterOffExpiry _ => true
  | .storeSaveEnd _ f => sectionsDistinct f
  | .profileLoadEnd _ _ f => sectionsDistinct f
  | .adapterPluggedIn _ _ own => ownCellsFit own

end Sys2Proof
end

