-- ==== Sys2Proof/Certificates/Slice0/Obligations.lean ====
section
/-! DEFINITION. The statements for the provers. Each formalises rules of spec/ or a property of the whole part; a
clause that rests on a choice of the model names its log entry. In most of them `conclude` stands for the end of a
step, which Obligations.TransmitterTakesTurns states. -/

open Sys2Proof Sys2Proof.Machine

/-! ### The queue and the cabinet link (R1 to R16) -/

/-- A step executes the command at the front of the queue on the state with the queue's rest; with nothing waiting the
part idles (the model's choice, log 20). -/
def Obligations.StepRunsFrontCommand : Prop :=
  (∀ (c : Instr) (rest : List Instr) (s : State), s.pending = c :: rest → step s = exec c { s with pending := rest }) ∧
  ∀ s : State, s.pending = [] → step s = .next s

/-- R1 and R3, character by character: what each assembly state makes of a whole character and of one in error.
`taken rx` is the state with the character taken into assembly state `rx`, the gap timer running for 20 ms from it;
`hunting` is the state back in HUNT with the timer stopped. -/
def Obligations.ReceiverTakesCharacters : Prop :=
  ∀ (dt : Nat) (s : State), s.powered = true →
    let taken (rx : RxState) : State :=
      { s with now := s.now + dt, link := { s.link with rx := rx, gap := some (s.now + dt + 540000) } }
    let hunting : State := { s with now := s.now + dt, link := { s.link with rx := .hunt, gap := none } }
    (s.link.rx = .hunt →
      exec (.characterReceived dt (.whole 0xA5)) s = .next (conclude (taken .length)) ∧
      (∀ b, b ≠ 0xA5 → exec (.characterReceived dt (.whole b)) s = .next (conclude hunting)) ∧
      exec (.characterReceived dt .inError) s = .next (conclude hunting)) ∧
    (s.link.rx ≠ .hunt → exec (.characterReceived dt .inError) s = .next (conclude (linkError .character hunting))) ∧
    (s.link.rx = .length → ∀ b : Byte,
      (b.toNat ≤ 200 → exec (.characterReceived dt (.whole b)) s = .next (conclude (taken (.header b.toNat none)))) ∧
      (200 < b.toNat → exec (.characterReceived dt (.whole b)) s = .next (conclude (linkError .length hunting)))) ∧
    (∀ len, s.link.rx = .header len none → ∀ b,
      exec (.characterReceived dt (.whole b)) s = .next (conclude (taken (.header len (some b))))) ∧
    (∀ len k, s.link.rx = .header len (some k) → ∀ b,
      exec (.characterReceived dt (.whole b)) s =
        .next (conclude (taken (if len = 0 then .check k b [] else .payload len k b [])))) ∧
    (∀ len k t got, s.link.rx = .payload len k t got → ∀ b,
      exec (.characterReceived dt (.whole b)) s = .next (conclude (taken
        (if got.length + 1 < len then .payload len k t (got ++ [b]) else .check k t (got ++ [b]))))) ∧
    (∀ (k t : Byte) (p : List Byte), s.link.rx = .check k t p → ∀ b : Byte,
      let sum := (p.length + k.toNat + t.toNat + (p.map BitVec.toNat).sum + b.toNat) % 256
      (sum ≠ 0 → exec (.characterReceived dt (.whole b)) s = .next (conclude (linkError .check hunting))) ∧
      (sum = 0 → 128 ≤ k.toNat → exec (.characterReceived dt (.whole b)) s = .next (conclude (linkError .kind hunting))) ∧
      (sum = 0 → k.toNat < 128 → s.link.buffer.length < 4 →
        exec (.characterReceived dt (.whole b)) s = .next (conclude { hunting with
          link := { hunting.link with buffer := s.link.buffer ++ [⟨k, t, p, .waiting⟩] } })) ∧
      (sum = 0 → k.toNat < 128 → 4 ≤ s.link.buffer.length →
        exec (.characterReceived dt (.whole b)) s = .next (conclude (linkError .overrun hunting))))

/-- Every request frame laid out as the link chapter gives it (A5h, LEN, KIND, TAG, payload, a check byte that makes the
sum 0), sent character by character to a hunting receiver with a free place, each character within the 20 ms of R2 after
the one before, is buffered with exactly its kind, tag and payload, and the receiver hunts again. -/
def Obligations.ReceiverAssemblesEveryRequestFrame : Prop :=
  ∀ (dt : Nat) (kind tag check : Byte) (p : List Byte) (s : State),
    dt < 540000 → s.powered = true → s.link.rx = .hunt → s.link.buffer.length < 4 → p.length ≤ 200 → kind.toNat < 128 →
    (p.length + kind.toNat + tag.toNat + (p.map BitVec.toNat).sum + check.toNat) % 256 = 0 →
    ∃ t, execAll (([0xA5, BitVec.ofNat 8 p.length, kind, tag] ++ p ++ [check]).map
        fun b => .characterReceived dt (.whole b)) s = .next t ∧
      t.link.rx = .hunt ∧ t.link.gap = none ∧ t.link.buffer = s.link.buffer ++ [⟨kind, tag, p, .waiting⟩] ∧
      t.counters = s.counters ∧ t.slots = s.slots ∧ t.co = s.co ∧ t.coins = s.coins ∧ t.profiles = s.profiles

/-- R5 and R2. A link error counts LINK_ERRORS (counter 64) under the counter mode and, unless LINK is masked, leaves a
LINK entry whose contents name its cause. The counter may post COUNTER; nothing of the link but the notice table
changes, which keeps its entries of other kinds, and no other block but the counters. When the gap timer expires the
frame being assembled is discarded as a link error of cause GAP, and the receiver hunts. A gap timer that does not run
expires to no effect (the model's choice, log 23). -/
def Obligations.LinkErrorsAndTheGapTimeout : Prop :=
  (∀ (c : LinkCause) (s : State),
      (linkError c s).counters = (increment 64 s).counters ∧
      (s.link.mask.at 9 = true → ∃ e ∈ (linkError c s).link.notices, e.notice = .link c ∧ 1 ≤ e.count) ∧
      (s.link.mask.at 9 = false → ∀ e ∈ (linkError c s).link.notices, e.notice.kind = 9 → e ∈ s.link.notices) ∧
      (linkError c s).link = { s.link with notices := (linkError c s).link.notices } ∧
      (∀ e ∈ s.link.notices, e.notice.kind ≠ 9 → e.notice.kind ≠ 6 → e ∈ (linkError c s).link.notices) ∧
      SameOutside [.link, .counters] s (linkError c s)) ∧
  (∀ s : State, s.powered = true →
      (∀ t, s.link.gap = some t →
        exec .gapTimeout s = .next (conclude (linkError .gap
          { s with now := max s.now t, link := { s.link with rx := .hunt, gap := none } }))) ∧
      (s.link.gap = none → exec .gapTimeout s = .next (conclude s)))

/-- R13, R11, R4, R153. At the end of every command (the moment of the choice is the model's, log 10) an idle
transmitter takes the oldest reply, otherwise the oldest notice entry, which leaves the table; the changed-input latch
empties when the entry is INPUT. A frame once begun is never cut short. At the end of a frame a notice leaves the
transmitter free; a reply also frees the place of the oldest answered request. FRAME_SENT with nothing being sent has no
effect (the model's choice, log 23).
R8, R9, R11 and the layouts: the bytes sent are a frame. A reply's KIND is the request's plus 80h, its payload the
result code, then the data of OK, ACCEPTED and ALREADY or the field index of BAD_FIELD. A notice's KIND is 40h to 4Ah
and its TAG 0; its payload is the subject, the count and the kind's contents, each field with its code, low byte first;
a code set is listed in the order of its codes. -/
def Obligations.TransmitterTakesTurns : Prop :=
  (∀ s : State,
      (∀ f, s.link.sending = some f → conclude s = { s with reports := [] }) ∧
      (∀ r rest, s.link.sending = none → s.link.replies = r :: rest →
        conclude s = { s with
          reports := []
          link := { s.link with replies := rest, sending := some (.reply r.bytes (r.kind = 0x1B && r.result = .ok)) } }) ∧
      (∀ e rest, s.link.sending = none → s.link.replies = [] → s.link.notices = e :: rest →
        conclude s = { s with
          reports := []
          link := { s.link with notices := rest, sending := some (.notice e.bytes) }
          router := if e.notice.kind = 3 then { s.router with latch := Tab.all 60 false } else s.router }) ∧
      (s.link.sending = none → s.link.replies = [] → s.link.notices = [] → conclude s = { s with reports := [] })) ∧
  (∀ (dt : Nat) (s : State), s.powered = true →
      (s.link.sending = none → exec (.frameSent dt) s = .next (conclude { s with now := s.now + dt })) ∧
      (∀ bytes, s.link.sending = some (.notice bytes) →
        exec (.frameSent dt) s = .next (conclude { s with now := s.now + dt, link := { s.link with sending := none } })) ∧
      (∀ bytes before after q, s.link.sending = some (.reply bytes false) →
        s.link.buffer = before ++ q :: after → q.stage = .answered → (∀ x ∈ before, x.stage ≠ .answered) →
        exec (.frameSent dt) s = .next (conclude { s with
          now := s.now + dt, link := { s.link with sending := none, buffer := before ++ after } }))) ∧
  (let reply (k t : Byte) (r : Result) (data : List Byte) (payload : List Byte) : Prop :=
      IsFrame (k + 0x80) t payload (Reply.bytes ⟨k, t, r, data⟩)
    ∀ (k t : Byte) (data : List Byte),
      (∀ x ∈ [(Result.ok, (0x00 : Byte)), (.accepted, 0x01), (.already, 0x02)], reply k t x.1 data (x.2 :: data)) ∧
      (∀ index : Nat, reply k t (.badField index) data [0x05, BitVec.ofNat 8 index]) ∧
      ∀ x ∈ [(Result.busy, (0x03 : Byte)), (.badLength, 0x04), (.unknownKind, 0x06), (.wrongState, 0x07),
        (.noBoard, 0x08), (.wrongBoard, 0x09), (.noCredit, 0x0A), (.queueFull, 0x0B), (.tooLate, 0x0C),
        (.noAnswer, 0x0D), (.badAnswer, 0x0E), (.storeFault, 0x0F)], reply k t x.1 data [x.2]) ∧
  (let num (n : Nat) : Byte := BitVec.ofNat 8 n
    let flag (b : Bool) : Byte := if b then 1 else 0
    let slot (n : Option Slot) : Byte := n.elim 0 fun n => num (n.val + 1)
    ∀ count : Nat,
      let notice (kind : Byte) (n : Notice) (subject : Nat) (contents : List Byte) : Prop :=
        IsFrame kind 0 (num subject :: num count :: contents) (Entry.bytes ⟨count, n⟩);
      (∀ d : DoneReport, notice 0x40 (.changeoverDone d) 0
        ([d.tag, slot d.source, slot d.target,
          num ([CoOutcome.done, .superseded, .aborted, .noBoard, .powerFault, .dipMismatch, .lockTimeout,
            .classMismatch, .lostSignal].idxOf d.outcome),
          num ([ResumeResult.notChecked, .clean, .changed].idxOf d.resume), flag d.isReturn,
          num ([none, some Reason.lostSignal, some .powerFault].idxOf d.reason), flag d.superseded.more,
          num d.superseded.tags.length] ++ d.superseded.tags)) ∧
      (∀ (n : Slot) (st : SlotState) (c : SlotCause) (kind : Nat), notice 0x41 (.slot n st c kind) (n.val + 1)
        [num ([SlotState.empty, .off, .powering, .held, .booting, .live, .frozen, .fault].idxOf st),
          num ([SlotCause.present, .absent, .removed, .kindChanged, .powerOn, .autoPower, .wake, .powerGood,
            .noPowerGood, .powerGoodLost, .dipMismatch, .released, .booted, .powerOff, .restart, .parked, .pause,
            .pauseEnd, .partRestart].idxOf c),
          num kind]) ∧
      (∀ (src : Source) (st : MonState) (c : SignalCause) (cls : SigClass) (fref : Nat),
        notice 0x42 (.signal src st c cls fref) (src.val + 1)
          [num ([MonState.dark, .seeking, .locked, .weak].idxOf st),
            num ([SignalCause.locked, .weak, .changed, .lost].idxOf c),
            num ([SigClass.none, .low, .medium, .high, .outOfClass].idxOf cls),
            num fref, num (fref / 256), num (fref / 65536), num (fref / 16777216)]) ∧
      (∀ states latch : Tab Bool 60, ∃ a b : List Byte, a.length = 8 ∧ b.length = 8 ∧
        notice 0x43 (.input states latch) 0 (a ++ b) ∧
        ∀ i, i < 64 →
          (a.getD (i / 8) 0).getLsbD (i % 8) = states.toList.getD i false ∧
          (b.getD (i / 8) 0).getLsbD (i % 8) = latch.toList.getD i false) ∧
      (∀ chord : Bool, notice 0x44 (.menuCall chord) 0 [flag chord]) ∧
      (∀ (c : Chute) (st : Nat) (e : ChuteEvent) (r : Reasons), notice 0x45 (.chute c st e r) (c.val + 1)
        [num st, num ([ChuteEvent.accepted, .rejectedShort, .rejectedLong, .jammed, .cleared, .lockout].idxOf e),
          num (r.link.toNat + 2 * r.jam.toNat + 4 * r.bankLimit.toNat + 8 * r.meterFull.toNat +
            16 * r.startup.toNat)]) ∧
      (∀ (units : Nat) (e : BankEvent) (lim st : Bool), notice 0x45 (.bank units e lim st) 0
        [num units, num (units / 256), num ([BankEvent.limit, .overflow, .returned, .cleared].idxOf e),
          num (4 * lim.toNat + 16 * st.toNat)]) ∧
      (∀ l : List FlagEntry, notice 0x46 (.counter l) 0
        (num l.length :: l.flatMap fun f => [num f.counter.val, num (f.half.toNat + 2 * f.full.toNat)])) ∧
      (∀ (load fault : Bool) (l : List SectionId), notice 0x47 (.store load fault l) 0
        ([flag load, flag fault, num l.length] ++ l.flatMap fun i =>
          if i = 0 then [0, 0] else [num ((i.val - 1) / 5 + 1), num ((i.val - 1) % 5)])) ∧
      (∀ (dim pass : Bool) (cls : OutClass) (dimOn : Bool), notice 0x48 (.output dim pass cls dimOn) 0
        [flag dim, flag pass, num ([OutClass.low, .medium, .high].idxOf cls + 1), flag dimOn]) ∧
      (∀ c : LinkCause, notice 0x49 (.link c) 0
        [num ([LinkCause.character, .length, .gap, .check, .kind, .overrun].idxOf c)]) ∧
      ∀ restart kept : Bool, notice 0x4A (.ready restart kept) 0 [flag restart, flag kept])

/-- R4 and R6: a request whose turn has not come is left to the receive buffer: it takes a free place and waits, or is
an OVERRUN when all four are held. That a request's row out of turn is its arrival only is the model's reading (log
11). -/
def Obligations.RequestOutOfTurnIsBuffered : Prop :=
  ∀ (c : Instr) (dt : Nat) (kind tag : Byte) (p : List Byte) (s : State),
    requestOf c = some (dt, kind, tag, p) → s.powered = true → takeTurn kind tag p s.link = none →
    (s.link.buffer.length < 4 →
      exec c s = .next (conclude { s with
        now := s.now + dt, link := { s.link with buffer := s.link.buffer ++ [⟨kind, tag, p, .waiting⟩] } })) ∧
    (4 ≤ s.link.buffer.length → exec c s = .next (conclude (linkError .overrun { s with now := s.now + dt })))

/-- R7, the kind, tag and length checks. A KIND below 80h that the catalogue does not hold is answered UNKNOWN_KIND,
whatever its tag and length. For every request of the catalogue TAG 0 is BAD_FIELD with index FFh, and a length the
fixed layout does not allow is BAD_LENGTH. Each changes no block but the link. -/
def Obligations.RequestsAreChecked : Prop :=
  (∀ (dt : Nat) (kind tag : Byte) (p : List Byte) (s : State) (b : List Place),
      s.powered = true → kind = 0 ∨ 0x1C < kind.toNat → kind.toNat < 0x80 → takeTurn kind tag p s.link = some b →
      exec (.unknownKind dt kind tag p) s = .next (conclude (s.justReplied dt b ⟨kind, tag, .unknownKind, []⟩))) ∧
  (∀ (c : Instr) (dt : Nat) (kind tag : Byte) (p : List Byte) (s : State) (b : List Place),
      requestOf c = some (dt, kind, tag, p) → s.powered = true → takeTurn kind tag p s.link = some b →
      (tag = 0 → exec c s = .next (conclude (s.justReplied dt b ⟨kind, 0, .badField 255, []⟩))) ∧
      (∀ len, requestLength kind = some len → tag ≠ 0 → p.length ≠ len →
        exec c s = .next (conclude (s.justReplied dt b ⟨kind, tag, .badLength, []⟩))))

/-- R9 and R10. A masked event is dropped; an event without an entry of its key joins the tail with count 1; an event
with one coalesces in its place, the count rising to 255 at most; no other entry changes. When a CHANGEOVER_DONE
coalesces, the tags heard of are the earlier list, the earlier tag unless it is 0, and the new list; the most recent six
stay, no tag is lost without the more flag, and every other field is the new event's. When a COUNTER coalesces, the
lists are merged: every counter of either stands once, in counter index order, with both flags as set by either. The
contents of any other event replace those of the entry. -/
def Obligations.EventsCoalesceByKey : Prop :=
  (∀ (n : Notice) (s : State),
      (s.link.mask.at n.kind = false → post n s = s) ∧
      (s.link.mask.at n.kind = true → (∀ e ∈ s.link.notices, e.notice.key ≠ n.key) →
        post n s = { s with link := { s.link with notices := s.link.notices ++ [⟨1, n⟩] } }) ∧
      (∀ before e after, s.link.mask.at n.kind = true → s.link.notices = before ++ e :: after →
        e.notice.key = n.key → (∀ x ∈ before, x.notice.key ≠ n.key) →
        post n s = { s with link := { s.link with
          notices := before ++ ⟨min 255 (e.count + 1), coalesce e.notice n⟩ :: after } })) ∧
  (∀ a b : Notice, b.kind ≠ 0 → b.kind ≠ 6 → coalesce a b = b) ∧
  (∀ a b : List FlagEntry, (a.map FlagEntry.counter).Pairwise (· < ·) →
      ∃ m, coalesce (.counter a) (.counter b) = .counter m ∧ (m.map FlagEntry.counter).Pairwise (· < ·) ∧
        ∀ i : CounterId,
          ((∃ e ∈ m, e.counter = i) ↔ ∃ e ∈ a ++ b, e.counter = i) ∧
          ((∃ e ∈ m, e.counter = i ∧ e.half = true) ↔ ∃ e ∈ a ++ b, e.counter = i ∧ e.half = true) ∧
          ((∃ e ∈ m, e.counter = i ∧ e.full = true) ↔ ∃ e ∈ a ++ b, e.counter = i ∧ e.full = true)) ∧
  (∀ (a b : DoneReport),
      let all := a.superseded.tags ++ (if a.tag = 0 then [] else [a.tag]) ++ b.superseded.tags
      ∃ m : DoneReport, coalesce (.changeoverDone a) (.changeoverDone b) = .changeoverDone m ∧
        m.superseded.tags.length ≤ 6 ∧
        (∃ dropped, all = dropped ++ m.superseded.tags ∧ (dropped ≠ [] → m.superseded.tags.length = 6) ∧
          (m.superseded.more = true ↔ dropped ≠ [] ∨ a.superseded.more = true ∨ b.superseded.more = true)) ∧
        m.tag = b.tag ∧ m.source = b.source ∧ m.target = b.target ∧ m.outcome = b.outcome ∧ m.resume = b.resume ∧
        m.isReturn = b.isReturn ∧ m.reason = b.reason)

/-- R12: NOTICE_MASK sets the working mask at once, removes every entry of a kind now masked, and with keep sets the
retained default; a set without READY is BAD_FIELD and changes nothing. -/
def Obligations.NoticeMaskIsSet : Prop :=
  ∀ (dt : Nat) (tag : Byte) (m : Tab Bool 11) (keep : Bool) (s : State) (b : List Place),
    let p := m.toList.map boolByte ++ [boolByte keep]
    Turn 0x1A tag p s b →
    (m.at 10 = true →
      exec (.noticeMask dt tag p) s = .next (conclude { s with
        now := s.now + dt
        link := { s.link.replied b ⟨0x1A, tag, .ok, []⟩ with
          mask := m
          maskDefault := if keep then m else s.link.maskDefault
          notices := s.link.notices.filter fun e => m.at e.notice.kind } })) ∧
    (m.at 10 = false →
      exec (.noticeMask dt tag p) s = .next (conclude (s.justReplied dt b ⟨0x1A, tag, .badField 10, []⟩)))

/-- R14: IDENT answers with the product code, the firmware revision (open, log 1), 8 slots, payloads of 200, 4 places
and 30 keys, in every state of the part; nothing else changes. -/
def Obligations.IdentAnswersTheIdentity : Prop :=
  ∀ (dt : Nat) (tag : Byte) (s : State) (b : List Place), Turn 0x01 tag [] s b →
    exec (.ident dt tag []) s = .next (conclude (s.justReplied dt b
      ⟨0x01, tag, .ok, [0x08, 0x5A, Config.firmwareMajor, Config.firmwareMinor, 8, 200, 4, 30]⟩))

/-- R15: STATE answers with the snapshot of the other blocks, laid out as the STATE table gives it; nothing else
changes. -/
def Obligations.StateAnswersTheSnapshot : Prop :=
  ∀ (dt : Nat) (tag : Byte) (s : State) (b : List Place), Turn 0x02 tag [] s b →
    exec (.state dt tag []) s = .next (conclude (s.justReplied dt b ⟨0x02, tag, .ok,
      [slotCode s.co.current]
        ++ (match s.co.record with
          | none => [0, 0xFF, 0xFF, 0xFF, 0]
          | some r => [1, r.phase.code, slotCode r.source, slotCode r.target, boolByte r.isReturn])
        ++ [match s.co.pending with
          | none => 0xFF
          | some q => slotCode q.target]
        ++ [match s.router.owner with
          | .none => 0
          | .slot n => slotByte n
          | .link => 9]
        ++ [boolByte s.router.linkHold]
        ++ [(s.slot 0).state.code, (s.slot 1).state.code, (s.slot 2).state.code, (s.slot 3).state.code,
          (s.slot 4).state.code, (s.slot 5).state.code, (s.slot 6).state.code, (s.slot 7).state.code]
        ++ [boolByte s.out.pass, s.out.cls.code, boolByte s.frame.hold, boolByte s.frame.blank]
        ++ [BitVec.ofNat 8 s.coins.bank, BitVec.ofNat 8 (s.coins.bank / 256)]
        ++ [boolByte s.profiles.loading, boolByte s.profiles.saving.isSome]⟩))

/-- R16 and R188: RESTART is answered OK, and nothing behind it is dispatched until it takes effect.
R16, R55, R75, R99, R123, R141, R156, R175, R188: what the part is once the last byte of the RESTART reply has
left, as FRAME_SENT or RESTART_EFFECT tells it (the two are one moment, the model's reading, log 18): the link in its
start state with READY alone posted before the other blocks report, a transaction in flight ending discarded, no
changeover, slots HELD, FAULT, OFF or EMPTY, the monitors DARK, the frame store as after power-up, the output's mode and
timing kept, the totals kept, and a load in flight. -/
def Obligations.RestartStartsThePartAfresh : Prop :=
  (∀ (dt : Nat) (tag : Byte) (s : State) (b : List Place), Turn 0x1B tag [] s b →
      exec (.restart dt tag []) s = .next (conclude { s with
        now := s.now + dt, link := { s.link.replied b ⟨0x1B, tag, .ok, []⟩ with restartHeld := true } })) ∧
  (∀ (dt : Nat) (s : State) (bytes : List Byte), s.powered = true → s.link.sending = some (.reply bytes true) →
      ∃ u, exec (.restartEffect dt) s = .next (conclude u) ∧ exec (.frameSent dt) s = .next (conclude u) ∧
        u.link.rx = .hunt ∧ u.link.gap = none ∧ u.link.buffer = [] ∧ u.link.replies = [] ∧ u.link.sending = none ∧
        u.link.restartHeld = false ∧ u.link.mask = s.link.maskDefault ∧ u.link.maskDefault = s.link.maskDefault ∧
        (s.link.maskDefault.at 10 = true → ∃ rest, u.link.notices = ⟨1, .ready true true⟩ :: rest) ∧
        u.bus.current = s.bus.current.map (fun t => { t with discard := true }) ∧ u.bus.sequence = [] ∧
        u.bus.linkRun = none ∧ u.bus.waitingPoll = none ∧ u.bus.position = 0 ∧
        (∀ n, u.bus.misses.at n = 0 ∧ u.bus.views.at n = .unconfirmed) ∧
        u.co.current = none ∧ u.co.record = none ∧ u.co.pending = none ∧ u.co.watch = .stopped ∧
        (∀ n, (u.slot n).state = match (s.slot n).state with
          | .empty => .empty
          | .off => .off
          | .fault => .fault
          | .powering | .held | .booting | .live | .frozen => if (s.slot n).powerGood then .held else .fault) ∧
        (∀ src, (u.monitor src).state = .dark ∧ (u.monitor src).field = none ∧ (u.monitor src).timer = none) ∧
        u.frame = .initial ∧
        u.out.pass = s.out.pass ∧ u.out.cls = s.out.cls ∧ u.out.fout = s.out.fout ∧ u.out.lineCount = s.out.lineCount ∧
        u.out.linePeriod = s.out.linePeriod ∧ u.out.slaved = none ∧ u.out.settle = none ∧
        u.snd = .initial ∧ u.pic.level = 256 ∧ u.pic.fade = none ∧ u.pic.overlay = .initial ∧
        u.router.owner = .link ∧ u.router.linkHold = false ∧ u.router.claim = none ∧ u.router.workingMap = [] ∧
        u.router.debounced = s.router.debounced ∧ u.router.raw = s.router.raw ∧ u.router.timers = s.router.timers ∧
        u.coins.startup = true ∧ (∀ n, u.queue n = [] ∧ u.generator n = .idle) ∧ u.coins.accepted = s.coins.accepted ∧
        (∀ c, (u.chute c).hostLock = false ∧ (u.chute c).state = (s.chute c).state) ∧ u.coins.meters = s.coins.meters ∧
        u.counters = s.counters ∧ u.adapters = s.adapters ∧
        u.profiles.working = s.profiles.working ∧ u.profiles.loading = true ∧ u.profiles.saving = none)

/-! ### Slots and board power (R17 to R41) -/

/-- R40: SLOT_INFO answers with the slot's record, laid out as its table gives it, in every state of the part, and
changes nothing; a slot outside 1 to 8 is BAD_FIELD 0. -/
def Obligations.SlotInfoAnswersTheRecord : Prop :=
  (∀ (dt : Nat) (tag : Byte) (n : Slot) (s : State) (b : List Place), Turn 0x03 tag [slotByte n] s b →
    exec (.slotInfo dt tag [slotByte n]) s = .next (conclude (s.justReplied dt b ⟨0x03, tag, .ok,
      [slotByte n, (s.slot n).state.code, BitVec.ofNat 8 (s.slot n).kind, BitVec.ofNat 8 (s.slot n).revision,
        boolByte (s.slot n).mismatch, boolByte (s.slot n).parkedSig.isSome]
        ++ (match (s.slot n).parkedSig with
          | none => [0, 0]
          | some v => [v.setWidth 8, (v >>> 8).setWidth 8])
        ++ [BitVec.ofNat 8 (s.queue n).length, BitVec.ofNat 8 (s.bus.misses.at n),
          (s.slot n).status.setWidth 8, ((s.slot n).status >>> 8).setWidth 8]⟩))) ∧
  ∀ (dt : Nat) (tag x : Byte) (s : State) (b : List Place), Turn 0x03 tag [x] s b → x = 0 ∨ 8 < x.toNat →
    exec (.slotInfo dt tag [x]) s = .next (conclude (s.justReplied dt b ⟨0x03, tag, .badField 0, []⟩))

/-- R25 to R27, R69 and R144: SLOT_POWER on. Refused or ALREADY it changes nothing. Accepted with no changeover in
flight, the slot reads its levels, tells its monitor to take syncs and enters POWERING with the 1 s window; with
power-good already asserted it goes on to HELD, and from there to the DIP apply or to BOOTING. That the levels of the
board coin lines are read at this moment too is the model's reading of R166 (log 22). -/
def Obligations.SlotPowerOnPowersTheSlot : Prop :=
  ∀ (dt : Nat) (tag : Byte) (n : Slot) (s : State) (b : List Place),
    let p : List Byte := [slotByte n, 1]
    let said (r : Result) := Host.Outcome.next (conclude (s.justReplied dt b ⟨0x04, tag, r, []⟩))
    let good := (s.slot n).powerGood
    let apply := (s.profile n).dips.apply
    Turn 0x04 tag p s b →
    ((s.slot n).state = .empty ∨ (s.slot n).state = .fault → exec (.slotPowerOn dt tag p) s = said .noBoard) ∧
    ((s.slot n).state = .off → (s.slot n).mismatch = true → exec (.slotPowerOn dt tag p) s = said .wrongBoard) ∧
    ((s.slot n).state.supplied = true → exec (.slotPowerOn dt tag p) s = said .already) ∧
    ((s.slot n).state = .off → (s.slot n).mismatch = false → Settled s → Apart n s →
      ∃ u, exec (.slotPowerOn dt tag p) s = .next (conclude u) ∧
        u.link = { s.link.replied b ⟨0x04, tag, .accepted, []⟩ with notices := u.link.notices } ∧
        u.now = s.now + dt ∧
        (u.slot n).state = (if good then (if apply then .held else .booting) else .powering) ∧
        (u.slot n).runUp = (!good || apply) ∧
        (u.slot n).pgWindow = (if good then none else some (s.now + dt + 27000000)) ∧
        (good = true → apply = false →
          (u.slot n).bootWindow = some (s.now + dt + 27000 * (s.profile n).general.bootTime)) ∧
        (u.slot n).lineHigh = (s.profile n).general.lineHigh ∧
        (∀ m, m ≠ n → u.slot m = s.slot m) ∧
        u.monitors = s.monitors.put n.source { s.monitor n.source with taking := true } ∧
        u.coins = { s.coins with lineHigh := s.coins.lineHigh.put n (s.profile n).coins.lineHigh } ∧
        (good = false ∨ apply = false → u.bus = s.bus) ∧
        SameOutside [.now, .link, .slots, .bus, .monitors, .coins] s u)

/-- R30, R20, R24: SLOT_POWER off of a slot outside the playing path and the changeover: OFF, everything R20 clears
cleared, the mismatch flag computed, the queue returned, the monitor dark and taking no syncs. R31: SLOT_RESTART of
such a slot: HELD with the run-up flag set, and on to the DIP apply or to BOOTING. -/
def Obligations.SlotPowerOffAndRestart : Prop :=
  ∀ (dt : Nat) (tag : Byte) (n : Slot) (s : State) (b : List Place),
    let said (k : Byte) (r : Result) := Host.Outcome.next (conclude (s.justReplied dt b ⟨k, tag, r, []⟩))
    let g := (s.profile n).general
    (Turn 0x04 tag [slotByte n, 0] s b →
      ((s.slot n).state = .empty → exec (.slotPowerOff dt tag [slotByte n, 0]) s = said 0x04 .noBoard) ∧
      ((s.slot n).state = .off → exec (.slotPowerOff dt tag [slotByte n, 0]) s = said 0x04 .already) ∧
      ((s.slot n).state ≠ .empty → (s.slot n).state ≠ .off →
        (s.co.current = some n ∨ ∃ r, s.co.record = some r ∧ (r.source = some n ∨ r.target = some n)) →
        exec (.slotPowerOff dt tag [slotByte n, 0]) s = said 0x04 .wrongState) ∧
      ((s.slot n).state ≠ .empty → (s.slot n).state ≠ .off → s.co.current ≠ some n → Settled s → Apart n s →
        ∃ u, exec (.slotPowerOff dt tag [slotByte n, 0]) s = .next (conclude u) ∧
          u.link = { s.link.replied b ⟨0x04, tag, .accepted, []⟩ with notices := u.link.notices } ∧
          u.now = s.now + dt ∧ (u.slot n).state = .off ∧
          (u.slot n).mismatch = decide (g.expectedKind ≠ 0 ∧ g.expectedKind ≠ (s.slot n).kind) ∧
          (u.slot n).kind = (s.slot n).kind ∧ (∀ m, m ≠ n → u.slot m = s.slot m ∧ u.queue m = s.queue m) ∧
          ((s.slot n).state.supplied = true →
            (u.slot n).runUp = false ∧ (u.slot n).paused = false ∧ (u.slot n).pgWindow = none ∧
            (u.slot n).bootWindow = none ∧ (u.slot n).applying = false ∧ (u.slot n).lastSig = none ∧
            (u.slot n).parkedSig = none ∧ u.queue n = [] ∧
            (u.monitor n.source).state = .dark ∧ (u.monitor n.source).taking = false) ∧
          (∀ src, src ≠ n.source → u.monitor src = s.monitor src) ∧
          SameOutside [.now, .link, .slots, .bus, .monitors, .frame, .coins] s u)) ∧
    (Turn 0x05 tag [slotByte n] s b →
      ((s.slot n).state = .empty → exec (.slotRestart dt tag [slotByte n]) s = said 0x05 .noBoard) ∧
      ((s.slot n).state = .off ∨ (s.slot n).state = .powering ∨ (s.slot n).state = .fault →
        exec (.slotRestart dt tag [slotByte n]) s = said 0x05 .wrongState) ∧
      (∀ r, s.co.record = some r → r.source = some n ∨ r.target = some n → (s.slot n).state ≠ .empty →
        exec (.slotRestart dt tag [slotByte n]) s = said 0x05 .wrongState) ∧
      ((s.slot n).state = .held ∨ (s.slot n).state = .booting ∨ (s.slot n).state = .live ∨ (s.slot n).state = .frozen →
        s.co.current ≠ some n → Settled s → Apart n s →
        ∃ u, exec (.slotRestart dt tag [slotByte n]) s = .next (conclude u) ∧
          u.link = { s.link.replied b ⟨0x05, tag, .accepted, []⟩ with notices := u.link.notices } ∧
          u.now = s.now + dt ∧
          (u.slot n).state = (if (s.profile n).dips.apply then .held else .booting) ∧
          (u.slot n).runUp = (s.profile n).dips.apply ∧ (u.slot n).paused = false ∧ (u.slot n).lastSig = none ∧
          (u.slot n).parkedSig = none ∧ (∀ m, m ≠ n → u.slot m = s.slot m) ∧
          SameOutside [.now, .link, .slots, .bus] s u))

/-- R97: SLOT_RESTART of the current board, LIVE or FROZEN, with no changeover in flight: the picture is held, the
writer disabled, and the recovery watch waits for the slot to be LIVE again; the slot stays current. -/
def Obligations.RestartOfTheCurrentBoardHoldsThePicture : Prop :=
  ∀ (dt : Nat) (tag : Byte) (n : Slot) (s : State) (b : List Place), Turn 0x05 tag [slotByte n] s b →
    s.co.current = some n → Settled s → (s.slot n).state = .live ∨ (s.slot n).state = .frozen →
    ∃ u, exec (.slotRestart dt tag [slotByte n]) s = .next (conclude u) ∧
      u.link = { s.link.replied b ⟨0x05, tag, .accepted, []⟩ with notices := u.link.notices } ∧
      u.frame.hold = true ∧ u.frame.writer = none ∧ u.co = { s.co with watch := .waitingLive } ∧
      (u.slot n).state = (if (s.profile n).dips.apply then .held else .booting) ∧
      (s.router.owner = .slot n → u.router.owner = .none ∧ u.router.claim = some n) ∧
      (∀ m, m ≠ n → u.slot m = s.slot m) ∧
      SameOutside [.now, .link, .slots, .bus, .co, .frame, .pic, .router, .coins] s u

/-- R19, R26, R28, R29: the power-good line and the two windows, for a slot outside the playing path with no changeover
in flight. Power-good seen in POWERING leads to HELD and on; lost in HELD, BOOTING, LIVE or FROZEN it is a FAULT;
elsewhere only the line changes. The power-good window ends in FAULT, the boot window in LIVE. A part without power
keeps the line's level and nothing else (the model's choice, log 9), and a window that does not run expires to no effect
(the model's choice, log 23).
R19: the changes of the lines at a move, in order, for a slot whose lines stand at its state's levels; they end at the
levels of the new state. R50: a DIP apply that follows is handed over with the profile's banks. -/
def Obligations.PowerGoodAndWindows : Prop :=
  (∀ (r : SlotRecord) (new : SlotState), r.lines = r.state.lines →
    let t := r.move new
    t = { r with state := new, lines := new.lines, moves := t.moves } ∧
    (r.state.supplied = false → new = .powering ∨ new = .held →
      t.moves.length = 3 ∧ t.moves.getLast? = some (.supply true) ∧
      .reset .asserted ∈ t.moves ∧ .clockHold .released ∈ t.moves) ∧
    (r.state = .held → new = .booting → t.moves = [.reset .released]) ∧
    (r.state = .live → new = .frozen → t.moves = [.clockHold .asserted]) ∧
    (r.state = .frozen → new = .live → t.moves = [.clockHold .released]) ∧
    (r.state = .frozen → new = .held → t.moves = [.reset .asserted, .clockHold .released]) ∧
    (r.state = .booting ∨ r.state = .live → new = .held → t.moves = [.reset .asserted]) ∧
    (r.state.supplied = true → new.supplied = false →
      t.moves.length = 3 ∧ t.moves.head? = some (.supply false) ∧
      .reset .notDriven ∈ t.moves ∧ .clockHold .notDriven ∈ t.moves) ∧
    (r.state.supplied = false → new.supplied = false → t.moves = [])) ∧
  (∀ (n : Slot) (new : SlotState) (cause : SlotCause) (s : State),
    (enter n new cause s).slot n = (s.slot n).move new ∧ ∀ m, m ≠ n → (enter n new cause s).slot m = s.slot m) ∧
  ∀ (dt : Nat) (n : Slot) (s : State),
    let pin (on : Bool) : State := s.setSlot n { s.slot n with powerGood := on }
    (s.powered = false →
      exec (.powerGoodRise dt n) s = .next (pin true) ∧ exec (.powerGoodFall dt n) s = .next (pin false)) ∧
    (s.powered = true → Settled s →
      ((s.slot n).state ≠ .powering →
        exec (.powerGoodRise dt n) s = .next (conclude { pin true with now := s.now + dt })) ∧
      ((s.slot n).state = .powering → Apart n s →
        ∃ u, exec (.powerGoodRise dt n) s = .next (conclude u) ∧ u.now = s.now + dt ∧
          (u.slot n).powerGood = true ∧ (u.slot n).pgWindow = none ∧
          (u.slot n).state = (if (s.slot n).runUp && !(s.profile n).dips.apply then .booting else .held) ∧
          ((s.slot n).runUp = true → (s.profile n).dips.apply = false →
            (u.slot n).bootWindow = some (s.now + dt + 27000 * (s.profile n).general.bootTime)) ∧
          ((s.slot n).runUp = true → (s.profile n).dips.apply = true → (u.slot n).applying = true ∧
            u.bus = (handOver n (s.profile n).dips.banks { s with now := s.now + dt }).bus) ∧
          ((s.slot n).runUp = false ∨ (s.profile n).dips.apply = false → u.bus = s.bus) ∧
          (∀ m, m ≠ n → u.slot m = s.slot m) ∧ SameOutside [.now, .link, .slots, .bus] s u) ∧
      ((s.slot n).state = .powering ∨ (s.slot n).state = .empty ∨ (s.slot n).state = .off ∨ (s.slot n).state = .fault →
        exec (.powerGoodFall dt n) s = .next (conclude { pin false with now := s.now + dt })) ∧
      ((s.slot n).state = .held ∨ (s.slot n).state = .booting ∨ (s.slot n).state = .live ∨ (s.slot n).state = .frozen →
        s.co.current ≠ some n → Apart n s →
        ∃ u, exec (.powerGoodFall dt n) s = .next (conclude u) ∧ u.now = s.now + dt ∧
          (u.slot n).state = .fault ∧ (u.slot n).powerGood = false ∧ (u.slot n).kind = (s.slot n).kind ∧
          u.queue n = [] ∧ (u.monitor n.source).taking = false ∧
          (s.link.mask.at 1 = true → ∃ e ∈ u.link.notices, e.notice = .slot n .fault .powerGoodLost (s.slot n).kind) ∧
          (∀ m, m ≠ n → u.slot m = s.slot m ∧ u.queue m = s.queue m) ∧
          SameOutside [.now, .link, .slots, .bus, .monitors, .frame, .coins] s u) ∧
      ((s.slot n).pgWindow = none → exec (.powerGoodWindowExpiry n) s = .next (conclude s)) ∧
      (∀ t, (s.slot n).pgWindow = some t → s.co.current ≠ some n → Apart n s →
        ∃ u, exec (.powerGoodWindowExpiry n) s = .next (conclude u) ∧ u.now = max s.now t ∧
          (u.slot n).state = .fault ∧ (u.slot n).pgWindow = none ∧ u.queue n = [] ∧
          (u.monitor n.source).taking = false ∧
          (s.link.mask.at 1 = true → ∃ e ∈ u.link.notices, e.notice = .slot n .fault .noPowerGood (s.slot n).kind) ∧
          (∀ m, m ≠ n → u.slot m = s.slot m ∧ u.queue m = s.queue m) ∧
          SameOutside [.now, .link, .slots, .bus, .monitors, .frame, .coins] s u) ∧
      ((s.slot n).bootWindow = none → exec (.bootWindowExpiry n) s = .next (conclude s)) ∧
      (∀ t, (s.slot n).bootWindow = some t → s.co.current ≠ some n → Apart n s →
        ∃ u, exec (.bootWindowExpiry n) s = .next (conclude u) ∧ u.now = max s.now t ∧
          (u.slot n).state = .live ∧ (u.slot n).bootWindow = none ∧
          (s.link.mask.at 1 = true → ∃ e ∈ u.link.notices, e.notice = .slot n .live .booted (s.slot n).kind) ∧
          (∀ m, m ≠ n → u.slot m = s.slot m) ∧ SameOutside [.now, .link, .slots] s u))

/-! ### The slot bus and adapters (R42 to R55) -/

/-- R42 and R43: the five transactions on an adapter, the pointer's advance from 255 to 16, the cells that ignore a
write and the DIP cells that keep the low byte; and an adapter plugged in, which starts afresh with its own cells (a
cell it gives no value to reads 0, the model's choice, log 8), also at a part without power (the model's choice, log
9). -/
def Obligations.AdapterCellsAndPointer : Prop :=
  (∀ (a : Adapter) (c : Fin 256) (v : Word16),
    a.perform (.read c) = a ∧ BusOp.answer a (.read c) = some (a.cells.at c) ∧
    (c.val ≤ 2 → a.perform (.write c v) = a) ∧
    (3 ≤ c.val → c.val ≤ 6 → a.perform (.write c v) = { a with cells := a.cells.put c (v &&& 0x00FF) }) ∧
    (7 ≤ c.val → a.perform (.write c v) = { a with cells := a.cells.put c v }) ∧
    a.perform (.point c) = { a with pointer := c } ∧
    BusOp.answer a .readOn = some (a.cells.at a.pointer) ∧ (a.perform .readOn).cells = a.cells ∧
    (a.perform .readOn).pointer.val = (if a.pointer.val = 255 then 16 else a.pointer.val + 1) ∧
    (16 ≤ a.pointer.val → (a.perform (.writeOn v)).cells = a.cells.put a.pointer v) ∧
    (a.perform (.writeOn v)).pointer.val = (if a.pointer.val = 255 then 16 else a.pointer.val + 1)) ∧
  ∀ (dt : Nat) (n : Slot) (own : List (Fin 256 × Word16)) (s : State), ownCellsFit own = true →
    ∃ a : Adapter, a.pointer = 16 ∧ a.own = own ∧ (∀ p ∈ own, a.cells.at p.1 = p.2) ∧
      (∀ c, (∀ p ∈ own, p.1 ≠ c) → a.cells.at c = 0) ∧
      (s.powered = true → exec (.adapterPluggedIn dt n own) s =
        .next (conclude { s with now := s.now + dt, adapters := s.adapters.put n a })) ∧
      (s.powered = false → exec (.adapterPluggedIn dt n own) s = .next { s with adapters := s.adapters.put n a })

/-- R52 and R53: ADAPTER_READ and ADAPTER_WRITE of a slot with a board queue their run and stay in service: READ or
WRITE of each cell for a direct run, POINT and then READ_ON or WRITE_ON for a far one. On an idle bus with no DIP apply
waiting the first transaction begins at once (R46). An EMPTY slot answers NO_BOARD.
R46: the arbiter's choice on an idle bus: the next transaction of the oldest DIP apply, then a poll inside a
pass-through run, then the run's next transaction, then the waiting poll. A busy bus is left alone. -/
def Obligations.PassThroughRunsBegin : Prop :=
  (∀ s : State,
    let begins (n : Slot) (op : BusOp) (o : BusOwner) (b : Bus) : Prop :=
      arbitrate s = { s with bus := { b with current := some ⟨n, op, o, s.now, false⟩ } }
    (s.bus.current ≠ none → arbitrate s = s) ∧
    (s.bus.current = none →
      (∀ r op ops rest, s.bus.sequence = r :: rest → r.todo = op :: ops →
        begins r.slot op .sequence { s.bus with sequence := { r with todo := ops } :: rest }) ∧
      (s.bus.sequence = [] →
        (∀ n r, s.bus.waitingPoll = some n → s.bus.linkRun = some r → r.begun = true →
          begins n (.read 0) .poll { s.bus with waitingPoll := none }) ∧
        (∀ r op ops, s.bus.linkRun = some r → r.todo = op :: ops → r.begun = false ∨ s.bus.waitingPoll = none →
          begins r.slot op .link { s.bus with linkRun := some { r with todo := ops, begun := true } }) ∧
        (∀ n, s.bus.waitingPoll = some n → s.bus.linkRun = none →
          begins n (.read 0) .poll { s.bus with waitingPoll := none }) ∧
        (s.bus.waitingPoll = none → s.bus.linkRun = none → arbitrate s = s)))) ∧
  ∀ (dt : Nat) (tag : Byte) (n : Slot) (cell : Byte) (count : Nat) (values : List Word16) (s : State) (b : List Place),
    1 ≤ count → count ≤ 32 → values.length = count → 16 ≤ cell.toNat ∨ cell.toNat + count ≤ 16 →
    let pr : List Byte := [slotByte n, cell, BitVec.ofNat 8 count]
    let pw : List Byte := pr ++ values.flatMap fun (v : Word16) => [v.setWidth 8, (v >>> 8).setWidth 8]
    let reads : List BusOp :=
      if cell.toNat < 16 then (List.range count).map fun i => .read (Fin.ofNat 256 (cell.toNat + i))
      else .point (Fin.ofNat 256 cell.toNat) :: List.replicate count .readOn
    let writes : List BusOp :=
      if cell.toNat < 16 then
        (List.range count).map fun i => .write (Fin.ofNat 256 (cell.toNat + i)) (values.getD i 0)
      else .point (Fin.ofNat 256 cell.toNat) :: values.map .writeOn
    let begun (ops : List BusOp) (isRead : Bool) : Bus :=
      match s.bus.current, s.bus.sequence, ops with
      | none, [], op :: rest =>
        { s.bus with
          current := some ⟨n, op, .link, s.now + dt, false⟩, linkRun := some ⟨n, rest, 0, true, [], isRead⟩ }
      | _, _, _ => { s.bus with linkRun := some ⟨n, ops, 0, false, [], isRead⟩ }
    (s.bus.current = none → s.bus.sequence = []) →
    (Turn 0x18 tag pr s b →
      ((s.slot n).state = .empty →
        exec (.adapterRead dt tag pr) s = .next (conclude (s.justReplied dt b ⟨0x18, tag, .noBoard, []⟩))) ∧
      ((s.slot n).state ≠ .empty →
        exec (.adapterRead dt tag pr) s = .next (conclude { s with
          now := s.now + dt, link := { s.link with buffer := b }, bus := begun reads true }))) ∧
    (Turn 0x19 tag pw s b → 3 ≤ cell.toNat →
      ((s.slot n).state = .empty →
        exec (.adapterWrite dt tag pw) s = .next (conclude (s.justReplied dt b ⟨0x19, tag, .noBoard, []⟩))) ∧
      ((s.slot n).state ≠ .empty →
        exec (.adapterWrite dt tag pw) s = .next (conclude { s with
          now := s.now + dt, link := { s.link with buffer := b }, bus := begun writes false })))

/-- R44, R52 to R54: the end of a pass-through transaction, with nothing else waiting for the bus. An answer 0.5 ms
after it began carries it out and, until the run's last, begins the next; the last answers OK with the values read. An
answer in bad parity answers BAD_ANSWER, and none within 2 ms NO_ANSWER; the run is over. -/
def Obligations.PassThroughTransactionsEnd : Prop :=
  ∀ (n : Slot) (op : BusOp) (began : Nat) (r : LinkRun) (q : Place) (s : State), s.powered = true → Settled s →
    s.bus.current = some ⟨n, op, .link, began, false⟩ → s.bus.linkRun = some r → s.bus.sequence = [] →
    s.bus.waitingPoll = none → op ≠ .read 2 → s.link.buffer.find? (fun x => x.stage == .inService) = some q →
    let a := s.adapter n
    let values := r.values ++ (BusOp.answer a op).toList
    let reply (x : Result) (data : List Byte) : Link := s.link.replied s.link.buffer ⟨q.kind, q.tag, x, data⟩
    let idle : Bus := { s.bus with current := none, linkRun := none }
    let soon := max s.now (began + 13500)
    (∀ o rest, r.todo = o :: rest →
      exec (.transactionAnswered (.good none)) s = .next (conclude { s with
        now := soon
        adapters := s.adapters.put n (a.perform op)
        bus := { s.bus with
          current := some ⟨r.slot, o, .link, soon, false⟩
          linkRun := some { r with todo := rest, ended := r.ended + 1, begun := true, values := values } } })) ∧
    (r.todo = [] →
      exec (.transactionAnswered (.good none)) s = .next (conclude { s with
        now := soon
        adapters := s.adapters.put n (a.perform op)
        bus := idle
        link := reply .ok (values.flatMap fun (v : Word16) => [v.setWidth 8, (v >>> 8).setWidth 8]) })) ∧
    (∀ received, exec (.transactionAnswered (.badParity received)) s = .next (conclude { s with
        now := soon
        adapters := s.adapters.put n (if received then a.perform op else a)
        bus := idle
        link := reply .badAnswer [] })) ∧
    ∀ received, exec (.answerWindowExpiry received) s = .next (conclude { s with
        now := max s.now (began + 54000)
        adapters := s.adapters.put n (if received then a.perform op else a)
        bus := idle
        link := reply .noAnswer [] })

/-- R47 to R49, R21, R22, R32: the poll timer makes the poll at the poll position wait, and on an idle bus READ of cell
0 begins; a read that is not answered is a miss; the second in a row of a slot not told ABSENT empties an OFF slot, and
clears auto-power pending when it is the first verdict (the model's reading of R32, log 27), which for an EMPTY slot is
all but its notice; a poll whose three reads are answered fills an EMPTY slot, which is OFF with the kind, revision and
status read. A value outside 1 to 255 ends the poll; any other sets the misses to 0, and the poll is routine or goes on
with READ of cell 1 (a revision above 255 keeps its low byte, the model's choice, log 29) and then of cell 2; an answer
in bad parity, or none while it identifies, ends it with no verdict.
R23: KIND_CHANGED (auto-power pending is cleared by it, log 27); a confirmation takes the status alone. R32: auto power
at the first PRESENT verdict or confirmation after a load. -/
def Obligations.PollsJudgePresence : Prop :=
  ∀ (n : Slot) (s : State), s.powered = true → Settled s → s.bus.sequence = [] → s.bus.linkRun = none →
    s.bus.waitingPoll = none →
    (∀ t, s.bus.pollTimer = some t → s.bus.current = none →
      exec .pollTimerExpiry s = .next (conclude { s with
        now := max s.now t
        bus := { s.bus with
          pollTimer := some (t + 337500)
          position := if s.bus.position.val = 7 then 0 else s.bus.position + 1
          current := some ⟨s.bus.position, .read 0, .poll, max s.now t, false⟩ } })) ∧
    (∀ began, s.bus.current = some ⟨n, .read 0, .poll, began, false⟩ → s.bus.misses.at n = 0 →
      exec (.answerWindowExpiry false) s = .next (conclude { s with
        now := max s.now (began + 54000), bus := { s.bus with current := none, misses := s.bus.misses.put n 1 } })) ∧
    (∀ began, s.bus.current = some ⟨n, .read 0, .poll, began, false⟩ → 1 ≤ s.bus.misses.at n →
      s.bus.views.at n ≠ .absent → (s.slot n).state = .off → s.co.current ≠ some n → Apart n s → s.queue n = [] →
      ∃ u, exec (.answerWindowExpiry false) s = .next (conclude u) ∧ u.now = max s.now (began + 54000) ∧
        u.bus = { s.bus with
          current := none, misses := s.bus.misses.put n 2, views := s.bus.views.put n .absent } ∧
        (u.slot n).state = .empty ∧ (u.slot n).kind = 0 ∧ (u.slot n).revision = 0 ∧ (u.slot n).status = 0 ∧
        (u.slot n).mismatch = false ∧
        (s.bus.views.at n = .unconfirmed → (u.slot n).autoPending = false) ∧
        (s.link.mask.at 1 = true → ∃ e ∈ u.link.notices, e.notice = .slot n .empty .removed 0) ∧
        (∀ m, m ≠ n → u.slot m = s.slot m) ∧ SameOutside [.now, .link, .slots, .bus] s u) ∧
    (∀ began kind revision, s.bus.current = some ⟨n, .read 2, .pollStatus kind revision, began, false⟩ →
      (s.slot n).state = .empty → (s.slot n).autoPending = false ∨ s.profiles.loaded = false →
      s.co.current ≠ some n → Apart n s →
      let expected := (s.profile n).general.expectedKind
      ∃ u, exec (.transactionAnswered (.good none)) s = .next (conclude u) ∧ u.now = max s.now (began + 13500) ∧
        u.bus = { s.bus with current := none, views := s.bus.views.put n .answering } ∧
        (u.slot n).state = .off ∧ (u.slot n).kind = kind ∧ (u.slot n).revision = revision ∧
        (u.slot n).status = (s.adapter n).cells.at 2 ∧ (u.slot n).autoPending = (s.slot n).autoPending ∧
        (u.slot n).mismatch = decide (expected ≠ 0 ∧ expected ≠ kind) ∧
        (s.link.mask.at 1 = true → ∃ e ∈ u.link.notices, e.notice = .slot n .off .present kind) ∧
        (∀ m, m ≠ n → u.slot m = s.slot m) ∧ SameOutside [.now, .link, .slots, .bus] s u) ∧
    (∀ began, s.bus.current = some ⟨n, .read 0, .poll, began, false⟩ →
      let v := ((s.adapter n).cells.at 0).toNat
      let soon := max s.now (began + 13500)
      let gives (b : Bus) : Prop :=
        exec (.transactionAnswered (.good none)) s = .next (conclude { s with now := soon, bus := b })
      let routine : Prop := s.bus.views.at n = .answering ∧ (s.slot n).state ≠ .empty ∧ v = (s.slot n).kind
      (v < 1 ∨ 255 < v → gives { s.bus with current := none }) ∧
      (1 ≤ v → v ≤ 255 → routine → gives { s.bus with current := none, misses := s.bus.misses.put n 0 }) ∧
      (1 ≤ v → v ≤ 255 → ¬routine → gives { s.bus with
        current := some ⟨n, .read 1, .pollRevision v, soon, false⟩, misses := s.bus.misses.put n 0 }) ∧
      (∀ received, exec (.transactionAnswered (.badParity received)) s =
        .next (conclude { s with now := soon, bus := { s.bus with current := none } })) ∧
      (1 ≤ s.bus.misses.at n → s.bus.views.at n = .absent →
        exec (.answerWindowExpiry false) s = .next (conclude { s with
          now := max s.now (began + 54000), bus := { s.bus with current := none, misses := s.bus.misses.put n 2 } })) ∧
      (1 ≤ s.bus.misses.at n → s.bus.views.at n = .unconfirmed → (s.slot n).state = .empty →
        ∃ u, exec (.answerWindowExpiry false) s = .next (conclude u) ∧ u.now = max s.now (began + 54000) ∧
          u.bus = { s.bus with
            current := none, misses := s.bus.misses.put n 2, views := s.bus.views.put n .absent } ∧
          u.slots = s.slots.put n { s.slot n with autoPending := false } ∧
          (s.link.mask.at 1 = true → ∃ e ∈ u.link.notices, e.notice = .slot n .empty .absent 0) ∧
          SameOutside [.now, .link, .slots, .bus] s u)) ∧
    (∀ began kind, s.bus.current = some ⟨n, .read 1, .pollRevision kind, began, false⟩ →
      let soon := max s.now (began + 13500)
      exec (.transactionAnswered (.good none)) s = .next (conclude { s with
        now := soon
        bus := { s.bus with
          current := some ⟨n, .read 2, .pollStatus kind (((s.adapter n).cells.at 1).toNat % 256), soon, false⟩ } })) ∧
    (∀ began c o, s.bus.current = some ⟨n, .read c, o, began, false⟩ →
      (∃ kind, o = .pollRevision kind) ∨ (∃ kind revision, o = .pollStatus kind revision) → ∀ received,
      exec (.transactionAnswered (.badParity received)) s = .next (conclude { s with
        now := max s.now (began + 13500), bus := { s.bus with current := none } }) ∧
      exec (.answerWindowExpiry received) s = .next (conclude { s with
        now := max s.now (began + 54000), bus := { s.bus with current := none } })) ∧
    ∀ began kind revision, s.bus.current = some ⟨n, .read 2, .pollStatus kind revision, began, false⟩ →
      s.co.current ≠ some n → Apart n s →
      let soon := max s.now (began + 13500)
      let g := (s.profile n).general
      let wrong := decide (g.expectedKind ≠ 0 ∧ g.expectedKind ≠ kind)
      let found (u : State) : Prop :=
        exec (.transactionAnswered (.good none)) s = .next (conclude u) ∧ u.now = soon ∧
        (u.slot n).kind = kind ∧ (u.slot n).status = (s.adapter n).cells.at 2 ∧ (∀ m, m ≠ n → u.slot m = s.slot m)
      ((s.slot n).state ≠ .empty → kind ≠ (s.slot n).kind →
        ∃ u, found u ∧ (u.slot n).state = .off ∧ (u.slot n).revision = revision ∧ (u.slot n).mismatch = wrong ∧
          (u.slot n).autoPending = false ∧ (u.slot n).lastSig = none ∧ (u.slot n).parkedSig = none ∧
          u.queue n = [] ∧
          ((s.slot n).state.supplied = true →
            (u.slot n).runUp = false ∧ (u.slot n).pgWindow = none ∧ (u.slot n).bootWindow = none ∧
            (u.monitor n.source).state = .dark ∧ (u.monitor n.source).taking = false) ∧
          u.bus = { s.bus with current := none, views := s.bus.views.put n .answering } ∧
          (s.link.mask.at 1 = true → ∃ e ∈ u.link.notices, e.notice = .slot n .off .kindChanged kind) ∧
          SameOutside [.now, .link, .slots, .bus, .monitors, .frame, .coins] s u) ∧
      ((s.slot n).state ≠ .empty → kind = (s.slot n).kind → s.bus.views.at n = .unconfirmed →
        (s.slot n).autoPending = false ∨ s.profiles.loaded = false →
        exec (.transactionAnswered (.good none)) s = .next (conclude { s with
          now := soon
          slots := s.slots.put n { s.slot n with status := (s.adapter n).cells.at 2 }
          bus := { s.bus with current := none, views := s.bus.views.put n .answering } })) ∧
      ((s.slot n).state = .empty ∨ ((s.slot n).state = .off ∧ kind = (s.slot n).kind ∧
          (s.slot n).mismatch = wrong ∧ s.bus.views.at n = .unconfirmed) →
        (s.slot n).autoPending = true → s.profiles.loaded = true →
        ∃ u, found u ∧ (u.slot n).autoPending = false ∧
          (wrong = true ∨ g.autoPower = false →
            (u.slot n).state = .off ∧ (u.slot n).mismatch = wrong ∧ SameOutside [.now, .link, .slots, .bus] s u) ∧
          (wrong = false → g.autoPower = true → (s.slot n).powerGood = false →
            (u.slot n).state = .powering ∧ (u.slot n).runUp = true ∧ (u.slot n).pgWindow = some (soon + 27000000) ∧
            (s.link.mask.at 1 = true → ∃ e ∈ u.link.notices, e.notice = .slot n .powering .autoPower kind)) ∧
          (wrong = false → g.autoPower = true → (s.slot n).powerGood = true →
            (u.slot n).state = (if (s.profile n).dips.apply then .held else .booting)) ∧
          (wrong = false → g.autoPower = true → (u.monitor n.source).taking = true ∧
            (u.slot n).lineHigh = g.lineHigh) ∧
          SameOutside [.now, .link, .slots, .bus, .monitors, .coins] s u)

/-- R27 and R50: the last transaction of a DIP apply, READ of cell 6 with nothing else on the bus: a value equal to
bank D lets the slot go on to BOOTING; any other leaves it HELD with its run-up flag cleared and DIP_MISMATCH posted.
R50 and R51: a hand-over withdraws the slot's earlier run, a transaction of it on the bus being discarded, and puts the
eight transactions at the tail; on an idle bus with no other run the first begins. An answered write, or a read equal to
its bank, has the next begin; a read that differs, an answer in bad parity or none ends the run there, the slot staying
HELD with DIP_MISMATCH. -/
def Obligations.DipApplyEnds : Prop :=
  (∀ (n : Slot) (banks : Tab Byte 4) (s : State),
    let bank (k : Fin 4) : Word16 := (banks.at k).setWidth 16
    let rest : List BusOp :=
      [.write 4 (bank 1), .write 5 (bank 2), .write 6 (bank 3), .read 3, .read 4, .read 5, .read 6]
    let others := s.bus.sequence.filter fun r => r.slot != n
    (∀ t, s.bus.current = some t →
      handOver n banks s = { s with bus := { s.bus with
        sequence := others ++ [⟨n, .write 3 (bank 0) :: rest, banks⟩]
        current := some (if t.owner = .sequence ∧ t.slot = n then { t with discard := true } else t) } }) ∧
    (s.bus.current = none → others = [] →
      handOver n banks s = { s with bus := { s.bus with
        sequence := [⟨n, rest, banks⟩]
        current := some ⟨n, .write 3 (bank 0), .sequence, s.now, false⟩ } })) ∧
  (∀ (n : Slot) (op : BusOp) (began : Nat) (r : ApplyRun) (s : State), s.powered = true → Settled s →
    s.bus.current = some ⟨n, op, .sequence, began, false⟩ → s.bus.sequence = [r] → r.slot = n →
    s.bus.linkRun = none → s.bus.waitingPoll = none →
    let a := s.adapter n
    let soon := max s.now (began + 13500)
    let cell (k : Fin 4) : Fin 256 := ⟨3 + k.val, by omega⟩
    let good : Prop := (∃ c v, op = .write c v) ∨
      ∃ k, op = .read (cell k) ∧ a.cells.at (cell k) = (r.banks.at k).setWidth 16
    let fails (x : Instr) (moment : Nat) (carriedOut : Bool) : Prop :=
      (s.slot n).state = .held → s.co.current ≠ some n →
      ∃ u, exec x s = .next (conclude u) ∧ u.now = moment ∧
        u.adapters = (if carriedOut then s.adapters.put n (a.perform op) else s.adapters) ∧
        u.bus = { s.bus with current := none, sequence := [] } ∧
        u.slots = s.slots.put n { s.slot n with runUp := false, applying := false } ∧
        (s.link.mask.at 1 = true → ∃ e ∈ u.link.notices, e.notice = .slot n .held .dipMismatch (s.slot n).kind) ∧
        SameOutside [.now, .link, .slots, .adapters, .bus] s u
    (∀ o todo, r.todo = o :: todo → good →
      exec (.transactionAnswered (.good none)) s = .next (conclude { s with
        now := soon
        adapters := s.adapters.put n (a.perform op)
        bus := { s.bus with
          current := some ⟨n, o, .sequence, soon, false⟩, sequence := [{ r with todo := todo }] } })) ∧
    (∀ k, op = .read (cell k) → a.cells.at (cell k) ≠ (r.banks.at k).setWidth 16 →
      fails (.transactionAnswered (.good none)) soon false) ∧
    (∀ received, fails (.transactionAnswered (.badParity received)) soon received) ∧
    ∀ received, fails (.answerWindowExpiry received) (max s.now (began + 54000)) received) ∧
  ∀ (n : Slot) (began : Nat) (r : ApplyRun) (s : State), s.powered = true → Settled s →
    s.bus.current = some ⟨n, .read 6, .sequence, began, false⟩ → s.bus.sequence = [r] → r.slot = n → r.todo = [] →
    s.bus.linkRun = none → s.bus.waitingPoll = none → (s.slot n).state = .held → s.co.current ≠ some n → Apart n s →
    let soon := max s.now (began + 13500)
    ∃ u, exec (.transactionAnswered (.good none)) s = .next (conclude u) ∧ u.now = soon ∧
      u.bus = { s.bus with current := none, sequence := [] } ∧
      (u.slot n).runUp = false ∧ (u.slot n).applying = false ∧ (∀ m, m ≠ n → u.slot m = s.slot m) ∧
      ((s.adapter n).cells.at 6 = (r.banks.at 3).setWidth 16 →
        (u.slot n).state = .booting ∧
        (u.slot n).bootWindow = some (soon + 27000 * (s.profile n).general.bootTime)) ∧
      ((s.adapter n).cells.at 6 ≠ (r.banks.at 3).setWidth 16 →
        (u.slot n).state = .held ∧
        (s.link.mask.at 1 = true → ∃ e ∈ u.link.notices, e.notice = .slot n .held .dipMismatch (s.slot n).kind)) ∧
      SameOutside [.now, .link, .slots, .bus] s u

/-! ### Sync monitors (R56 to R75) -/

/-- R74: TIMING answers with the monitor's record, laid out as its table gives it, in every state of the part, and
changes nothing; a source outside 1 to 9 is BAD_FIELD 0. -/
def Obligations.TimingAnswersTheRecord : Prop :=
  (∀ (dt : Nat) (tag : Byte) (src : Source) (s : State) (b : List Place),
    let p : List Byte := [BitVec.ofNat 8 (src.val + 1)]
    let m := s.monitor src
    let four (v : Nat) : List Byte :=
      [BitVec.ofNat 8 v, BitVec.ofNat 8 (v / 256), BitVec.ofNat 8 (v / 65536), BitVec.ofNat 8 (v / 16777216)]
    let two (v : Nat) : List Byte := [BitVec.ofNat 8 v, BitVec.ofNat 8 (v / 256)]
    Turn 0x08 tag p s b →
    exec (.timing dt tag p) s = .next (conclude (s.justReplied dt b ⟨0x08, tag, .ok,
      [BitVec.ofNat 8 (src.val + 1), m.state.code, m.cls.code] ++ four m.lastF ++ two m.lastL ++ four (m.fref.getD 0)
        ++ two (m.lref.getD 0) ++ two m.lineRate ++ two m.fieldRate
        ++ [BitVec.ofNat 8 m.run, BitVec.ofNat 8 m.unsteady,
          match m.timer with
          | none => 0
          | some t => match t.stage with
            | .seek | .first => 1
            | .second => 2]⟩))) ∧
  ∀ (dt : Nat) (tag x : Byte) (s : State) (b : List Place), Turn 0x08 tag [x] s b → x = 0 ∨ 9 < x.toNat →
    exec (.timing dt tag [x]) s = .next (conclude (s.justReplied dt b ⟨0x08, tag, .badField 0, []⟩))

/-- R58 to R61 and R65: the class of a line rate, from the table's bands; which fields are accepted, the rates rounded
to nearest, steadiness within floor(R/256), and the tracked reference, which moves by (F − Fref)/16 truncated toward
zero and stays within the accepted periods. -/
def Obligations.MonitorFiguresFollowTheRules : Prop :=
  (∀ rate : Nat,
      (classOf rate = .low ↔ 14500 ≤ rate ∧ rate ≤ 16500) ∧
      (classOf rate = .medium ↔ 23500 ≤ rate ∧ rate ≤ 26500) ∧
      (classOf rate = .high ↔ 30000 ≤ rate ∧ rate ≤ 32500) ∧
      (classOf rate = .outOfClass ↔ ¬((14500 ≤ rate ∧ rate ≤ 16500) ∨ (23500 ≤ rate ∧ rate ≤ 26500) ∨
        (30000 ≤ rate ∧ rate ≤ 32500)))) ∧
  ((∀ f l : Nat, fieldAccepted f l = true ↔ (337500 ≤ f ∧ f ≤ 675000) ∧ 200 ≤ l ∧ l ≤ 700) ∧
    (∀ f l : Nat, 0 < f →
      2 * f * lineRateOf f l ≤ 2 * 27000000 * l + f ∧ 2 * 27000000 * l < 2 * f * lineRateOf f l + f + 1) ∧
    (∀ f : Nat, 0 < f → 2 * f * fieldRateOf f ≤ 2 * 2700000000 + f ∧ 2 * 2700000000 < 2 * f * fieldRateOf f + f + 1) ∧
    (∀ (c : SigClass) (f r : Nat),
      steady c f r = true ↔ c ≠ .outOfClass ∧ ((f : Int) - r).natAbs ≤ r / 256) ∧
    (∀ r f : Nat, (r ≤ f → trackRef r f = r + (f - r) / 16) ∧ (f ≤ r → trackRef r f = r - (r - f) / 16)) ∧
    ∀ r f : Nat, GoodPeriod r → GoodPeriod f → GoodPeriod (trackRef r f))

/-- R57 to R59, R61 to R66, R68, R72: a vertical sync of a source that nothing else is watching: source M, or a slot
that is not current and that the frame store neither writes nor buffers, with no changeover in flight. Not taken, or
with no field open, it judges nothing; a rejected field changes no figure. An accepted field begins a run in DARK; in
SEEKING it lengthens the run when steady and of the run's class, locks the monitor on the run's mean as the fourth, and
otherwise begins a new run; in LOCKED and WEAK a steady field of the lock's class moves the reference (WEAK returns to
LOCKED), the third unsteady one and any field of another class begin a new run with cause CHANGED, and the first two
unsteady ones are only counted. In each case a new field opens at the sync. For source M menu presence is judged after
an accepted field. -/
def Obligations.VerticalSyncJudgesTheField : Prop :=
  ∀ (dt : Nat) (src : Source) (s : State), s.powered = true → Settled s →
    (∀ n : Slot, n.source = src → s.co.current ≠ some n ∧ s.frame.writer ≠ some n ∧
      ∀ b, (s.buffer b).state = .filling → (s.buffer b).source ≠ some n) →
    let m := s.monitor src
    let now := s.now + dt
    let opened (x : Monitor) : Monitor := { x with field := some ⟨now, 0⟩ }
    (m.taking = false → exec (.verticalSync dt src) s = .next (conclude { s with now := now })) ∧
    (m.taking = true → m.field = none →
      exec (.verticalSync dt src) s = .next (conclude { s with now := now, monitors := s.monitors.put src (opened m) })) ∧
    (∀ f, m.taking = true → m.field = some f → fieldAccepted (now - f.start) f.lines = false →
      exec (.verticalSync dt src) s = .next (conclude { s with now := now, monitors := s.monitors.put src (opened m) })) ∧
    ∀ f, m.taking = true → m.field = some f → fieldAccepted (now - f.start) f.lines = true →
      let F := now - f.start
      let rate := lineRateOf F f.lines
      let c := classOf rate
      let kept : Monitor := { m with lastF := F, lastL := f.lines, lineRate := rate, fieldRate := fieldRateOf F }
      let begun : Monitor := { kept with
        state := .seeking, reference := some F, run := 1, runSum := F, cls := c, unsteady := 0, fref := none,
        lref := none, timer := some ⟨.seek, now, now + 13500000⟩ }
      let menu (x : Monitor) : Bool := match x.state, x.fref with
        | .locked, some r => decide (((r : Int) - s.out.fout).natAbs ≤ s.out.fout / 256)
        | _, _ => false
      let taken (x : Monitor) (u : State) : Prop :=
        u.now = now ∧ u.monitors = s.monitors.put src (opened x) ∧
        (src ≠ 8 → SameOutside [.now, .link, .monitors] s u) ∧
        (src = 8 → u.pic = { s.pic with menuPresent := menu x } ∧
          u.snd = { s.snd with ducked := s.pic.overlay.enable && menu x } ∧
          SameOutside [.now, .link, .monitors, .pic, .snd] s u)
      let silent (x : Monitor) : Prop :=
        ∃ u, exec (.verticalSync dt src) s = .next (conclude u) ∧ taken x u ∧ u.link = s.link
      let told (x : Monitor) (why : SignalCause) : Prop :=
        ∃ u, exec (.verticalSync dt src) s = .next (conclude u) ∧ taken x u ∧
          (s.link.mask.at 2 = true →
            ∃ e ∈ u.link.notices, e.notice = .signal src x.state why x.cls (x.fref.getD 0))
      (m.state = .dark → silent begun) ∧
      (m.state = .seeking →
        (m.cls = c → steady c F (m.reference.getD 0) = true →
          (m.run < 3 → silent { kept with
            run := m.run + 1, runSum := m.runSum + F, reference := some F,
            timer := some ⟨.seek, now, now + 13500000⟩ }) ∧
          (m.run = 3 → told { kept with
            state := .locked, run := 4, runSum := m.runSum + F, fref := some ((m.runSum + F) / 4), lref := some f.lines,
            unsteady := 0, reference := none, timer := some ⟨.first, now, now + 2 * ((m.runSum + F) / 4)⟩ } .locked)) ∧
        (m.cls ≠ c ∨ steady c F (m.reference.getD 0) = false → silent begun)) ∧
      ∀ r, m.state = .locked ∨ m.state = .weak → m.fref = some r →
        let tracked : Monitor := { kept with
          state := .locked, fref := some (trackRef r F), lref := some f.lines, unsteady := 0,
          timer := some ⟨.first, now, now + 2 * trackRef r F⟩ }
        (m.cls = c → steady c F r = true →
          (m.state = .locked → silent tracked) ∧ (m.state = .weak → told tracked .locked)) ∧
        (m.cls = c → steady c F r = false →
          (m.unsteady < 2 → silent { kept with
            unsteady := m.unsteady + 1, timer := some ⟨.first, now, now + 2 * r⟩ }) ∧
          (2 ≤ m.unsteady → told begun .changed)) ∧
        (m.cls ≠ c → told begun .changed)

/-- R57, R102, R105: a line sync counts to 701 at most, and only while a field is open; the line it begins joins the
buffer its source fills when the window holds the line: sample i is taken at position p = first active sample + i of the
S parts of the line period H, p × H / S ticks after the sync, and is black at a position of S or more and while the
monitor holds no line period. That the line's video signal is an operand, given by its changes in 1,024ths of a tick and
black before the first, is the model's choice (log 14).
R103: at an opening of the writer's source a FREE buffer is taken, the lowest-numbered, or else the oldest READY one,
which counts FRAMES_DROPPED (counter 65), and none while one is FILLING. R104, R101, R35: at the closing the buffer
becomes FREE when abandoned or rejected; accepted, it is READY with the next sequence number and the signature of its
whole window, black lines filling it up, which becomes the slot's last capture signature and is reported. A vertical
sync of a slot that is not current closes and opens so, and judges the monitor as it does without a frame store. -/
def Obligations.LineSyncCountsAndCaptures : Prop :=
  (∀ (src : Source) (s : State),
    let u := fieldOpens src s
    ((∀ n, s.frame.writer = some n → n.source ≠ src) ∨ (∃ b, (s.buffer b).state = .filling) → u = s) ∧
    ∀ n w, s.frame.writer = some n → n.source = src → s.frame.window = some w →
      (∀ b, (s.buffer b).state ≠ .filling) →
      let took (b : Fin 3) : Prop :=
        u.frame = { s.frame with buffers := s.frame.buffers.put b ⟨.filling, none, some n, none, false, w, []⟩ }
      (∀ b, (s.buffer b).state = .free → (∀ c, c < b → (s.buffer c).state ≠ .free) →
        took b ∧ SameOutside [.frame] s u) ∧
      (∀ b x, (∀ c, (s.buffer c).state ≠ .free) → (s.buffer b).state = .ready → (s.buffer b).seq = some x →
        (∀ c, c ≠ b → (s.buffer c).state = .ready → ∃ y, (s.buffer c).seq = some y ∧
          1 ≤ (y - x).toNat ∧ (y - x).toNat ≤ 32767) →
        took b ∧ u.counters = (increment 65 s).counters ∧ SameOutside [.link, .counters, .frame] s u)) ∧
  (∀ (src : Source) (accepted : Bool) (s : State),
    let u := fieldCloses src accepted s
    ((∀ b, (s.buffer b).state = .filling → (s.buffer b).source.map Slot.source ≠ some src) → u = s) ∧
    ∀ b n, (s.buffer b).state = .filling → (∀ c, (s.buffer c).state = .filling → c = b) →
      (s.buffer b).source = some n → n.source = src →
      let x := s.buffer b
      let all := x.lines ++
        List.replicate (x.window.activeLines - x.lines.length) (List.replicate x.window.activeSamples ⟨0, 0, 0⟩)
      let bits : List Bool := all.flatten.flatMap fun p =>
        [p.r, p.g, p.b].flatMap fun (y : Byte) => [7, 6, 5, 4, 3, 2, 1, 0].map fun i => y.getLsbD i
      let sig : Word16 := bits.foldl (fun reg bit => if reg.msb = bit then reg <<< 1 else (reg <<< 1) ^^^ 0x1021) 0xFFFF
      (x.abandoned = true ∨ accepted = false →
        u.frame = { s.frame with buffers := s.frame.buffers.put b Buffer.free } ∧ SameOutside [.frame] s u) ∧
      (x.abandoned = false → accepted = true →
        u.frame = { s.frame with
          buffers := s.frame.buffers.put b { x with
            state := .ready, seq := some s.frame.nextSeq, signature := some sig, lines := all }
          nextSeq := s.frame.nextSeq + 1 } ∧
        u.slots = s.slots.put n { s.slot n with lastSig := some sig } ∧ u.reports = s.reports ++ [.ready n sig] ∧
        SameOutside [.link, .counters, .slots, .frame, .pic, .reports] s u)) ∧
  (∀ (dt : Nat) (n : Slot) (s : State), s.powered = true → Settled s → s.co.current ≠ some n →
    (s.monitor n.source).taking = true →
    let base : State := { s with now := s.now + dt }
    let closed : State := match (s.monitor n.source).field with
      | none => base
      | some f => fieldCloses n.source (fieldAccepted (base.now - f.start) f.lines) base
    let w := fieldOpens n.source closed
    ∃ u, exec (.verticalSync dt n.source) s = .next (conclude u) ∧ u.now = base.now ∧
      u.frame = w.frame ∧ u.slots = w.slots ∧ u.counters = w.counters ∧ u.pic = w.pic ∧
      (∀ v, exec (.verticalSync dt n.source) { s with frame := .initial } = .next v → u.monitors = v.monitors) ∧
      SameOutside [.now, .link, .counters, .slots, .monitors, .frame, .pic] s u) ∧
  ∀ (dt : Nat) (src : Source) (video : List (Nat × RGB)) (s : State), s.powered = true →
    let m := s.monitor src
    (m.taking = false ∨ m.field = none →
      exec (.lineSync dt src video) s = .next (conclude { s with now := s.now + dt })) ∧
    ∀ f, m.taking = true → m.field = some f →
      let counted := s.monitors.put src { m with field := some ⟨f.start, min 701 (f.lines + 1)⟩ }
      ((∀ b, (s.buffer b).state = .filling → (s.buffer b).source.map Slot.source ≠ some src) →
        exec (.lineSync dt src video) s = .next (conclude { s with now := s.now + dt, monitors := counted })) ∧
      ∀ b, (s.buffer b).state = .filling → (∀ c, (s.buffer c).state = .filling → c = b) →
        (s.buffer b).source.map Slot.source = some src →
        let x := s.buffer b
        let w := x.window
        let H : Option Nat := match m.fref, m.lref with
          | some fref, some lref => some (fref / lref)
          | _, _ => if m.lastL = 0 then none else some (m.lastF / m.lastL)
        let sampled (i : Nat) : RGB :=
          let p := w.firstSample + i
          match H with
          | some h =>
            if p < w.samplesPerLine then
              (((video.filter fun e => decide (e.1 * w.samplesPerLine ≤ 1024 * (p * h))).getLast?).map Prod.snd).getD
                ⟨0, 0, 0⟩
            else ⟨0, 0, 0⟩
          | none => ⟨0, 0, 0⟩
        exec (.lineSync dt src video) s = .next (conclude { s with
          now := s.now + dt
          monitors := counted
          frame := (if w.firstLine ≤ f.lines ∧ f.lines < w.firstLine + w.activeLines then
              { s.frame with
                buffers := s.frame.buffers.put b { x with
                  lines := x.lines ++ [(List.range w.activeSamples).map sampled] } }
            else s.frame) })

/-- R58, R67 and R72, for a source that no changeover and no current slot watches: a field still open at 675,000 ticks
is closed as rejected and its buffer freed; the seek stage and the second stage end in DARK with SIGNAL LOST; the first
stage of a LOCKED monitor ends in WEAK, and that of a WEAK one leaves it WEAK, with the second stage to follow. For
source M the menu is then absent. Neither, not running, expires to any effect (the model's choice, log 23). -/
def Obligations.MonitorTimersExpire : Prop :=
  ∀ (src : Source) (s : State), s.powered = true → Settled s → (∀ n : Slot, n.source = src → s.co.current ≠ some n) →
    let m := s.monitor src
    (m.field = none → exec (.fieldTimeout src) s = .next (conclude s)) ∧
    (∀ f, m.field = some f →
      ∃ u, exec (.fieldTimeout src) s = .next (conclude u) ∧ u.now = max s.now (f.start + 675000) ∧
        u.monitors = s.monitors.put src { m with field := none } ∧
        (∀ b, (s.buffer b).state ≠ .filling → u.buffer b = s.buffer b) ∧
        (∀ b, (s.buffer b).state = .filling → (∀ c, (s.buffer c).state = .filling → c = b) →
          (s.buffer b).source.map Slot.source = some src → (u.buffer b).state = .free) ∧
        SameOutside [.now, .monitors, .frame] s u) ∧
    (m.timer = none → exec (.syncTimerExpiry src) s = .next (conclude s)) ∧
    ∀ t, m.timer = some t → m.state ≠ .dark →
      let taken (x : Monitor) (u : State) : Prop :=
        exec (.syncTimerExpiry src) s = .next (conclude u) ∧ u.now = max s.now t.expiry ∧
        u.monitors = s.monitors.put src x ∧
        (src ≠ 8 → SameOutside [.now, .link, .monitors] s u) ∧
        (src = 8 → u.pic = { s.pic with menuPresent := false } ∧ u.snd = { s.snd with ducked := false } ∧
          SameOutside [.now, .link, .monitors, .pic, .snd] s u)
      let second : Option SyncTimer := some ⟨.second, t.since, t.since + 8 * m.fref.getD 0⟩
      (t.stage = .seek ∨ t.stage = .second →
        ∃ u, taken { m with
            state := .dark, fref := none, lref := none, cls := .none, reference := none, run := 0, runSum := 0,
            unsteady := 0, timer := none } u ∧
          (s.link.mask.at 2 = true → ∃ e ∈ u.link.notices, e.notice = .signal src .dark .lost .none 0)) ∧
      (t.stage = .first → m.state = .locked →
        ∃ u, taken { m with state := .weak, timer := second } u ∧
          (s.link.mask.at 2 = true →
            ∃ e ∈ u.link.notices, e.notice = .signal src .weak .weak m.cls (m.fref.getD 0))) ∧
      (t.stage = .first → m.state = .weak → ∃ u, taken { m with timer := second } u ∧ u.link = s.link)

/-! ### Changeover (R76 to R99) -/

/-- R77, R80 and R146: the start of a changeover, before any phase ends. The record is new with no superseded tags; the
queue of `from` is returned; the picture is held in HOLD style (with `from` = 0 too, the model's reading, log 31; a fade
still in progress runs on, the model's choice, log 57), otherwise fades to 0 (at once without a `from`); the sound fades
to 0 likewise; the claim is gone and the controls are LINK's under the link hold flag, otherwise no one's; the recovery
watch is stopped (the model's reading, log 25). -/
def Obligations.ChangeoverStartsInQuiesce : Prop :=
  ∀ (st : Start) (s : State),
    let t := startChangeover st s
    (∃ r, t.co = { current := s.co.current, record := some r, pending := s.co.pending, watch := .stopped } ∧
      r.tag = st.tag ∧ r.source = s.co.current ∧ r.target = st.target ∧ r.phase = .quiesce ∧ r.reason = st.reason ∧
      r.isReturn = st.isReturn ∧ r.superseded = ⟨[], false⟩ ∧ r.resume = .notChecked ∧ r.lockLimit = none) ∧
    t.router.claim = none ∧ t.router.linkHold = s.router.linkHold ∧
    t.router.owner = (if s.router.linkHold then .link else .none) ∧ t.router.playTimer = none ∧
    (∀ n, s.co.current = some n → t.queue n = []) ∧
    (s.cabinet.holdStyle = true → t.frame = { s.frame with hold := true } ∧ t.pic = s.pic) ∧
    (s.cabinet.holdStyle = false → t.frame = s.frame ∧
      (s.co.current = none ∨ s.cabinet.videoFade = 0 ∨ s.pic.level = 0 → t.pic.level = 0 ∧ t.pic.fade = none) ∧
      (s.co.current ≠ none → s.cabinet.videoFade ≠ 0 → s.pic.level ≠ 0 → t.pic.level = s.pic.level ∧
        t.pic.fade = some ⟨false, s.cabinet.videoFade, s.pic.level, s.now, 0⟩)) ∧
    (s.co.current = none ∨ s.cabinet.audioFade = 0 ∨ s.snd.gain = 0 → t.snd.gain = 0 ∧ t.snd.fade = none) ∧
    (s.co.current ≠ none → s.cabinet.audioFade ≠ 0 → s.snd.gain ≠ 0 → t.snd.gain = s.snd.gain ∧
      t.snd.fade = some ⟨false, s.cabinet.audioFade, s.snd.gain, s.now, 0⟩) ∧
    SameOutside [.link, .co, .frame, .pic, .snd, .router, .coins] s t

/-- R78 and R79: SELECT. Each refusal in order changes nothing, a target above 8 being BAD_FIELD 0; the current slot
with no changeover is ALREADY; with none in flight a changeover starts, which waits in QUIESCE while the sound fades,
and otherwise passes the phases whose ends have come: from standby QUIESCE ends at once, and a target that has to be
powered is then waited for in WAKE, a LIVE one without a lock in LOCK; in flight, another target goes pending and the
tag it replaces is superseded, and `to` itself drops the pending target. The reply carries the targets as they then
stand. That the picture is held from standby too in HOLD style is the model's reading (log 31). R79: a tag of 0 never
joins the superseded tags, and a seventh discards the oldest and sets the more flag. -/
def Obligations.SelectStartsOrQueuesAChangeover : Prop :=
  (∀ (dt : Nat) (tag : Byte) (t : Option Slot) (s : State) (b : List Place),
      let p : List Byte := [slotCode t]
      let refused (r : Result) := Host.Outcome.next (conclude (s.justReplied dt b ⟨0x06, tag, r, []⟩))
      let unfit : Prop := ∃ n, t = some n ∧ ((s.slot n).state = .empty ∨ (s.slot n).state = .fault)
      let wrong : Prop := ∃ n, t = some n ∧ (s.profile n).general.expectedKind ≠ 0 ∧
        (s.profile n).general.expectedKind ≠ (s.slot n).kind
      let code (x : Option (Option Slot)) : Byte := match x with
        | none => 0xFF
        | some y => slotCode y
      let reply (r : Result) (u : State) : Reply :=
        ⟨0x06, tag, r, [slotCode u.co.current, code (u.co.record.map Record.target), code (u.co.pending.map Pending.target)]⟩
      Turn 0x06 tag p s b →
      (s.profiles.loading = true → exec (.select dt tag p) s = refused .busy) ∧
      (s.profiles.loading = false → unfit → exec (.select dt tag p) s = refused .noBoard) ∧
      (s.profiles.loading = false → ¬unfit → wrong → exec (.select dt tag p) s = refused .wrongBoard) ∧
      (s.profiles.loading = false → ¬unfit → ¬wrong →
        (s.co.record = none → t = s.co.current →
          exec (.select dt tag p) s = .next (conclude (s.justReplied dt b (reply .already s)))) ∧
        (s.co.record = none → t ≠ s.co.current → s.co.current ≠ none → s.cabinet.audioFade ≠ 0 → s.snd.gain ≠ 0 →
          let u := startChangeover ⟨tag, t, false, none⟩ { s with now := s.now + dt, link := { s.link with buffer := b } }
          exec (.select dt tag p) s =
            .next (conclude { u with link := u.link.replied b (reply .accepted u), reports := [] })) ∧
        (s.co.record = none → t ≠ s.co.current →
          let u := conduct (startChangeover ⟨tag, t, false, none⟩
            { s with now := s.now + dt, link := { s.link with buffer := b } })
          exec (.select dt tag p) s = .next (conclude { u with link := u.link.replied b (reply .accepted u) })) ∧
        (∀ n, s.co.record = none → s.co.pending = none → s.co.current = none → t = some n →
          let waits (phase : Phase) (u : State) : Prop :=
            exec (.select dt tag p) s = .next (conclude u) ∧ u.now = s.now + dt ∧
            u.link = { s.link.replied b ⟨0x06, tag, .accepted, [0, slotCode t, 0xFF]⟩ with notices := u.link.notices } ∧
            u.co.current = none ∧ u.co.pending = none ∧ u.frame.writer = none ∧ u.snd.gain = 0 ∧
            (s.cabinet.holdStyle = false → u.pic.level = 0) ∧ (s.cabinet.holdStyle = true → u.frame.hold = true) ∧
            (∀ m, m ≠ n → u.slot m = s.slot m) ∧
            ∃ r, u.co.record = some r ∧ r.phase = phase ∧ r.tag = tag ∧ r.source = none ∧ r.target = t ∧
              (phase = .lock → r.lockLimit = some (s.now + dt + 27000 * (s.profile n).general.lockLimit))
          ((s.slot n).state = .off → (s.slot n).mismatch = false → (s.slot n).powerGood = false →
            ∃ u, waits .wake u ∧ (u.slot n).state = .powering ∧ (u.slot n).runUp = true ∧
              (u.slot n).pgWindow = some (s.now + dt + 27000000)) ∧
          ((s.slot n).state = .live → (s.monitor n.source).state ≠ .locked → ∃ u, waits .lock u ∧ u.slot n = s.slot n)) ∧
        (∀ r, s.co.record = some r → t ≠ r.target →
          let co : Controller := { s.co with
            pending := some ⟨t, tag⟩
            record := some (match s.co.pending with
              | some q => { r with superseded := r.superseded.append q.tag }
              | none => r) }
          exec (.select dt tag p) s = .next (conclude { s with
            now := s.now + dt, co := co, link := s.link.replied b (reply .accepted { s with co := co }) })) ∧
        (∀ r, s.co.record = some r → t = r.target →
          let co : Controller := match s.co.pending with
            | some q => { s.co with pending := none, record := some { r with superseded := r.superseded.append q.tag } }
            | none => s.co
          exec (.select dt tag p) s = .next (conclude { s with
            now := s.now + dt, co := co, link := s.link.replied b (reply .already { s with co := co }) })))) ∧
  (∀ (dt : Nat) (tag x : Byte) (s : State) (b : List Place), Turn 0x06 tag [x] s b → 8 < x.toNat →
    exec (.select dt tag [x]) s = .next (conclude (s.justReplied dt b ⟨0x06, tag, .badField 0, []⟩))) ∧
  ∀ (l : TagList) (tag : Byte),
    l.append 0 = l ∧
    (tag ≠ 0 → l.tags.length < 6 → l.append tag = ⟨l.tags ++ [tag], l.more⟩) ∧
    (tag ≠ 0 → l.tags.length = 6 → l.append tag = ⟨l.tags.tail ++ [tag], true⟩)

/-- R91: ABORT. With no changeover WRONG_STATE, from RETIME on TOO_LATE, both without effect; before, ACCEPTED: the
changeover is aborted, and the one that follows passes the phases whose ends have come. The writer is disabled, `to` is
parked, a pending target is dropped and its tag joins the superseded tags, ABORTED is reported, and a changeover to
standby with the ABORT's tag starts from the same current slot. It waits in QUIESCE while the sound has to fade. That
the recovery watch is stopped by it is the model's reading (log 25).
R33, R35, R36: what a park request makes of the slot, which no other slot sees; a change of its state is posted as
PARKED, and a park that leaves the state posts nothing (the model's choice, log 47). R34: what a wake request makes of
the slot and answers. -/
def Obligations.AbortGoesToStandby : Prop :=
  (∀ (dt : Nat) (tag : Byte) (s : State) (b : List Place), Turn 0x07 tag [] s b →
    let said (r : Result) := Host.Outcome.next (conclude (s.justReplied dt b ⟨0x07, tag, r, []⟩))
    (s.co.record = none → exec (.abort dt tag []) s = said .wrongState) ∧
    ∀ r, s.co.record = some r →
      (r.phase = .retime ∨ r.phase = .reveal ∨ r.phase = .grant → exec (.abort dt tag []) s = said .tooLate) ∧
      (r.phase = .quiesce ∨ r.phase = .park ∨ r.phase = .wake ∨ r.phase = .lock →
        (let u := conduct (abortChangeover r tag { s with now := s.now + dt, link := { s.link with buffer := b } });
          exec (.abort dt tag []) s = .next (conclude { u with link := u.link.replied b ⟨0x07, tag, .accepted, []⟩ })) ∧
        (s.co.current ≠ none → s.cabinet.audioFade ≠ 0 → s.snd.gain ≠ 0 →
        ∃ u, exec (.abort dt tag []) s = .next (conclude u) ∧
          u.link = { s.link.replied b ⟨0x07, tag, .accepted, []⟩ with notices := u.link.notices } ∧
          u.now = s.now + dt ∧ u.co.current = s.co.current ∧ u.co.pending = none ∧ u.co.watch = .stopped ∧
          (∃ r', u.co.record = some r' ∧ r'.tag = tag ∧ r'.source = s.co.current ∧ r'.target = none ∧
            r'.phase = .quiesce ∧ r'.isReturn = false ∧ r'.reason = none ∧ r'.superseded = ⟨[], false⟩) ∧
          u.frame.writer = none ∧
          (∀ n, r.target = some n → Parked (s.profile n).general (s.slot n) (u.slot n)) ∧
          (∀ n, r.target ≠ some n → u.slot n = s.slot n) ∧
          (s.link.mask.at 0 = true → ∃ e ∈ u.link.notices, ∃ d, e.notice = .changeoverDone d ∧ d.outcome = .aborted ∧
            d.tag = r.tag ∧ d.source = r.source ∧ d.target = r.target ∧ d.resume = r.resume ∧
            ((∀ e ∈ s.link.notices, e.notice.kind ≠ 0) →
              d.superseded = match s.co.pending with
                | some q => r.superseded.append q.tag
                | none => r.superseded)) ∧
          SameOutside [.now, .link, .slots, .bus, .monitors, .co, .frame, .pic, .snd, .router, .coins, .counters, .reports]
            s u))) ∧
  (∀ (n : Slot) (s : State),
    let t := park n s
    Parked (s.profile n).general (s.slot n) (t.slot n) ∧ (∀ m, m ≠ n → t.slot m = s.slot m) ∧
    ((t.slot n).state ≠ (s.slot n).state → s.link.mask.at 1 = true →
      ∃ e ∈ t.link.notices, e.notice = .slot n (t.slot n).state .parked (s.slot n).kind) ∧
    ((t.slot n).state = (s.slot n).state → t.link = s.link) ∧
    SameOutside [.link, .counters, .slots, .bus, .monitors, .frame, .pic, .snd, .router, .coins, .reports] s t) ∧
  ∀ (n : Slot) (s : State),
    let r := s.slot n
    let t := (wake n s).1
    let answer := (wake n s).2
    let apply := (s.profile n).dips.apply
    let bootEnd := some (s.now + 27000 * (s.profile n).general.bootTime)
    (r.state = .live → t = s ∧ answer = .live false) ∧
    (r.state = .frozen → answer = .live true ∧ (t.slot n).state = .live ∧ (t.slot n).paused = false ∧
      (t.slot n).parkedSig = r.parkedSig ∧
      (s.link.mask.at 1 = true → ∃ e ∈ t.link.notices, e.notice = .slot n .live .wake r.kind)) ∧
    (r.state = .booting → t = s ∧ answer = .underWay) ∧
    (r.state = .held → answer = .underWay ∧
      (r.applying = true → t = s.setSlot n { r with runUp := true }) ∧
      (r.applying = false → apply = true →
        (t.slot n).state = .held ∧ (t.slot n).runUp = true ∧ (t.slot n).applying = true) ∧
      (r.applying = false → apply = false → (t.slot n).state = .booting ∧ (t.slot n).bootWindow = bootEnd)) ∧
    (r.state = .powering → answer = .underWay ∧ t = s.setSlot n { r with runUp := true }) ∧
    (r.state = .off → r.mismatch = true → t = s ∧ answer = .noBoard) ∧
    (r.state = .off → r.mismatch = false → answer = .underWay ∧
      (r.powerGood = false → (t.slot n).state = .powering ∧ (t.slot n).runUp = true ∧
        (t.slot n).pgWindow = some (s.now + 27000000) ∧
        (s.link.mask.at 1 = true → ∃ e ∈ t.link.notices, e.notice = .slot n .powering .wake r.kind)) ∧
      (r.powerGood = true → (t.slot n).state = (if apply then .held else .booting) ∧ (t.slot n).runUp = apply ∧
        (t.slot n).pgWindow = none)) ∧
    (r.state = .fault → t = s ∧ answer = .powerFault) ∧
    (r.state = .empty → t = s ∧ answer = .noBoard) ∧
    (∀ m, m ≠ n → t.slot m = s.slot m) ∧
    SameOutside [.link, .counters, .slots, .bus, .monitors, .router, .coins, .reports] s t

/-- R93: what a failure does before any phase ends: the writer is disabled, `to` is parked unless it is `from`, both
fades stop where they stand (the next QUIESCE goes on from there), LOCK_FAILURES of `to` counts, the outcome is
reported, and the next changeover is the pending target's, else the return to `from` when the fallback allows it, else
one to standby. That the picture is held without a current slot too and that the watch is stopped are the model's
readings (logs 31 and 25).
R83, R84, R86, R89: WAKE ends in LOCK with the lock limit running; a signal that is not acceptable fails; an acceptable
one ends LOCK, or, where the resume check applies, has the writer enabled on `to` for the check's field, the limit
running on unless its moment had come with the lock; a pending target supersedes at either end.
R80, R82, R87, R90: which phase an ended condition leads to. R80, R89, R167: the end of QUIESCE disables the writer in
HOLD style, cuts a pulse of `from` still in ON, its unit going to the bank (log 37), and leads to PARK or, with a
pending target, to the supersession. At PARK `from` is parked unless it is `to`, and the writer is disabled. R87 and
R118: what RETIME makes of the output, the flags and the writer. R90: what REVEAL makes of the reader, the picture and
the sound. R92 and R146: what GRANT makes of the current slot, the notices, the controls and the recovery watch, and
with a pending target the changeover to it. -/
def Obligations.FailureStartsTheNextChangeover : Prop :=
  (∀ (r : Record) (o : CoOutcome) (s : State), s.co.record = some r → OwnerSound s →
    let t := fail r o s
    let returns : Option Slot := match r.source with
      | none => none
      | some n =>
        if s.cabinet.fallbackReturn = true ∧ r.isReturn = false ∧ (s.slot n).state ≠ .empty ∧ (s.slot n).state ≠ .fault
        then some n else none
    t.frame.writer = none ∧ t.co.current = s.co.current ∧ t.co.pending = none ∧ t.co.watch = .stopped ∧
    (∀ n, r.target ≠ some n ∨ r.source = some n → t.slot n = s.slot n) ∧
    (∀ n, r.target = some n → r.source ≠ some n → Parked (s.profile n).general (s.slot n) (t.slot n)) ∧
    (s.cabinet.holdStyle = true → t.frame.hold = true ∧ t.pic.level = s.pic.level ∧ t.pic.fade = none) ∧
    (s.cabinet.holdStyle = false → t.frame.hold = s.frame.hold ∧
      (s.co.current = none ∨ s.cabinet.videoFade = 0 ∨ s.pic.level = 0 → t.pic.level = 0 ∧ t.pic.fade = none) ∧
      (s.co.current ≠ none → s.cabinet.videoFade ≠ 0 → s.pic.level ≠ 0 → t.pic.level = s.pic.level ∧
        t.pic.fade = some ⟨false, s.cabinet.videoFade, s.pic.level, s.now, 0⟩)) ∧
    (s.co.current = none ∨ s.cabinet.audioFade = 0 ∨ s.snd.gain = 0 → t.snd.gain = 0 ∧ t.snd.fade = none) ∧
    (s.co.current ≠ none → s.cabinet.audioFade ≠ 0 → s.snd.gain ≠ 0 → t.snd.gain = s.snd.gain ∧
      t.snd.fade = some ⟨false, s.cabinet.audioFade, s.snd.gain, s.now, 0⟩) ∧
    t.frame.blank = s.frame.blank ∧
    (∀ n, r.target = some n → s.counters.freeze = false →
      t.counters.table = s.counters.table.put (lockFailures n)
        ((s.counter (lockFailures n)).bump s.counters.saturate)) ∧
    (s.link.mask.at 0 = true →
      ∃ e ∈ t.link.notices, ∃ d, e.notice = .changeoverDone d ∧ d.outcome = o ∧ d.tag = r.tag ∧ d.source = r.source ∧
        d.target = r.target ∧ d.resume = r.resume) ∧
    (∃ r', t.co.record = some r' ∧ r'.phase = .quiesce ∧ r'.source = s.co.current ∧ r'.reason = none ∧
      (∀ q, s.co.pending = some q → r'.target = q.target ∧ r'.tag = q.tag ∧ r'.isReturn = false) ∧
      (s.co.pending = none → r'.tag = 0 ∧ r'.target = returns ∧ r'.isReturn = returns.isSome)) ∧
    SameOutside [.link, .counters, .slots, .bus, .monitors, .co, .frame, .pic, .snd, .router, .coins, .reports] s t) ∧
  (∀ (r : Record) (n : Slot) (s : State), s.co.pending = none → (s.monitor n.source).state ≠ .locked →
    ∃ r', enterLock r n s = { s with co := { s.co with record := some r' } } ∧ endWake r n s = enterLock r n s ∧
      r'.phase = .lock ∧ r'.lockLimit = some (s.now + 27000 * (s.profile n).general.lockLimit) ∧ r'.tag = r.tag ∧
      r'.source = r.source ∧ r'.target = r.target ∧ r'.lockSeen = r.lockSeen ∧
      (r'.checkApplies = true ↔
        (s.profile n).general.resumeCheck = true ∧ r.wokenFrozen = true ∧ (s.slot n).parkedSig ≠ none)) ∧
  (∀ (r : Record) (n : Slot) (s : State),
    (decision n s = none → judgeLock r n s = fail r .classMismatch s) ∧
    ((decision n s).isSome = true → r.checkApplies = true →
      (∃ r', (judgeLock r n s).co = { s.co with record := some r' } ∧ r'.lockSeen = true ∧ r'.phase = r.phase ∧
        (∀ t, r.lockLimit = some t → r'.lockLimit = if s.now < t then some t else none)) ∧
      (judgeLock r n s).frame.writer = some n ∧ SameOutside [.link, .co, .frame, .pic] s (judgeLock r n s)) ∧
    ((decision n s).isSome = true → r.checkApplies = false → s.co.pending = none →
      ∃ r', judgeLock r n s = enterRetime r' s ∧ r'.lockSeen = true ∧ r'.tag = r.tag ∧ r'.target = r.target ∧
        r'.source = r.source ∧ r'.resume = r.resume)) ∧
  (∀ (r : Record) (n : Slot) (q : Pending) (s : State), s.co.pending = some q → s.co.record = some r →
    r.target = some n →
    let t := endLock r s
    endWake r n s = t ∧ t.frame.writer = none ∧ t.co.current = s.co.current ∧ t.co.pending = none ∧
    (r.source ≠ some n → Parked (s.profile n).general (s.slot n) (t.slot n)) ∧
    (r.source = some n → t.slot n = s.slot n) ∧ (∀ m, m ≠ n → t.slot m = s.slot m) ∧
    (s.link.mask.at 0 = true → ∃ e ∈ t.link.notices, ∃ d, e.notice = .changeoverDone d ∧ d.outcome = .superseded ∧
      d.tag = r.tag ∧ d.source = r.source ∧ d.target = r.target ∧ d.resume = r.resume) ∧
    ∃ r', t.co.record = some r' ∧ r'.phase = .quiesce ∧ r'.tag = q.tag ∧ r'.target = q.target ∧
      r'.source = s.co.current ∧ r'.isReturn = false) ∧
  (∀ (r : Record) (s : State), s.co.record = some r →
    let fades := s.snd.fade = none ∧ (r.holdStyle = true ∨ s.pic.fade = none)
    (r.phase = .quiesce →
      (r.source = none ∨ fades → advancePhase s = endQuiesce r s) ∧
      (r.source ≠ none → ¬fades → advancePhase s = s)) ∧
    (r.phase = .retime →
      let shown : Prop := ∀ n, r.target = some n → (s.monitor n.source).state = .locked ∧
        ∃ b, (s.buffer b).state = .ready ∧ (s.buffer b).source = some n
      (s.out.settle = none → shown → advancePhase s = enterReveal r s) ∧
      (s.out.settle ≠ none ∨ ¬shown → advancePhase s = s)) ∧
    (r.phase = .reveal → (fades → advancePhase s = grant r s) ∧ (¬fades → advancePhase s = s)) ∧
    (r.phase = .wake ∨ r.phase = .lock → advancePhase s = s)) ∧
  (∀ (r : Record) (s : State),
    ∃ c : State,
      endQuiesce r s = (match s.co.pending with
        | none => enterPark r c
        | some _ => endLock r c) ∧
      (r.holdStyle = true → c.frame.writer = none) ∧ (r.holdStyle = false → c.frame = s.frame ∧ c.pic = s.pic) ∧
      (∀ n line e gap, r.source = some n → s.generator n = .on line e gap →
        c.generator n = .gap (s.now + gap) ∧ c.coins.delivered = s.coins.delivered - 1 ∧
        c.coins.queues = s.coins.queues ∧ c.coins.accepted = s.coins.accepted ∧
        (s.coins.bank < 65535 → c.coins.bank = s.coins.bank + 1 ∧ c.coins.drained = s.coins.drained) ∧
        (65535 ≤ s.coins.bank → c.coins.bank = s.coins.bank ∧ c.coins.drained = s.coins.drained + 1)) ∧
      ((∀ n line e gap, r.source = some n → s.generator n ≠ .on line e gap) → c.coins = s.coins) ∧
      SameOutside [.link, .frame, .pic, .coins] s c) ∧
  (∀ (r : Record) (s : State),
    (∀ n, r.target = some n → (s.slot n).state ≠ .live ∧ (s.slot n).state ≠ .frozen) →
    (enterPark r s).frame.writer = none) ∧
  (∀ (r : Record) (n : Slot) (s : State), r.source = some n →
    (r.target ≠ some n → Parked (s.profile n).general (s.slot n) ((enterPark r s).slot n)) ∧
    (r.target = none → (∀ m, m ≠ n → (enterPark r s).slot m = s.slot m))) ∧
  (∀ (r : Record) (d : Decision) (s : State), decisionFor r.target s = some d →
    let t := enterRetime r s
    let window (n : Slot) := (s.profile n).picture.window
    (∀ n, r.target = some n → t.frame.writer = some n ∧ t.frame.window = some (window n) ∧
      t.frame.placements.at n = ⟨window n, d.doubled⟩) ∧
    (∃ r', t.co = { s.co with record := some r' } ∧ r'.phase = .retime ∧ r'.lockLimit = none ∧ r'.tag = r.tag ∧
      r'.target = r.target ∧ r'.source = r.source) ∧
    (needsRetime d s = true →
      t.frame.blank = true ∧ t.frame.hold = false ∧ t.out.pass = d.pass ∧ t.out.cls = d.cls ∧
      (d.pass = false → t.out.slaved = none ∧ (t.out.fout, t.out.linePeriod, t.out.lineCount) = (match d.cls with
        | .low => (449592, 1716, 262)
        | .medium => (449280, 1080, 416)
        | .high => (450450, 858, 525))) ∧
      (∀ n f l, d.pass = true → d.slaved = some n → (s.monitor n.source).fref = some f →
        (s.monitor n.source).lref = some l →
        t.out.slaved = some n ∧ t.out.fout = f ∧ t.out.lineCount = l ∧ t.out.linePeriod = f / l) ∧
      t.out.settle = (if s.cabinet.settleTime = 0 then none else some (s.now + 27000 * s.cabinet.settleTime)) ∧
      t.out.startMark = false ∧ t.out.nextStart = s.now + t.out.fout ∧ t.pic.field.shown = .black ∧
      (s.link.mask.at 8 = true → s.pic.dimmed = false →
        ∃ e ∈ t.link.notices, e.notice = .output false d.pass d.cls false) ∧
      SameOutside [.link, .co, .frame, .out, .pic, .snd] s t) ∧
    (needsRetime d s = false →
      let free : Prop := ∀ n, r.target = some n → ∃ b, (s.buffer b).state = .ready ∧ (s.buffer b).source = some n
      t.frame.blank = s.frame.blank ∧ (free → t.frame.hold = false) ∧ (¬free → t.frame.hold = s.frame.hold) ∧
      (d.pass = false → t.out = s.out) ∧
      (∀ n l, d.pass = true → d.slaved = some n → (s.monitor n.source).lref = some l →
        t.out = { s.out with slaved := some n, lineCount := l, linePeriod := s.out.fout / l }) ∧
      SameOutside [.link, .co, .frame, .out, .pic] s t)) ∧
  (∀ (r : Record) (s : State),
    let t := enterReveal r s
    (∃ r', t.co = { s.co with record := some r' } ∧ r'.phase = .reveal ∧ r'.tag = r.tag ∧ r'.target = r.target) ∧
    t.frame.blank = false ∧ t.frame.hold = s.frame.hold ∧ t.frame.reader = r.target ∧ t.snd.source = r.target ∧
    (∀ n, r.target = some n →
      t.frame.firstTake = true ∧ t.frame.buffers = s.frame.buffers ∧ t.frame.fin = (s.monitor n.source).fref ∧
      ∀ f, (s.monitor n.source).fref = some f → t.frame.acc = f / 2) ∧
    (r.target = none →
      t.frame.firstTake = false ∧ t.frame.fin = none ∧ t.frame.acc = 0 ∧
      ∀ b, t.buffer b = if (s.buffer b).state = .ready ∨ (s.buffer b).state = .showing then Buffer.free else s.buffer b) ∧
    (s.cabinet.holdStyle = true ∨ s.cabinet.videoFade = 0 ∨ s.pic.level = 256 → t.pic.level = 256 ∧ t.pic.fade = none) ∧
    (s.cabinet.holdStyle = false → s.cabinet.videoFade ≠ 0 → s.pic.level ≠ 256 →
      t.pic.level = s.pic.level ∧ t.pic.fade = some ⟨true, s.cabinet.videoFade, s.pic.level, s.now, 0⟩) ∧
    (s.cabinet.audioFade = 0 ∨ s.snd.gain = 256 → t.snd.gain = 256 ∧ t.snd.fade = none) ∧
    (s.cabinet.audioFade ≠ 0 → s.snd.gain ≠ 256 →
      t.snd.gain = s.snd.gain ∧ t.snd.fade = some ⟨true, s.cabinet.audioFade, s.snd.gain, s.now, 0⟩) ∧
    SameOutside [.co, .frame, .pic, .snd] s t) ∧
  ∀ (r : Record) (s : State),
    let t := grant r s
    let lost (n : Slot) := (s.monitor n.source).state = .seeking ∨ (s.monitor n.source).state = .dark
    t.co.current = r.target ∧ t.co.pending = none ∧
    (s.link.mask.at 0 = true → s.co.pending = none → (∀ n, r.target = some n → lost n →
        (s.profile n).general.recoveryLimit ≠ 0) →
      ∃ e ∈ t.link.notices, ∃ d, e.notice = .changeoverDone d ∧ d.outcome = .done ∧ d.tag = r.tag ∧
        d.source = r.source ∧ d.target = r.target ∧ d.resume = r.resume) ∧
    (∀ n, r.target = some n → (t.slot n).parkedSig = none ∧ (∀ m, m ≠ n → t.slot m = s.slot m) ∧
      (s.counters.freeze = false → t.counter (selectedCount n) = (s.counter (selectedCount n)).bump s.counters.saturate)) ∧
    (∀ q, s.co.pending = some q → ∃ r', t.co.record = some r' ∧ r'.tag = q.tag ∧ r'.target = q.target ∧
      r'.source = r.target ∧ r'.phase = .quiesce) ∧
    (s.co.pending = none →
      (r.target = none ∨ s.router.linkHold = true → t.router.owner = .link) ∧
      (∀ n, r.target = some n → s.router.linkHold = false → (lost n → (s.profile n).general.recoveryLimit ≠ 0) →
        ((s.slot n).state = .live → t.router.owner = .slot n ∧ t.router.claim = none ∧
          t.router.playTimer = some (s.now + 27000000) ∧
          t.router.grantMask = Vector.ofFn fun k : Line => s.router.debounced.get ⟨k.val, by omega⟩) ∧
        ((s.slot n).state ≠ .live → t.router.owner = .none ∧ t.router.claim = some n)) ∧
      (∀ n, r.target = some n →
        t.router.workingMap = (s.profile n).controls.toList.flatten ∧ t.router.fourWay = (s.profile n).general.fourWay ∧
        (¬lost n → t.co.record = none ∧ t.co.watch = s.co.watch) ∧
        (lost n → (s.profile n).general.recoveryLimit ≠ 0 →
          t.co.record = none ∧ t.frame.hold = true ∧
          t.co.watch = .running (s.now + 27000 * (s.profile n).general.recoveryLimit)) ∧
        (lost n → (s.profile n).general.recoveryLimit = 0 →
          ∃ r', t.co.record = some r' ∧ r'.tag = 0 ∧ r'.target = none ∧ r'.source = some n ∧
            r'.reason = some .lostSignal)) ∧
      (r.target = none → t.co.record = none ∧ t.router.workingMap = [] ∧ t.router.fourWay = Tab.all 4 false))

/-- R84, R95, R96: the lock limit's expiry in LOCK fails the changeover with LOCK_TIMEOUT; the recovery watch's expiry
starts a changeover to standby with reason LOST_SIGNAL and tag 0; either then goes through the phases whose ends have
come. A timer that does not run expires to no effect (the model's choice, log 23). The watch runs with no changeover in
flight, and that the way to standby stops it is the model's reading (log 25). What the controller's own requests make
the other blocks report, it does not take (the model's reading, log 16).
R83 to R86 and R88: what the controller makes of a report of `to` in WAKE, LOCK, RETIME and REVEAL: LIVE ends WAKE,
FAULT and EMPTY fail the changeover, a lock in LOCK is judged, the check's field gives CLEAN or CHANGED and ends LOCK, a
loss while shown holds the picture until the signal fits again (which fixes no placement anew, the model's choice, log
60). R95 to R98: the loss of the current board: its signal gone, the picture is held and the recovery watch runs; its
signal back, the watch ends where it fits and standby follows where it does not; LIVE again with a fitting lock, the
watch ends for a recovery limit of 0 too (the model's choice, log 56); its power gone, standby follows; while it is
paused its monitor is not heard. -/
def Obligations.LockLimitAndRecoveryWatchExpire : Prop :=
  (∀ s : State, s.powered = true →
    (∀ r t, s.co.record = some r → r.phase = .lock → r.lockLimit = some t →
      exec .lockLimitExpiry s = .next (conclude (conduct (fail r .lockTimeout { s with now := max s.now t })))) ∧
    (∀ r, s.co.record = some r → r.lockLimit = none → exec .lockLimitExpiry s = .next (conclude s)) ∧
    (∀ t, s.co.record = none → s.co.watch = .running t →
      exec .recoveryWatchExpiry s = .next (conclude (conduct (startChangeover ⟨0, none, false, some .lostSignal⟩
        { s with now := max s.now t, co := { s.co with watch := .stopped } })))) ∧
    (s.co.watch = .stopped ∨ s.co.watch = .waitingLive → exec .recoveryWatchExpiry s = .next (conclude s)) ∧
    ∀ t r, s.co.record = none → s.co.watch = .running t → s.co.current = some r → s.cabinet.audioFade ≠ 0 → s.snd.gain ≠ 0 →
      ∃ u r', exec .recoveryWatchExpiry s = .next (conclude u) ∧ u.co.record = some r' ∧ r'.phase = .quiesce ∧
        r'.tag = 0 ∧ r'.source = some r ∧ r'.target = none ∧ r'.reason = some .lostSignal ∧ u.co.current = some r ∧
        u.co.watch = .stopped ∧
        SameOutside [.now, .link, .co, .frame, .pic, .snd, .router, .coins, .reports] s u) ∧
  (∀ (r : Record) (n : Slot) (old : SlotState) (cause : SlotCause) (sig : Word16) (s : State),
    s.co.record = some r → r.target = some n →
    let told (rep : Report) : State := onReport s rep
    let gives (rep : Report) (t : State) : Prop := told rep = { t with reports := [] }
    let monitor (st : MonState) : Report := .monitor n.source st
    (r.phase = .wake ∨ r.phase = .lock ∨ r.phase = .retime ∨ r.phase = .reveal →
      gives (.slot n old .fault cause) (fail r .powerFault s) ∧ gives (.slot n old .empty cause) (fail r .noBoard s) ∧
      gives (monitor .weak) s) ∧
    (r.phase = .wake →
      gives (.slot n old .live cause) (endWake r n s) ∧ gives (.dipFailed n) (fail r .dipMismatch s)) ∧
    (r.phase = .lock →
      gives (monitor .locked) (judgeLock r n s) ∧
      (r.lockSeen = true → gives (monitor .dark) (fail r .lostSignal s) ∧
        (s.frame.writer = some n → (told (monitor .seeking)).frame.writer = none ∧
          (told (monitor .seeking)).co = s.co)) ∧
      (r.lockSeen = false → gives (monitor .dark) s ∧ gives (monitor .seeking) s) ∧
      (r.checkApplies = true → s.frame.writer = some n → s.co.pending = none → (decision n s).isSome = true →
        ∃ r', (told (.ready n sig)).co.record = some r' ∧ r'.phase = .retime ∧ r'.tag = r.tag ∧
          r'.resume = if (s.slot n).parkedSig = some sig then .clean else .changed)) ∧
    (r.phase = .retime ∨ r.phase = .reveal →
      gives (monitor .dark) (fail r .lostSignal s) ∧
      (let t := told (monitor .seeking);
        t.frame = { s.frame with hold := true } ∧
        (∃ r', t.co = { s.co with record := some r' } ∧ r'.phase = r.phase ∧ r'.sawSeeking = true) ∧
        SameOutside [.co, .frame, .reports] s t) ∧
      (r.sawSeeking = true → fits n s = true →
        let t := told (monitor .locked)
        t.frame = { s.frame with hold := false } ∧ SameOutside [.co, .frame, .reports] s t) ∧
      (r.sawSeeking = true → fits n s = false → gives (monitor .locked) (fail r .classMismatch s)) ∧
      (r.sawSeeking = false → gives (monitor .locked) s))) ∧
  ∀ (n : Slot) (old : SlotState) (cause : SlotCause) (s : State), s.co.record = none → s.co.current = some n →
    let told (rep : Report) : State := onReport s rep
    let monitor (st : MonState) : State := told (.monitor n.source st)
    let toStandby (why : Reason) (t : State) : Prop :=
      t.co.watch = .stopped ∧ t.co.current = some n ∧ ∃ r, t.co.record = some r ∧ r.phase = .quiesce ∧ r.tag = 0 ∧
        r.source = some n ∧ r.target = none ∧ r.reason = some why
    let held (t : State) : Prop := t.frame = { s.frame with hold := true } ∧ SameOutside [.co, .frame, .reports] s t
    let ended (t : State) : Prop :=
      t.co = { s.co with watch := .stopped } ∧ t.frame.hold = false ∧
      (∀ f, s.frame.reader = some n → (s.monitor n.source).fref = some f →
        t.frame.fin = some f ∧ t.frame.acc = f / 2)
    toStandby .powerFault (told (.slot n old .fault cause)) ∧ toStandby .powerFault (told (.slot n old .empty cause)) ∧
    toStandby .lostSignal (told (.dipFailed n)) ∧
    (isPaused n s = true → ∀ src st, told (.monitor src st) = { s with reports := [] }) ∧
    (isPaused n s = false →
      monitor .weak = { s with reports := [] } ∧
      (s.co.watch = .stopped → (s.profile n).general.recoveryLimit ≠ 0 →
        let watched : Controller :=
          { s.co with watch := .running (s.now + 27000 * (s.profile n).general.recoveryLimit) }
        held (monitor .seeking) ∧ (monitor .seeking).co = watched ∧ held (monitor .dark) ∧
          (monitor .dark).co = watched) ∧
      (s.co.watch = .stopped → (s.profile n).general.recoveryLimit = 0 →
        toStandby .lostSignal (monitor .seeking) ∧ toStandby .lostSignal (monitor .dark)) ∧
      (∀ t, s.co.watch = .running t →
        monitor .seeking = { s with reports := [] } ∧ monitor .dark = { s with reports := [] } ∧
        (fits n s = true → ended (monitor .locked) ∧ SameOutside [.co, .frame, .reports] s (monitor .locked)) ∧
        (fits n s = false → toStandby .lostSignal (monitor .locked)))) ∧
    (let t := told (.slot n old .frozen .pause);
      t.frame.hold = true ∧ t.frame.writer = none ∧ t.co = { s.co with watch := .stopped } ∧
      SameOutside [.link, .co, .frame, .pic, .reports] s t) ∧
    (∀ (again : Bool), (again = true → s.co.watch = .waitingLive ∧ cause ≠ .pauseEnd) → (again = false → cause = .pauseEnd) →
      let g := (s.profile n).general
      let limit := if again then g.recoveryLimit else g.lockLimit
      let t := told (.slot n old .live cause)
      (lockedAndFits n s = true → t.frame.writer = some n ∧ ended t) ∧
      (lockedAndFits n s = false → limit ≠ 0 →
        t.frame.writer = some n ∧ t.frame.hold = s.frame.hold ∧
        t.co = { s.co with watch := .running (s.now + 27000 * limit) } ∧
        SameOutside [.link, .co, .frame, .pic, .reports] s t))

/-! ### Frame store, output timing, picture and sound (R100 to R141) -/

/-- R107, R113 to R116, R125, R128: an output field start in PACE while the reader does not act (blank or hold set, or
nothing revealed), with no changeover in flight. The next start lies one field period later; the fade takes its step;
black is shown under blank, the SHOWING buffer (else standby) under hold, standby when nothing is revealed; and
everything the conditioner uses is fixed for the field. A held buffer's placement is that of its own source slot's
latest decision (the model's reading, log 26).
R117: the output decision for a slot, CLASS_MISMATCH being none, and for standby. R118: when a decision needs a retime.
R119: a signal that fits, and one that is acceptable. -/
def Obligations.OutputFieldStartFixesTheField : Prop :=
  (∀ (n : Slot) (s : State),
    let m := s.monitor n.source
    let home := s.cabinet.homeClass
    let expected := (s.profile n).general.expectedClass
    (m.state = .seeking ∨ m.state = .dark → decision n s = none) ∧
    (∀ (f : Nat) (cls : OutClass), m.state = .locked ∨ m.state = .weak → m.fref = some f →
      (m.cls = .low ∧ cls = .low) ∨ (m.cls = .medium ∧ cls = .medium) ∨ (m.cls = .high ∧ cls = .high) →
      let rate := (2700000000 + f / 2) / f
      let follows : Prop := s.cabinet.multisync = true ∧ (s.profile n).picture.follow = true ∧
        s.cabinet.followMin ≤ rate ∧ rate ≤ s.cabinet.followMax
      (expected ≠ none → expected ≠ some cls → decision n s = none) ∧
      (expected = none ∨ expected = some cls →
        (follows → decision n s = some ⟨true, cls, some n, false⟩) ∧
        (¬follows → cls = home → decision n s = some ⟨false, home, none, false⟩) ∧
        (¬follows → cls = .low → home = .high → decision n s = some ⟨false, .high, none, true⟩) ∧
        (¬follows → cls ≠ home → ¬(cls = .low ∧ home = .high) → decision n s = none))) ∧
    decisionFor (some n) s = decision n s ∧ decisionFor none s = some ⟨false, home, none, false⟩ ∧
    (acceptable n s = true ↔ decision n s ≠ none) ∧
    (fits n s = true ↔ ∃ d, decision n s = some d ∧ needsRetime d s = false)) ∧
  (∀ (d : Decision) (s : State),
    (d.pass = false → (needsRetime d s = true ↔ s.out.pass = true ∨ d.cls ≠ s.out.cls)) ∧
    ∀ n f, d.pass = true → d.slaved = some n → (s.monitor n.source).fref = some f →
      (needsRetime d s = true ↔
        s.out.pass = false ∨ d.cls ≠ s.out.cls ∨ s.out.fout / 128 < ((f : Int) - s.out.fout).natAbs)) ∧
  ∀ s : State, s.powered = true → Settled s → s.out.pass = false →
    s.frame.blank = true ∨ s.frame.hold = true ∨ s.frame.reader = none →
    ∃ u, exec .outputFieldStart s = .next (conclude u) ∧
      let now := max s.now s.out.nextStart
      u.now = now ∧ u.out = { s.out with nextStart := now + s.out.fout } ∧
      (s.pic.fade = none → u.pic.level = s.pic.level ∧ u.pic.fade = none) ∧
      (∀ f, s.pic.fade = some f →
        let moved := 256 * (now - f.start) / (27000 * f.duration)
        u.pic.level = (if f.rising then min 256 (f.f0 + moved) else f.f0 - moved) ∧
        (u.pic.fade = none ↔ u.pic.level = if f.rising then 256 else 0)) ∧
      (s.frame.blank = true → u.pic.field.shown = .black) ∧
      (s.frame.blank = false → s.frame.hold = true → (∀ b, (s.buffer b).state ≠ .showing) →
        u.pic.field.shown = .standby) ∧
      (∀ b n q, s.frame.blank = false → s.frame.hold = true → (s.buffer b).state = .showing →
        (∀ c, (s.buffer c).state = .showing → c = b) → (s.buffer b).source = some n → (s.buffer b).seq = some q →
        u.pic.field.shown = .buffer n q (s.buffer b).window (s.buffer b).lines ∧
        u.pic.field.colours = (s.profile n).picture.colours ∧ u.pic.field.placement = s.frame.placements.at n) ∧
      (s.frame.blank = false → s.frame.hold = false → u.pic.field.shown = .standby) ∧
      u.pic.field.fade = u.pic.level ∧ u.pic.field.pass = false ∧ u.pic.field.cls = s.out.cls ∧
      u.pic.field.lineCount = s.out.lineCount ∧ u.pic.field.overlay = s.pic.overlay ∧
      u.pic.field.menuPresent = s.pic.menuPresent ∧ u.pic.field.standbyColour = s.cabinet.standbyColour ∧
      u.pic.dim = (if s.pic.dimmed then s.cabinet.dimLevel else 256) ∧ u.pic.field.dim = u.pic.dim ∧
      u.pic.overlay = s.pic.overlay ∧ u.pic.watched = s.pic.watched ∧ u.pic.stillTimer = s.pic.stillTimer ∧
      SameOutside [.now, .out, .pic] s u

/-- R109 to R111 and R116: the reader, revealed on the slot the writer is enabled on, its first take made. In PACE the
accumulator gains Fout and gives up one Fin per input field to advance by. Below Fin the shown field stays; past it the
READY buffer next in sequence is shown and the old one freed, and past twice Fin the one after that; with the target
missing the newest READY buffer is shown (late), and with none READY FRAMES_REPEATED (counter 66) counts, the
accumulator then standing at floor(Fin/2). In PASS the newest READY buffer newer than the one shown is shown, with none
FRAMES_REPEATED counts, the accumulator is left alone, and Fout is the slaved source's Fref. A buffer shown frees the
one before it and every READY buffer older than it.
R108: the first take after a reveal takes the newest READY buffer of the reader source, and none where there is none.
R107: with the writer elsewhere the reader coasts. R85 and R87: while a changeover to the reader source is on its way to
REVEAL, as in a return to `from`, it takes no buffer either and coasts (the model's reading, log 53). -/
def Obligations.PacingFollowsTheAccumulator : Prop :=
  (∀ (n : Slot) (s : State), s.powered = true → Settled s → s.frame.blank = false → s.frame.hold = false →
    s.frame.reader = some n →
    let takesNone : Prop :=
      ∃ u, exec .outputFieldStart s = .next (conclude u) ∧ u.frame = { s.frame with fin := u.frame.fin } ∧
        SameOutside [.now, .link, .frame, .out, .pic, .snd] s u
    (s.frame.firstTake = false → s.frame.writer ≠ some n → takesNone) ∧
    (s.frame.firstTake = true → (∀ b, (s.buffer b).state = .ready → (s.buffer b).source ≠ some n) → takesNone) ∧
    ∀ b x, s.frame.firstTake = true → (s.buffer b).state = .ready → (s.buffer b).source = some n →
      (s.buffer b).seq = some x →
      (∀ d, d ≠ b → (s.buffer d).state = .ready → ∃ y, (s.buffer d).seq = some y ∧
        1 ≤ (x - y).toNat ∧ (x - y).toNat ≤ 32767) →
      ∃ u, exec .outputFieldStart s = .next (conclude u) ∧ u.buffer b = { s.buffer b with state := .showing } ∧
        (∀ d, d ≠ b → (s.buffer d).state = .showing ∨ (s.buffer d).state = .ready → (u.buffer d).state = .free) ∧
        (∀ d, d ≠ b → (s.buffer d).state = .filling → u.buffer d = s.buffer d) ∧
        u.frame.firstTake = false ∧ u.frame.acc = s.frame.acc ∧
        SameOutside [.now, .link, .frame, .out, .pic, .snd] s u) ∧
  (∀ (n : Slot) (r : Record) (s : State), s.powered = true → s.reports = [] → s.co.record = some r →
    r.target = some n → s.frame.reader = some n →
    r.phase = .wake ∨ r.phase = .lock ∨
      (r.phase = .retime ∧ (s.out.settle ≠ none ∨ (s.monitor n.source).state ≠ .locked)) →
    ∃ u, exec .outputFieldStart s = .next (conclude u) ∧ u.frame = { s.frame with fin := u.frame.fin } ∧
      SameOutside [.now, .link, .frame, .out, .pic, .snd] s u) ∧
  (∀ (n : Slot) (fin : Nat) (c : Fin 3) (q : Word16) (s : State), s.powered = true → Settled s → s.out.pass = false →
      s.frame.blank = false → s.frame.hold = false → s.frame.reader = some n → s.frame.writer = some n →
      s.frame.firstTake = false → (s.monitor n.source).fref = some fin → 0 < fin →
      (s.buffer c).state = .showing → (∀ d, (s.buffer d).state = .showing → d = c) → (s.buffer c).seq = some q →
      ∃ u, exec .outputFieldStart s = .next (conclude u) ∧ u.frame.fin = some fin ∧
        u.frame.writer = some n ∧ u.frame.reader = some n ∧ u.frame.nextSeq = s.frame.nextSeq ∧
        (s.frame.acc + s.out.fout < fin →
          u.frame.buffers = s.frame.buffers ∧ u.frame.acc = s.frame.acc + s.out.fout ∧ u.counters = s.counters) ∧
        (∀ b, fin ≤ s.frame.acc + s.out.fout → s.frame.acc + s.out.fout < 2 * fin → (s.buffer b).state = .ready →
          (s.buffer b).source = some n → (s.buffer b).seq = some (q + 1) →
          (∀ d, (s.buffer d).state = .ready → (s.buffer d).seq = some (q + 1) → d = b) →
          u.buffer b = { s.buffer b with state := .showing } ∧ (u.buffer c).state = .free ∧
          u.frame.acc = s.frame.acc + s.out.fout - fin ∧ u.counters = s.counters) ∧
        (fin ≤ s.frame.acc + s.out.fout → (∀ b, (s.buffer b).state ≠ .ready) →
          u.frame.buffers = s.frame.buffers ∧ u.frame.acc = fin / 2 ∧
          u.counters = (increment 66 s).counters) ∧
        SameOutside [.now, .link, .counters, .frame, .out, .pic] s u) ∧
  (∀ (n : Slot) (fin : Nat) (c b : Fin 3) (q x : Word16) (s : State), s.powered = true → Settled s → s.out.pass = false →
    s.frame.blank = false → s.frame.hold = false → s.frame.reader = some n → s.frame.writer = some n →
    s.frame.firstTake = false → (s.monitor n.source).fref = some fin → 0 < fin →
    (s.buffer c).state = .showing → (∀ d, (s.buffer d).state = .showing → d = c) → (s.buffer c).seq = some q →
    (s.buffer b).state = .ready → (s.buffer b).source = some n → (s.buffer b).seq = some x →
    (∀ d, d ≠ b → (s.buffer d).state = .ready → ∃ y, (s.buffer d).seq = some y ∧
      1 ≤ (x - y).toNat ∧ (x - y).toNat ≤ 32767) →
    fin ≤ s.frame.acc + s.out.fout →
    let k := (s.frame.acc + s.out.fout) / fin
    let onTime : Prop := x = q + BitVec.ofNat 16 k
    let late : Prop := 1 ≤ (x - q).toNat ∧ (x - q).toNat ≤ 32767 ∧
      ∀ d, (s.buffer d).state = .ready → (s.buffer d).source = some n → (s.buffer d).seq ≠ some (q + BitVec.ofNat 16 k)
    onTime ∨ late →
    ∃ u, exec .outputFieldStart s = .next (conclude u) ∧
      u.buffer b = { s.buffer b with state := .showing } ∧ (u.buffer c).state = .free ∧
      (∀ d, d ≠ b → (s.buffer d).state = .ready → (u.buffer d).state = .free) ∧
      (onTime → u.frame.acc = (s.frame.acc + s.out.fout) % fin) ∧ (late → u.frame.acc = fin / 2) ∧
      SameOutside [.now, .link, .frame, .out, .pic] s u) ∧
  ∀ (n : Slot) (c : Fin 3) (q : Word16) (s : State), s.powered = true → Settled s → s.out.pass = true →
    s.frame.blank = false → s.frame.hold = false → s.frame.reader = some n → s.frame.writer = some n →
    s.frame.firstTake = false →
    (s.buffer c).state = .showing → (∀ d, (s.buffer d).state = .showing → d = c) → (s.buffer c).seq = some q →
    ∃ u, exec .outputFieldStart s = .next (conclude u) ∧ u.frame.acc = s.frame.acc ∧
      (∀ m f, s.out.slaved = some m → (s.monitor m.source).fref = some f → u.out.fout = f) ∧
      (∀ m, s.out.slaved = some m → (s.monitor m.source).fref = none → u.out.fout = s.out.fout) ∧
      u.out.nextStart = max s.now s.out.nextStart + u.out.fout ∧
      (∀ b x, (s.buffer b).state = .ready → (s.buffer b).source = some n → (s.buffer b).seq = some x →
        1 ≤ (x - q).toNat → (x - q).toNat ≤ 32767 →
        (∀ d, d ≠ b → (s.buffer d).state = .ready → ∃ y, (s.buffer d).seq = some y ∧
          1 ≤ (x - y).toNat ∧ (x - y).toNat ≤ 32767) →
        u.buffer b = { s.buffer b with state := .showing } ∧ (u.buffer c).state = .free ∧
        (∀ d, d ≠ b → (s.buffer d).state = .ready → (u.buffer d).state = .free) ∧ u.counters = s.counters) ∧
      ((∀ b, (s.buffer b).state ≠ .ready) →
        u.frame.buffers = s.frame.buffers ∧ u.counters = (increment 66 s).counters) ∧
      SameOutside [.now, .link, .counters, .frame, .out, .pic, .snd] s u

/-- R118, R120, R135 and R139: the other timers of the picture and sound, with no changeover in flight. A settle's end
stops the timer and clears blank when the start-up decision began it; an audio fade's step moves the gain by whole
milliseconds since its request and is complete at its target; a still timer's expiry dims the picture, counts
STILL_DIMS of the watched slot and posts OUTPUT. A timer that does not run expires to no effect (the model's choice, log
23). R137: the speaker sample, from the board's sample under the gain and the duck and the menu's under its level; it
lies in 16 bits, and with a board source at full gain, no duck and a silent menu it is the board's sample. -/
def Obligations.PictureAndSoundTimersExpire : Prop :=
  (∀ s : State, s.powered = true → Settled s →
      (s.out.settle = none → exec .settleExpiry s = .next (conclude s)) ∧
      (∀ t, s.out.settle = some t → exec .settleExpiry s = .next (conclude { s with
        now := max s.now t
        out := { s.out with settle := none, startMark := false }
        frame := if s.out.startMark then { s.frame with blank := false } else s.frame })) ∧
      (s.snd.fade = none → exec .audioFadeStep s = .next (conclude s)) ∧
      (∀ f, s.snd.fade = some f →
        let e := f.steps + 1
        let g := if f.rising then min 256 (f.f0 + 256 * e / f.duration) else f.f0 - 256 * e / f.duration
        exec .audioFadeStep s = .next (conclude { s with
          now := max s.now (f.start + 27000 * e)
          snd := { s.snd with
            gain := g, fade := if g = (if f.rising then 256 else 0) then none else some { f with steps := e } } })) ∧
      (s.pic.stillTimer = none → exec .stillTimerExpiry s = .next (conclude s)) ∧
      ∀ t, s.pic.stillTimer = some t →
        ∃ u, exec .stillTimerExpiry s = .next (conclude u) ∧ u.now = max s.now t ∧
          u.pic = { s.pic with stillTimer := none, dimmed := true, dim := s.cabinet.dimLevel } ∧
          (∀ n, s.pic.watched = some n → u.counters = (increment (stillDims n) s).counters) ∧
          (s.pic.watched = none → u.counters = s.counters) ∧
          (s.link.mask.at 8 = true → ∃ e ∈ u.link.notices, e.notice = .output true s.out.pass s.out.cls true) ∧
          SameOutside [.now, .link, .counters, .pic] s u) ∧
  ∀ (s : State) (board menu : Int),
    let p := if s.snd.source = none then 0 else (board * s.snd.gain + 128) / 256
    let q := (p * (if s.snd.ducked then s.cabinet.duckLevel else 256 : Nat) + 128) / 256
    let r := (menu * s.cabinet.menuAudio + 128) / 256
    speakerSample s board menu = (if q + r < -32768 then -32768 else if 32767 < q + r then 32767 else q + r) ∧
    -32768 ≤ speakerSample s board menu ∧ speakerSample s board menu ≤ 32767 ∧
    (s.snd.source ≠ none → s.snd.gain = 256 → s.snd.ducked = false → s.cabinet.menuAudio = 0 →
      -32768 ≤ board → board ≤ 32767 → speakerSample s board menu = board)

/-- R133 and R140: OVERLAY replaces the overlay settings together and judges the duck afresh; an enable other than 0 or
1 is BAD_FIELD 0, an alpha above 256 BAD_FIELD 10. -/
def Obligations.OverlayIsReplaced : Prop :=
  ∀ (dt : Nat) (tag en mr mg mb nr ng nb xr xg xb lo hi : Byte) (s : State) (b : List Place),
    let p := [en, mr, mg, mb, nr, ng, nb, xr, xg, xb, lo, hi]
    let alpha := lo.toNat + 256 * hi.toNat
    Turn 0x1C tag p s b →
    (en.toNat ≤ 1 → alpha ≤ 256 →
      exec (.overlay dt tag p) s = .next (conclude { s with
        now := s.now + dt
        link := s.link.replied b ⟨0x1C, tag, .ok, []⟩
        pic := { s.pic with overlay := ⟨decide (en = 1), ⟨mr, mg, mb⟩, ⟨nr, ng, nb⟩, ⟨xr, xg, xb⟩, alpha⟩ }
        snd := { s.snd with ducked := decide (en = 1) && s.pic.menuPresent } })) ∧
    (1 < en.toNat → exec (.overlay dt tag p) s = .next (conclude (s.justReplied dt b ⟨0x1C, tag, .badField 0, []⟩))) ∧
    (en.toNat ≤ 1 → 256 < alpha →
      exec (.overlay dt tag p) s = .next (conclude (s.justReplied dt b ⟨0x1C, tag, .badField 10, []⟩)))

/-- R125 to R132: with a fade level, dim and alpha of at most 256, as the rules keep them, every output pixel's three
components lie within 0 to 255, whatever the colour settings and samples; black is shown as 0; and with the unit matrix,
the factory gamma, level 256, dim 256 and no overlay a board sample is shown unchanged up to 224 in each channel. -/
def Obligations.PixelsStayInRange : Prop :=
  (∀ (f : OutField) (menu : RGB) (x y : Nat), f.fade ≤ 256 → f.dim ≤ 256 → f.overlay.alpha ≤ 256 →
    (f.pixel menu x y).r ≤ 255 ∧ (f.pixel menu x y).g ≤ 255 ∧ (f.pixel menu x y).b ≤ 255) ∧
  (∀ (f : OutField) (menu : RGB) (x y : Nat), f.shown = .black → f.pixel menu x y = ⟨0, 0, 0⟩) ∧
  ∀ c : RGB, c.r.toNat ≤ 224 → c.g.toNat ≤ 224 → c.b.toNat ≤ 224 →
    ((colourPath factoryColours c).map (fadeScale · 256)).map (dimScale · 256) = pixelOf c

/-! ### Control routing (R142 to R156) -/

/-- R142 and R143: a raw level that changes starts the input's debounce timer toward it, or stops the timer when it
returns to the debounced state; at its expiry the debounced state takes the level. A START going active counts for the
owner slot; while the owner is LINK the change is latched and INPUT posted; a coin input going active starts its chute's
pulse. R150: a direction going active joins the tail of its player's direction order, and one going inactive is removed
from it. R154: the second of the named chord's inputs to go active starts the chord timer while the chord is armed, and
either going inactive stops it and arms the chord. R159: at a JAMMED chute a release starts the jam timer toward 2,000
ms and a press stops it. R158, R161, R162, R164, R173: at the release of a coin input the coin is judged by the width of
its pulse: too short or too long it is rejected and counted; otherwise it is accepted: its value joins the accepted
total, a tick is owed to its meter (UNMETERED counts at 255), and its units join the current slot's queue on a direct
coin path, as far as there is room, and the bank otherwise, what the bank cannot hold being drained. A part without
power keeps the raw level and nothing else (the model's choice, log 9); a debounce timer that does not run expires to no
effect (the model's choice, log 23). -/
def Obligations.InputsAreDebounced : Prop :=
  ∀ (dt : Nat) (i : Input) (closed : Bool) (s : State),
    (s.powered = false → exec (.rawInputChange dt i closed) s =
      .next { s with router := { s.router with raw := s.router.raw.put i closed } }) ∧
    (s.powered = true →
      (s.router.raw.at i = closed → exec (.rawInputChange dt i closed) s =
        .next (conclude { s with now := s.now + dt })) ∧
      (s.router.raw.at i ≠ closed → exec (.rawInputChange dt i closed) s = .next (conclude { s with
        now := s.now + dt
        router := { s.router with
          raw := s.router.raw.put i closed
          timers := s.router.timers.put i (if closed = s.router.debounced.at i then none
            else some ⟨s.now + dt + 27000 * s.cabinet.debounce, closed⟩) } })) ∧
      (s.router.timers.at i = none → exec (.debounceExpiry i) s = .next (conclude s)) ∧
      ∀ t, s.router.timers.at i = some t →
        ∃ u, exec (.debounceExpiry i) s = .next (conclude u) ∧ u.now = max s.now t.expiry ∧
          u.router.debounced = s.router.debounced.put i t.target ∧ u.router.timers = s.router.timers.put i none ∧
          u.router.raw = s.router.raw ∧ u.router.owner = s.router.owner ∧ u.router.workingMap = s.router.workingMap ∧
          (s.router.owner = .link → u.router.latch = s.router.latch.put i true ∧
            (s.link.mask.at 3 = true →
              ∃ e ∈ u.link.notices, e.notice = .input u.router.debounced u.router.latch)) ∧
          (s.router.owner ≠ .link → u.router.latch = s.router.latch) ∧
          (∀ n, s.router.owner = .slot n → t.target = true → i.val < 52 ∧ i.val % 13 = 12 →
            u.counters = (increment (starts n) s).counters) ∧
          (t.target = false → ∀ l : Line, l.val = i.val → u.router.grantMask.at l = false) ∧
          (∀ (p : Player) (q : Nat) (d : Dir), i.val = 13 * p.val + q →
            (q = 0 ∧ d = .up ∨ q = 1 ∧ d = .down ∨ q = 2 ∧ d = .left ∨ q = 3 ∧ d = .right) →
            u.router.order = s.router.order.put p
              (((s.router.order.at p).filter fun e => e != d) ++ if t.target then [d] else [])) ∧
          (52 ≤ i.val ∨ 4 ≤ i.val % 13 → u.router.order = s.router.order) ∧
          (let chordKept : Prop :=
              u.router.chordTimer = s.router.chordTimer ∧ u.router.chordArmed = s.router.chordArmed;
            (s.cabinet.chord = none → chordKept) ∧
            ∀ a b : Line, s.cabinet.chord = some (a, b) →
              (i.val ≠ a.val → i.val ≠ b.val → chordKept) ∧
              (i.val = a.val ∨ i.val = b.val →
                let held : Prop := ∀ j : Input, j.val = a.val ∨ j.val = b.val → u.router.debounced.at j = true;
                (t.target = false → u.router.chordTimer = none ∧ u.router.chordArmed = true) ∧
                (t.target = true → held → s.router.chordArmed = true →
                  u.router.chordTimer = some (u.now + 27000 * s.cabinet.chordTime) ∧ u.router.chordArmed = true) ∧
                (t.target = true → ¬held ∨ s.router.chordArmed = false → chordKept))) ∧
          (i = 59 → t.target = true → s.link.mask.at 4 = true → ∃ e ∈ u.link.notices, e.notice = .menuCall false) ∧
          (i.val < 55 ∨ i.val = 59 → u.coins = s.coins) ∧
          (∀ c : Chute, i.val = 55 + c.val → t.target = true → (s.chute c).state = .ready →
            u.coins = { s.coins with chutes := s.coins.chutes.put c { s.chute c with
              state := .inPulse u.now, jamTimer := some (u.now + 27000000) } }) ∧
          (∀ c : Chute, i.val = 55 + c.val → (s.chute c).state = .jammed →
            u.coins = { s.coins with chutes := s.coins.chutes.put c { s.chute c with
              jamTimer := if t.target then none else some (u.now + 54000000) } }) ∧
          (∀ (c : Chute) (start : Nat), i.val = 55 + c.val → t.target = false → (s.chute c).state = .inPulse start →
            let w := u.now - start
            let v := s.cabinet.chuteValue.at c
            let said (e : ChuteEvent) : Prop := s.link.mask.at 5 = true →
              ∃ x ∈ u.link.notices, x.notice = .chute c 0 e (u.chute c).reasons
            let turned : Coins := { s.coins with
              chutes := s.coins.chutes.put c { s.chute c with state := .ready, jamTimer := none } }
            (u.chute c).state = .ready ∧ (u.chute c).jamTimer = none ∧ (u.chute c).hostLock = (s.chute c).hostLock ∧
            (w < 27000 * s.cabinet.chuteMin.at c →
              u.coins = turned ∧ u.counters = (increment (chuteRejected c) s).counters ∧ said .rejectedShort) ∧
            (27000 * s.cabinet.chuteMin.at c ≤ w → 27000 * s.cabinet.chuteMax.at c < w →
              u.coins = turned ∧ u.counters = (increment (chuteRejected c) s).counters ∧ said .rejectedLong) ∧
            (27000 * s.cabinet.chuteMin.at c ≤ w → w ≤ 27000 * s.cabinet.chuteMax.at c → s.coins.bank ≤ 65535 →
              said .accepted ∧ u.coins.accepted = s.coins.accepted + BitVec.ofNat 32 v ∧
              (s.counters.freeze = false →
                u.counter (chuteAccepted c) = (s.counter (chuteAccepted c)).bump s.counters.saturate) ∧
              (∀ m, s.cabinet.chuteMeter.at c ≠ some m → u.meter m = s.meter m) ∧
              (∀ m, s.cabinet.chuteMeter.at c = some m →
                (255 ≤ (s.meter m).owed → u.meter m = s.meter m ∧ (s.counters.freeze = false →
                  u.counter (unmetered m) = (s.counter (unmetered m)).bump s.counters.saturate)) ∧
                ((s.meter m).owed < 255 →
                  ((s.meter m).driver = .idle → u.meter m = ⟨(s.meter m).owed, .on (u.now + 1620000)⟩) ∧
                  ((s.meter m).driver ≠ .idle → u.meter m = ⟨(s.meter m).owed + 1, (s.meter m).driver⟩))) ∧
              (let banked (units : Nat) : Prop :=
                u.coins.bank = min 65535 (s.coins.bank + units) ∧
                u.coins.drained = s.coins.drained + BitVec.ofNat 32 (s.coins.bank + units - 65535)
              (∀ (n : Slot) (k : CoinLine), s.co.record = none → s.co.current = some n → s.router.owner = .slot n →
                (s.profile n).coins.direct = true → (s.profile n).coins.chuteMap.at c = some k →
                let room := 32 - (s.queue n).length
                let queue := s.queue n ++ List.replicate (min v room) k
                banked (v - room) ∧ (∀ m, m ≠ n → u.queue m = s.queue m ∧ u.generator m = s.generator m) ∧
                (s.generator n ≠ .idle ∨ queue = [] →
                  u.queue n = queue ∧ u.generator n = s.generator n ∧ u.coins.delivered = s.coins.delivered) ∧
                (∀ line rest, s.generator n = .idle → queue = line :: rest →
                  u.queue n = rest ∧ u.coins.delivered = s.coins.delivered + 1 ∧
                  u.generator n = .on line (u.now + 27000 * (s.profile n).coins.pulseOn)
                    (27000 * (s.profile n).coins.pulseGap))) ∧
              (s.co.record ≠ none ∨ s.co.current = none ∨
                  (∃ n, s.co.current = some n ∧ (s.router.owner ≠ .slot n ∨ (s.profile n).coins.direct = false ∨
                    (s.profile n).coins.chuteMap.at c = none)) →
                banked v ∧ u.coins.delivered = s.coins.delivered ∧
                ∀ m, u.queue m = s.queue m ∧ u.generator m = s.generator m)))) ∧
          SameOutside [.now, .link, .counters, .router, .coins] s u)

/-- R154 and R155: the chord timer's expiry posts MENU_CALL with cause CHORD and disarms the chord; the play timer's
counts PLAY_SECONDS of the owner slot and starts again for a second. Either, not running, expires to no effect (the
model's choice, log 23). -/
def Obligations.ChordAndPlayTimersExpire : Prop :=
  ∀ s : State, s.powered = true →
    (s.router.chordTimer = none → exec .chordTimerExpiry s = .next (conclude s)) ∧
    (∀ t, s.router.chordTimer = some t →
      ∃ u, exec .chordTimerExpiry s = .next (conclude u) ∧ u.now = max s.now t ∧
        u.router = { s.router with chordTimer := none, chordArmed := false } ∧
        (s.link.mask.at 4 = true → ∃ e ∈ u.link.notices, e.notice = .menuCall true) ∧
        SameOutside [.now, .link, .router] s u) ∧
    (s.router.playTimer = none → exec .playTimerExpiry s = .next (conclude s)) ∧
    ∀ t n, s.router.playTimer = some t → s.router.owner = .slot n →
      ∃ u, exec .playTimerExpiry s = .next (conclude u) ∧ u.now = max s.now t ∧
        u.router = { s.router with playTimer := some (max s.now t + 27000000) } ∧
        u.counters = (increment (playSeconds n) s).counters ∧ SameOutside [.now, .link, .counters, .router] s u

/-- R148 and R37: CONTROLS_TAKE. Without freeze the owner becomes LINK with the link hold flag, the claim and grant mask
go, pulses are cut, and a change of owner posts the INPUT snapshot; with both in force already it is ALREADY. With
freeze the LIVE current board is also FROZEN by a pause, its picture held and the writer disabled; ALREADY while it is
paused, WRONG_STATE in any other state, with a changeover in flight or with no current slot. -/
def Obligations.ControlsTakeGivesTheHostTheControls : Prop :=
  ∀ (dt : Nat) (tag : Byte) (s : State) (b : List Place),
    let said (r : Result) := Host.Outcome.next (conclude (s.justReplied dt b ⟨0x0F, tag, r, []⟩))
    let taken (u : State) : Prop :=
      u.link = { s.link.replied b ⟨0x0F, tag, .ok, []⟩ with notices := u.link.notices } ∧ u.now = s.now + dt ∧
      u.router = { s.router with
        owner := .link, linkHold := true, claim := none, grantMask := Tab.all 55 false, playTimer := none } ∧
      (∀ n, s.quiescing n = false → (u.generator n).isOn = false)
    (Turn 0x0F tag [0] s b →
      (s.router.owner = .link → s.router.linkHold = true → exec (.controlsTake dt tag [0]) s = said .already) ∧
      (s.router.owner ≠ .link ∨ s.router.linkHold = false →
        ∃ u, exec (.controlsTake dt tag [0]) s = .next (conclude u) ∧ taken u ∧
          (s.router.owner ≠ .link → s.link.mask.at 3 = true →
            ∃ e ∈ u.link.notices, e.notice = .input s.router.debounced s.router.latch) ∧
          SameOutside [.now, .link, .router, .coins] s u)) ∧
    (Turn 0x0F tag [1] s b →
      (s.co.record ≠ none ∨ s.co.current = none → exec (.controlsTake dt tag [1]) s = said .wrongState) ∧
      ∀ n, s.co.record = none → s.co.current = some n →
        ((s.slot n).state = .frozen → (s.slot n).paused = true → exec (.controlsTake dt tag [1]) s = said .already) ∧
        ((s.slot n).state ≠ .live → ((s.slot n).state = .frozen → (s.slot n).paused = false) →
          exec (.controlsTake dt tag [1]) s = said .wrongState) ∧
        ((s.slot n).state = .live → s.reports = [] →
          ∃ u, exec (.controlsTake dt tag [1]) s = .next (conclude u) ∧ taken u ∧
            (u.slot n).state = .frozen ∧ (u.slot n).paused = true ∧ (∀ m, m ≠ n → u.slot m = s.slot m) ∧
            u.frame.hold = true ∧ u.frame.writer = none ∧ u.co = { s.co with watch := .stopped } ∧
            SameOutside [.now, .link, .slots, .co, .frame, .pic, .router, .coins] s u)) ∧
    ∀ x : Byte, 1 < x.toNat → Turn 0x0F tag [x] s b → exec (.controlsTake dt tag [x]) s = said (.badField 0)

/-- R152 and R37: CONTROLS_GIVE clears the link hold flag. In a changeover the owner becomes NONE; a LIVE current slot
becomes the owner, with the inputs held then masked and the play timer started; a paused one is released and becomes
the owner on entering LIVE; any other current slot has the claim to the controls. R144, R149 to R151: what the boards
see of it: a harness line is driven only under supply, at its active level only for the owner slot and only while an
entry of the working map gives active, its source unmasked and passed by the 4-way step, of which a player's newest held
direction alone passes, and only without its opposite. -/
def Obligations.ControlsGiveReturnsTheControls : Prop :=
  (∀ (dt : Nat) (tag : Byte) (s : State) (b : List Place), Turn 0x10 tag [] s b →
      let said (r : Result) := Host.Outcome.next (conclude (s.justReplied dt b ⟨0x10, tag, r, []⟩))
      let replied (r : Result) (u : State) : Prop :=
        exec (.controlsGive dt tag []) s = .next (conclude u) ∧ u.now = s.now + dt ∧
        u.link = { s.link.replied b ⟨0x10, tag, r, []⟩ with notices := u.link.notices }
      let owned (n : Slot) (u : State) : Prop :=
        u.router = { s.router with
          owner := .slot n, linkHold := false, claim := none, playTimer := some (s.now + dt + 27000000)
          grantMask := Vector.ofFn fun t : Line => s.router.debounced.get ⟨t.val, by omega⟩ }
      let freed : Router :=
        { s.router with owner := .none, linkHold := false, grantMask := Tab.all 55 false, playTimer := none }
      (s.co.record ≠ none →
        (s.router.linkHold = false → s.router.owner = .none → exec (.controlsGive dt tag []) s = said .already) ∧
        (s.router.linkHold = true ∨ s.router.owner ≠ .none → ∃ u, replied .accepted u ∧ u.router = freed ∧
          SameOutside [.now, .link, .router, .coins] s u)) ∧
      (s.co.record = none → s.co.current = none → exec (.controlsGive dt tag []) s = said .wrongState) ∧
      ∀ n, s.co.record = none → s.co.current = some n →
        (s.router.owner = .slot n → exec (.controlsGive dt tag []) s = said .already) ∧
        (s.router.owner ≠ .slot n → (s.slot n).state = .live → ∃ u, replied .ok u ∧ owned n u ∧
          SameOutside [.now, .link, .counters, .router, .coins] s u) ∧
        (s.router.owner ≠ .slot n → (s.slot n).state = .frozen → (s.slot n).paused = true → s.reports = [] →
          lockedAndFits n s = true →
          ∃ u, replied .ok u ∧ owned n u ∧ (u.slot n).state = .live ∧ (u.slot n).paused = false ∧
            (u.slot n).parkedSig = none ∧ u.frame.writer = some n ∧ u.frame.hold = false ∧
            (∀ m, m ≠ n → u.slot m = s.slot m) ∧
            SameOutside [.now, .link, .counters, .slots, .co, .frame, .pic, .router, .coins] s u) ∧
        (s.router.owner ≠ .slot n → (s.slot n).state ≠ .live →
          ((s.slot n).state = .frozen → (s.slot n).paused = false) → ∃ u, replied .accepted u ∧
          u.router = { freed with claim := some n } ∧ SameOutside [.now, .link, .router, .coins] s u)) ∧
  ∀ (n : Slot) (k : Line) (s : State),
    let high := (s.slot n).lineHigh.at k
    let state (i : Line) : Prop := passes s ⟨i.val, by omega⟩ = true ∧ s.router.grantMask.at i = false
    let active : Prop := ∃ e ∈ s.router.workingMap, e.target = k ∧ (e.invert = false ↔ state e.source)
    ((s.slot n).state.supplied = false → boardLine s n k = none) ∧
    ((s.slot n).state.supplied = true →
      (s.router.owner ≠ .slot n ∨ ¬active → boardLine s n k = some (!high)) ∧
      (s.router.owner = .slot n → active → boardLine s n k = some high)) ∧
    (∀ i : Input, 52 ≤ i.val ∨ 4 ≤ i.val % 13 → passes s i = s.router.debounced.at i) ∧
    ∀ (p : Player) (d : Dir),
      let i : Input := Fin.ofNat 60 (13 * p.val + match d with
        | .up => 0
        | .down => 1
        | .left => 2
        | .right => 3)
      let opposite : Dir := match d with
        | .up => .down
        | .down => .up
        | .left => .right
        | .right => .left
      (s.router.fourWay.at p = false → passes s i = s.router.debounced.at i) ∧
      (s.router.fourWay.at p = true →
        (passes s i = true ↔ (s.router.order.at p).getLast? = some d ∧ opposite ∉ s.router.order.at p))

/-! ### Coins and credit delivery (R157 to R175) -/

/-- R172: COIN_STATE answers with the coin unit's state, laid out as its table gives it, in every state of the part, and
changes nothing. -/
def Obligations.CoinStateAnswersTheCoinUnit : Prop :=
  ∀ (dt : Nat) (tag : Byte) (s : State) (b : List Place),
    let four (v : Word32) : List Byte :=
      [v.setWidth 8, (v >>> 8).setWidth 8, (v >>> 16).setWidth 8, (v >>> 24).setWidth 8]
    let c := s.coins
    let len (n : Slot) : Byte := BitVec.ofNat 8 (c.queues.at n).length
    let gen (n : Slot) : Byte := match c.generators.at n with
      | .idle => 0
      | .on .. => 1
      | .gap _ => 2
    let chute (k : Chute) : Byte := match (c.chutes.at k).state with
      | .ready => 0
      | .inPulse _ => 1
      | .jammed => 2
    let why (k : Chute) : Byte :=
      let r := (c.chutes.at k).reasons
      BitVec.ofNat 8 ((if r.link then 1 else 0) + (if r.jam then 2 else 0) + (if r.bankLimit then 4 else 0)
        + (if r.meterFull then 8 else 0) + (if r.startup then 16 else 0))
    Turn 0x11 tag [] s b →
    exec (.coinState dt tag []) s = .next (conclude (s.justReplied dt b ⟨0x11, tag, .ok,
      [BitVec.ofNat 8 c.bank, BitVec.ofNat 8 (c.bank / 256)] ++ four c.accepted ++ four c.delivered ++ four c.drained
        ++ [len 0, len 1, len 2, len 3, len 4, len 5, len 6, len 7]
        ++ [gen 0, gen 1, gen 2, gen 3, gen 4, gen 5, gen 6, gen 7]
        ++ [chute 0, chute 1, chute 2, chute 3] ++ [why 0, why 1, why 2, why 3]
        ++ [BitVec.ofNat 8 (c.meters.at 0).owed, BitVec.ofNat 8 (c.meters.at 1).owed,
          BitVec.ofNat 8 (c.meters.at 2).owed, BitVec.ofNat 8 (c.meters.at 3).owed]⟩))

/-- R160, R168 and R169: COIN_DELIVER moves units from the bank to the tail of the current slot's queue, and COIN_DRAIN
takes them out of the cabinet; BANK_LIMIT is judged for every chute after it. Each refusal in order changes nothing. -/
def Obligations.CreditIsDeliveredAndDrained : Prop :=
  ∀ (dt : Nat) (tag x y : Byte) (s : State) (b : List Place),
    let p := [x, y]
    let said (k : Byte) (r : Result) := Host.Outcome.next (conclude (s.justReplied dt b ⟨k, tag, r, []⟩))
    let judged (bank : Nat) (u : State) : Prop := ∀ c, (u.chute c) = { s.chute c with
      reasons := { (s.chute c).reasons with bankLimit := decide (s.cabinet.bankLimit ≤ bank) } }
    let units := x.toNat
    (Turn 0x12 tag p s b →
      let e := exec (.coinDeliver dt tag p) s
      (units = 0 ∨ 32 < units → e = said 0x12 (.badField 0)) ∧
      (1 ≤ units → units ≤ 32 →
        (y.toNat = 0 ∨ 4 < y.toNat → e = said 0x12 (.badField 1)) ∧
        (1 ≤ y.toNat → y.toNat ≤ 4 →
          (s.co.record ≠ none ∨ s.co.current = none → e = said 0x12 .wrongState) ∧
          ∀ n, s.co.record = none → s.co.current = some n →
            (s.coins.bank < units → e = said 0x12 .noCredit) ∧
            (units ≤ s.coins.bank → 32 < (s.queue n).length + units → (s.queue n).length ≤ 32 →
              e = said 0x12 .queueFull) ∧
            (units ≤ s.coins.bank → (s.queue n).length + units ≤ 32 →
              ∃ u k, e = .next (conclude u) ∧ k = (⟨(y.toNat - 1) % 4, by omega⟩ : CoinLine) ∧ u.now = s.now + dt ∧
                u.link = { s.link.replied b ⟨0x12, tag, .ok, []⟩ with notices := u.link.notices } ∧
                u.coins.bank = s.coins.bank - units ∧ u.coins.accepted = s.coins.accepted ∧
                u.coins.drained = s.coins.drained ∧ judged (s.coins.bank - units) u ∧
                (∀ m, m ≠ n → u.queue m = s.queue m ∧ u.generator m = s.generator m) ∧
                (s.generator n ≠ .idle ∨ s.router.owner ≠ .slot n →
                  u.queue n = s.queue n ++ List.replicate units k ∧ u.generator n = s.generator n ∧
                  u.coins.delivered = s.coins.delivered ∧ u.counters = s.counters) ∧
                (s.generator n = .idle → s.router.owner = .slot n → s.queue n = [] →
                  u.queue n = List.replicate (units - 1) k ∧
                  u.generator n = .on k (s.now + dt + 27000 * (s.profile n).coins.pulseOn)
                    (27000 * (s.profile n).coins.pulseGap) ∧
                  u.coins.delivered = s.coins.delivered + 1 ∧
                  u.counters = (increment (coinsDelivered n) s).counters) ∧
                SameOutside [.now, .link, .counters, .coins] s u)))) ∧
    (Turn 0x13 tag p s b →
      let units := x.toNat + 256 * y.toNat
      let e := exec (.coinDrain dt tag p) s
      (units = 0 → e = said 0x13 (.badField 0)) ∧
      (s.coins.bank < units → e = said 0x13 .noCredit) ∧
      (1 ≤ units → units ≤ s.coins.bank →
        ∃ u, e = .next (conclude u) ∧ u.now = s.now + dt ∧
          u.link = { s.link.replied b ⟨0x13, tag, .ok, []⟩ with notices := u.link.notices } ∧
          u.coins = { s.coins with
            bank := s.coins.bank - units, drained := s.coins.drained + BitVec.ofNat 32 units, chutes := u.coins.chutes } ∧
          judged (s.coins.bank - units) u ∧ SameOutside [.now, .link, .coins] s u))

/-- R160 and R170: COIN_LOCK sets or clears a chute's host lock flag and with it the LINK reason. R171:
COIN_TOTALS_CLEAR sets the three totals to 0 once no money is left in the bank, a queue or a pulse. -/
def Obligations.ChutesLockAndTotalsClear : Prop :=
  ∀ (dt : Nat) (tag : Byte) (s : State) (b : List Place),
    let said (k : Byte) (r : Result) := Host.Outcome.next (conclude (s.justReplied dt b ⟨k, tag, r, []⟩))
    (∀ (c : Chute) (lock : Bool), let p := [BitVec.ofNat 8 (c.val + 1), boolByte lock]
      Turn 0x14 tag p s b →
      ∃ u, exec (.coinLock dt tag p) s = .next (conclude u) ∧ u.now = s.now + dt ∧
        u.link = { s.link.replied b ⟨0x14, tag, .ok, []⟩ with notices := u.link.notices } ∧
        u.coins = { s.coins with chutes := s.coins.chutes.put c { s.chute c with
          hostLock := lock, reasons := { (s.chute c).reasons with link := lock } } } ∧
        (s.link.mask.at 5 = true → (s.chute c).reasons.link ≠ lock → ∃ e ∈ u.link.notices,
          e.notice = .chute c (u.chute c).state.code .lockout (u.chute c).reasons) ∧
        SameOutside [.now, .link, .coins] s u) ∧
    (∀ x y : Byte, Turn 0x14 tag [x, y] s b →
      (x = 0 ∨ 4 < x.toNat → exec (.coinLock dt tag [x, y]) s = said 0x14 (.badField 0)) ∧
      (1 ≤ x.toNat → x.toNat ≤ 4 → 1 < y.toNat → exec (.coinLock dt tag [x, y]) s = said 0x14 (.badField 1))) ∧
    (Turn 0x15 tag [] s b →
      let gone : Prop := s.coins.bank = 0 ∧ ∀ n, s.queue n = [] ∧ (s.generator n).isOn = false
      (¬gone → exec (.coinTotalsClear dt tag []) s = said 0x15 .wrongState) ∧
      (gone →
        ∃ u, exec (.coinTotalsClear dt tag []) s = .next (conclude u) ∧ u.now = s.now + dt ∧
          u.link = { s.link.replied b ⟨0x15, tag, .ok, []⟩ with notices := u.link.notices } ∧
          u.coins = { s.coins with accepted := 0, delivered := 0, drained := 0 } ∧
          (s.link.mask.at 5 = true → ∃ e ∈ u.link.notices, e.notice =
            .bank 0 .cleared (decide (s.cabinet.bankLimit = 0)) s.coins.startup) ∧
          SameOutside [.now, .link, .coins] s u))

/-- R159, R166 and R173: the coin unit's timers. A chute in IN_PULSE jams, with the JAM reason and its jam counted, and
a JAMMED one is READY again; a pulse's on time ends in the gap read at its start; a gap's end finds the generator IDLE,
or starts the next pulse; a meter's on time is followed by 60 ms off, after which the next owed tick starts. A jam timer
that does not run expires to no effect (the model's choice, log 23). R160, R166, R173: the outputs: a chute's coil is
engaged exactly while it has a lockout reason; a board coin line is driven only under supply, at its active level only
during a pulse on it; a meter's output is on exactly during a tick. -/
def Obligations.CoinTimersExpire : Prop :=
  (∀ (c : Chute) (n : Slot) (m : Meter) (s : State), s.powered = true →
      ((s.chute c).jamTimer = none → exec (.jamTimerExpiry c) s = .next (conclude s)) ∧
      (∀ t start, (s.chute c).jamTimer = some t → (s.chute c).state = .inPulse start →
        ∃ u, exec (.jamTimerExpiry c) s = .next (conclude u) ∧ u.now = max s.now t ∧
          u.coins = { s.coins with chutes := s.coins.chutes.put c { s.chute c with
            state := .jammed
            reasons := { (s.chute c).reasons with jam := true }
            jamTimer := if s.router.debounced.get ⟨55 + c.val, by omega⟩ then none
              else some (max s.now t + 54000000) } } ∧
          u.counters = (increment (chuteJams c) s).counters ∧ SameOutside [.now, .link, .counters, .coins] s u) ∧
      (∀ t, (s.chute c).jamTimer = some t → (s.chute c).state = .jammed →
        ∃ u, exec (.jamTimerExpiry c) s = .next (conclude u) ∧ u.now = max s.now t ∧
          u.coins = { s.coins with chutes := s.coins.chutes.put c { s.chute c with
            state := .ready, jamTimer := none, reasons := { (s.chute c).reasons with jam := false } } } ∧
          SameOutside [.now, .link, .coins] s u) ∧
      (∀ line t gap, s.generator n = .on line t gap →
        exec (.pulseOnExpiry n) s = .next (conclude { s with
          now := max s.now t, coins := { s.coins with generators := s.coins.generators.put n (.gap (max s.now t + gap)) } })) ∧
      (∀ t, s.generator n = .gap t →
        (s.queue n = [] ∨ s.co.current ≠ some n ∨ s.router.owner ≠ .slot n →
          exec (.pulseGapExpiry n) s = .next (conclude { s with
            now := max s.now t, coins := { s.coins with generators := s.coins.generators.put n .idle } })) ∧
        ∀ line rest, s.queue n = line :: rest → s.co.current = some n → s.router.owner = .slot n →
          ∃ u, exec (.pulseGapExpiry n) s = .next (conclude u) ∧ u.now = max s.now t ∧
            u.coins = { s.coins with
              queues := s.coins.queues.put n rest
              delivered := s.coins.delivered + 1
              lineHigh := s.coins.lineHigh.put n (s.profile n).coins.lineHigh
              generators := s.coins.generators.put n (.on line (max s.now t + 27000 * (s.profile n).coins.pulseOn)
                (27000 * (s.profile n).coins.pulseGap)) } ∧
            u.counters = (increment (coinsDelivered n) s).counters ∧ SameOutside [.now, .link, .counters, .coins] s u) ∧
      (∀ t, (s.meter m).driver = .on t →
        exec (.meterOnExpiry m) s = .next (conclude { s with
          now := max s.now t
          coins := { s.coins with
            meters := s.coins.meters.put m { s.meter m with driver := .off (max s.now t + 1620000) } } })) ∧
      ∀ t, (s.meter m).driver = .off t →
        ((s.meter m).owed = 0 → exec (.meterOffExpiry m) s = .next (conclude { s with
          now := max s.now t
          coins := { s.coins with meters := s.coins.meters.put m { s.meter m with driver := .idle } } })) ∧
        ∀ k, (s.meter m).owed = k + 1 →
          ∃ u, exec (.meterOffExpiry m) s = .next (conclude u) ∧ u.now = max s.now t ∧
            u.coins = { s.coins with
              meters := s.coins.meters.put m ⟨k, .on (max s.now t + 1620000)⟩, chutes := u.coins.chutes } ∧
            SameOutside [.now, .link, .coins] s u) ∧
  ∀ (c : Chute) (n : Slot) (k : CoinLine) (m : Meter) (s : State),
    let r := (s.chute c).reasons
    let high := (s.coins.lineHigh.at n).at k
    (coilEngaged s c = true ↔
      r.link = true ∨ r.jam = true ∨ r.bankLimit = true ∨ r.meterFull = true ∨ r.startup = true) ∧
    ((s.slot n).state.supplied = false → coinLine s n k = none) ∧
    ((s.slot n).state.supplied = true →
      (∀ t gap, s.generator n = .on k t gap → coinLine s n k = some high) ∧
      ((∀ t gap, s.generator n ≠ .on k t gap) → coinLine s n k = some (!high))) ∧
    (meterOutput s m = true ↔ ∃ t, (s.meter m).driver = .on t)

/-! ### Statistics counters (R176 to R181) -/

/-- R177 and R178: one increment. Under freeze nothing; below 2^32 − 1 the value rises; at 2^32 − 1 it stays under
saturate, with its flags, and wraps to 0 otherwise. The half flag is set on the step to 2^31, the full flag on reaching
2^32 − 1 or wrapping; a flag set stays set; COUNTER is posted exactly for a flag newly set; no other counter changes. -/
def Obligations.IncrementFollowsTheCounterMode : Prop :=
  ∀ (i : CounterId) (s : State),
    let c := s.counter i
    let t := increment i s
    let d := t.counter i
    (s.counters.freeze = true → t = s) ∧
    (s.counters.freeze = false →
      (c.value.toNat < 4294967295 → d.value.toNat = c.value.toNat + 1 ∧
        d.half = (c.half || c.value.toNat == 2147483647) ∧ d.full = (c.full || c.value.toNat == 4294967294)) ∧
      (c.value.toNat = 4294967295 → s.counters.saturate = true → d = c) ∧
      (c.value.toNat = 4294967295 → s.counters.saturate = false →
        d.value = 0 ∧ d.half = c.half ∧ d.full = true) ∧
      (∀ j, j ≠ i → t.counter j = s.counter j) ∧
      (d.half = c.half → d.full = c.full → t.link = s.link) ∧
      (d.half ≠ c.half ∨ d.full ≠ c.full → t.link = (post (.counter [⟨i, d.half, d.full⟩]) s).link) ∧
      t.counters = { s.counters with table := t.counters.table } ∧ SameOutside [.link, .counters] s t)

/-- R179 and R180: COUNTERS_MODE replaces the mode and applies the preset; COUNTERS_READ answers with the mode, the
range and each counter's value and flags as they stand, then clears the range when the request or the mode says so.
The first field out of range is refused at its index. -/
def Obligations.CountersAreReadAndSet : Prop :=
  ∀ (dt : Nat) (tag : Byte) (s : State) (b : List Place),
    let said (k : Byte) (r : Result) := Host.Outcome.next (conclude (s.justReplied dt b ⟨k, tag, r, []⟩))
    (∀ fr sa rc preset : Byte, let p := [fr, sa, rc, preset]
      Turn 0x17 tag p s b →
      let e := exec (.countersMode dt tag p) s
      let all (v : Word32) : Tab Counter 67 := Tab.all 67 ⟨v, false, false⟩
      (1 < fr.toNat → e = said 0x17 (.badField 0)) ∧
      (fr.toNat ≤ 1 → 1 < sa.toNat → e = said 0x17 (.badField 1)) ∧
      (fr.toNat ≤ 1 → sa.toNat ≤ 1 → 1 < rc.toNat → e = said 0x17 (.badField 2)) ∧
      (fr.toNat ≤ 1 → sa.toNat ≤ 1 → rc.toNat ≤ 1 → 2 < preset.toNat → e = said 0x17 (.badField 3)) ∧
      (fr.toNat ≤ 1 → sa.toNat ≤ 1 → rc.toNat ≤ 1 → preset.toNat ≤ 2 → e = .next (conclude { s with
        now := s.now + dt
        link := s.link.replied b ⟨0x17, tag, .ok, []⟩
        counters :=
          { table := if preset = 1 then all 2147483632 else if preset = 2 then all 4294967280 else s.counters.table
            freeze := decide (fr = 1), saturate := decide (sa = 1), readClear := decide (rc = 1) } }))) ∧
    ∀ first count clear : Byte, let p := [first, count, clear]
      Turn 0x16 tag p s b →
      let e := exec (.countersRead dt tag p) s
      let f := first.toNat
      let k := count.toNat
      let four (v : Word32) : List Byte :=
        [v.setWidth 8, (v >>> 8).setWidth 8, (v >>> 16).setWidth 8, (v >>> 24).setWidth 8]
      let flags (c : Counter) : Byte := match c.half, c.full with
        | false, false => 0
        | true, false => 1
        | false, true => 2
        | true, true => 3
      (66 < f → e = said 0x16 (.badField 0)) ∧
      (f ≤ 66 → k = 0 ∨ 38 < k ∨ 67 < f + k → e = said 0x16 (.badField 1)) ∧
      (1 ≤ k → k ≤ 38 → f + k ≤ 67 → 1 < clear.toNat → e = said 0x16 (.badField 2)) ∧
      (1 ≤ k → k ≤ 38 → f + k ≤ 67 → clear.toNat ≤ 1 → e = .next (conclude { s with
        now := s.now + dt
        link := s.link.replied b ⟨0x16, tag, .ok,
          [boolByte s.counters.freeze, boolByte s.counters.saturate, boolByte s.counters.readClear, first, count]
            ++ ((s.counters.table.toList.drop f).take k).flatMap fun c => four c.value ++ [flags c]⟩
        counters := if clear = 1 ∨ s.counters.readClear = true then
            { s.counters with table := Vector.ofFn fun i =>
                if f ≤ i.val ∧ i.val < f + k then ⟨0, false, false⟩ else s.counters.table.at i }
          else s.counters }))

/-! ### Profiles, retained memory and start-up (R182 to R188) -/

/-- R182 and R184: whatever contents PROFILE_PUT accepts for a section, the working section then holds exactly them: a
PROFILE_GET of it, in any state with those working profiles and no load in flight, answers OK with the very bytes of
the PUT. No other slot's profile, no other section, no cabinet setting and nothing in the store changes. In every state
PROFILE_GET of a slot, section and page that are is answered OK with the section's contents; a field that is not is
BAD_FIELD at its index. While a load is in flight both are BUSY. -/
def Obligations.ProfilePutThenGetReturnsTheContents : Prop :=
  (∀ (dt : Nat) (tag : Byte) (n : Slot) (sec page : Byte) (contents : List Byte) (s : State) (b : List Place),
      let p := [slotByte n, sec, page] ++ contents
      Turn 0x0A tag p s b → profilePutCheck s p = none →
      (s.profiles.loading = true →
        exec (.profilePut dt tag p) s = .next (conclude (s.justReplied dt b ⟨0x0A, tag, .busy, []⟩))) ∧
      (s.profiles.loading = false →
        ∃ u, exec (.profilePut dt tag p) s = .next (conclude u) ∧ u.now = s.now + dt ∧
          u.link = s.link.replied b ⟨0x0A, tag, .ok, []⟩ ∧
          (∀ m, m ≠ n → u.profile m = s.profile m ∧ u.slot m = s.slot m) ∧ u.cabinet = s.cabinet ∧
          u.profiles.store = s.profiles.store ∧ u.profiles.saving = s.profiles.saving ∧ u.profiles.loading = false ∧
          (sec ≠ 0 → (u.profile n).general = (s.profile n).general) ∧
          (sec ≠ 1 → (u.profile n).picture = (s.profile n).picture) ∧
          (sec ≠ 2 → (u.profile n).controls = (s.profile n).controls) ∧
          (sec ≠ 3 → (u.profile n).coins = (s.profile n).coins) ∧
          (sec ≠ 4 → (u.profile n).dips = (s.profile n).dips) ∧
          SameOutside [.now, .link, .slots, .profiles] s u ∧
          ∀ (dt' : Nat) (tag' : Byte) (t : State) (b' : List Place), t.profiles = u.profiles →
            Turn 0x09 tag' [slotByte n, sec, page] t b' →
            exec (.profileGet dt' tag' [slotByte n, sec, page]) t =
              .next (conclude (t.justReplied dt' b' ⟨0x09, tag', .ok, contents⟩)))) ∧
  ∀ (dt : Nat) (tag x sec page : Byte) (s : State) (b : List Place), Turn 0x09 tag [x, sec, page] s b →
    let said (r : Result) := Host.Outcome.next (conclude (s.justReplied dt b ⟨0x09, tag, r, []⟩))
    let known : Prop := page = 0 ∨ (sec = 2 ∧ page.toNat ≤ 3)
    (x.toNat = 0 ∨ 8 < x.toNat → exec (.profileGet dt tag [x, sec, page]) s = said (.badField 0)) ∧
    ∀ n, x = slotByte n →
      (4 < sec.toNat → exec (.profileGet dt tag [x, sec, page]) s = said (.badField 1)) ∧
      (sec.toNat ≤ 4 → ¬known → exec (.profileGet dt tag [x, sec, page]) s = said (.badField 2)) ∧
      (sec.toNat ≤ 4 → known →
        (s.profiles.loading = true → exec (.profileGet dt tag [x, sec, page]) s = said .busy) ∧
        (s.profiles.loading = false →
          exec (.profileGet dt tag [x, sec, page]) s = .next (conclude (s.justReplied dt b
            ⟨0x09, tag, .ok, sectionContents (s.profile n) sec.toNat (Fin.ofNat 4 page.toNat)⟩))))

/-- R183 and R184: whatever contents CABINET_PUT accepts, the cabinet settings then are exactly them: a CABINET_GET in
any state with those settings and no load in flight answers OK with the very bytes of the PUT. The slot profiles and the
store do not change, and every chute's BANK_LIMIT and METER_FULL are judged afresh (R160). In every state CABINET_GET is
answered OK with the 47 bytes of the settings; while a load is in flight both are BUSY. -/
def Obligations.CabinetPutThenGetReturnsTheSettings : Prop :=
  (∀ (dt : Nat) (tag : Byte) (p : List Byte) (s : State) (b : List Place), Turn 0x0C tag p s b → p.length = 47 →
      firstBad (checkCabinet p) = none →
      (s.profiles.loading = true →
        exec (.cabinetPut dt tag p) s = .next (conclude (s.justReplied dt b ⟨0x0C, tag, .busy, []⟩))) ∧
      (s.profiles.loading = false →
        ∃ u, exec (.cabinetPut dt tag p) s = .next (conclude u) ∧ u.now = s.now + dt ∧
          u.link = { s.link.replied b ⟨0x0C, tag, .ok, []⟩ with notices := u.link.notices } ∧
          u.profiles = { s.profiles with working := { s.profiles.working with cabinet := u.cabinet } } ∧
          u.coins = { s.coins with chutes := u.coins.chutes } ∧
          (∀ c, u.chute c = { s.chute c with reasons := { (s.chute c).reasons with
            bankLimit := decide (u.cabinet.bankLimit ≤ s.coins.bank)
            meterFull := match u.cabinet.chuteMeter.at c with
              | none => false
              | some m => decide (240 ≤ (s.meter m).owed) } }) ∧
          SameOutside [.now, .link, .router, .coins, .profiles] s u ∧
          ∀ (dt' : Nat) (tag' : Byte) (t : State) (b' : List Place), t.profiles = u.profiles → Turn 0x0B tag' [] t b' →
            exec (.cabinetGet dt' tag' []) t = .next (conclude (t.justReplied dt' b' ⟨0x0B, tag', .ok, p⟩)))) ∧
  ∀ (dt : Nat) (tag : Byte) (s : State) (b : List Place), Turn 0x0B tag [] s b →
    (s.profiles.loading = true →
      exec (.cabinetGet dt tag []) s = .next (conclude (s.justReplied dt b ⟨0x0B, tag, .busy, []⟩))) ∧
    (s.profiles.loading = false → (writeCabinet s.cabinet).length = 47 ∧
      exec (.cabinetGet dt tag []) s = .next (conclude (s.justReplied dt b ⟨0x0B, tag, .ok, writeCabinet s.cabinet⟩)))

/-- R185 and R186. STORE_SAVE and STORE_LOAD are BUSY while either is in flight, and a load also in a changeover;
STORE_FAULT when the store does not answer; otherwise ACCEPTED, the save with the working copies as its snapshot. A save
that verifies whole, followed by a load that the store answers, restores the working copies as they stood when the save
was accepted, whatever the store held before and whatever was changed between; STORE is posted DONE for each. A load the
store does not answer, one that STORE_LOAD began too (the model's choice, log 58), leaves every section at its factory
default and is a FAULT; that its notice lists the 41 sections in this order is the model's choice (log 52). -/
def Obligations.SavesAndLoadsKeepTheWorkingCopies : Prop :=
  (∀ (dt : Nat) (tag : Byte) (answers : Bool) (s : State) (b : List Place),
      let said (k : Byte) (r : Result) := Host.Outcome.next (conclude (s.justReplied dt b ⟨k, tag, r, []⟩))
      let busy : Prop := s.profiles.saving ≠ none ∨ s.profiles.loading = true
      (Turn 0x0D tag [] s b →
        (busy → exec (.storeSave dt tag [] answers) s = said 0x0D .busy) ∧
        (¬busy → answers = false → exec (.storeSave dt tag [] answers) s = said 0x0D .storeFault) ∧
        (¬busy → answers = true → exec (.storeSave dt tag [] answers) s = .next (conclude { s with
          now := s.now + dt
          link := s.link.replied b ⟨0x0D, tag, .accepted, []⟩
          profiles := { s.profiles with saving := some s.profiles.working } }))) ∧
      (Turn 0x0E tag [] s b →
        (busy ∨ s.co.record ≠ none → exec (.storeLoad dt tag [] answers) s = said 0x0E .busy) ∧
        (¬busy → s.co.record = none → answers = false → exec (.storeLoad dt tag [] answers) s = said 0x0E .storeFault) ∧
        (¬busy → s.co.record = none → answers = true → exec (.storeLoad dt tag [] answers) s = .next (conclude { s with
          now := s.now + dt
          link := s.link.replied b ⟨0x0E, tag, .accepted, []⟩
          profiles := { s.profiles with loading := true } })))) ∧
  (∀ (dt dt' : Nat) (w : Working) (s u : State), s.powered = true → s.profiles.saving = some w →
      u.powered = true → u.profiles.loading = true → s.link.mask.at 7 = true → u.link.mask.at 7 = true →
      ∃ t, exec (.storeSaveEnd dt []) s = .next (conclude t) ∧ t.profiles.saving = none ∧
        t.profiles.working = s.profiles.working ∧ (∀ i, t.profiles.store.passes i = true) ∧
        (∃ e ∈ t.link.notices, e.notice = .store false false []) ∧
        SameOutside [.now, .link, .profiles, .free] s t ∧
        (u.profiles.store = t.profiles.store →
          ∃ v, exec (.profileLoadEnd dt' true []) u = .next (conclude v) ∧ v.profiles.working = w ∧
            v.profiles.loading = false ∧ v.profiles.loaded = true ∧ v.profiles.store = u.profiles.store ∧
            (∃ e ∈ v.link.notices, e.notice = .store true false [])) ∧
        ∃ v, exec (.profileLoadEnd dt' false []) u = .next (conclude v) ∧ v.profiles.working = factoryWorking ∧
          v.profiles.loading = false ∧ v.profiles.store = u.profiles.store ∧
          (∃ e ∈ v.link.notices, e.notice = .store true true (List.finRange 41)))

/-- R187, R185, R16: power-up reset keeps exactly the retained items: the counters, the bank, the totals and owed ticks,
the mask default and the stored profiles (a save in flight is abandoned); every queue goes to the bank; every other
block stands at its power-up values, a load is in flight, and READY says whether memory was kept. With memory lost the
retained items are 0 and every notice kind is enabled. After a loss of power nothing is taken (log 9). R42: every
adapter starts afresh. The model's own choices and readings in it: the contents an adapter gives its own cells (log 8),
the pins that keep their levels (log 28), the active harness levels before they are read (log 32), the owed ticks that
start within the reset (log 35), and the moment of the first output field start and the lines not moved yet (log 39). -/
def Obligations.PowerUpKeepsTheRetainedItems : Prop :=
  ∀ (dt : Nat) (kept : Bool) (s : State),
    (∃ u, exec (.powerUpReset dt kept) s = .next (conclude u) ∧ u.powered = true ∧ u.now = s.now + dt ∧
      u.counters = (if kept then s.counters else ⟨Tab.all 67 ⟨0, false, false⟩, false, false, false⟩) ∧
      u.link.maskDefault = (if kept then s.link.maskDefault else Tab.all 11 true) ∧ u.link.mask = u.link.maskDefault ∧
      u.link.rx = .hunt ∧ u.link.gap = none ∧ u.link.buffer = [] ∧ u.link.replies = [] ∧ u.link.sending = none ∧
      u.link.restartHeld = false ∧
      (u.link.mask.at 10 = true → ∃ rest, u.link.notices = ⟨1, .ready false kept⟩ :: rest) ∧
      (∀ n, u.slot n =
        { state := .empty, kind := 0, revision := 0, status := 0, mismatch := false, runUp := false, paused := false,
          lastSig := none, parkedSig := none, autoPending := true, pgWindow := none, bootWindow := none,
          applying := false, lines := ⟨false, .notDriven, .notDriven⟩, moves := [],
          powerGood := (s.slot n).powerGood, lineHigh := Tab.all 55 false, rereadLevels := false }) ∧
      (∀ n, (u.adapter n).pointer = 16 ∧ (u.adapter n).own = (s.adapter n).own ∧
        (∀ c : Fin 256, 3 ≤ c.val → c.val ≤ 6 → (u.adapter n).cells.at c = 0) ∧
        (ownCellsFit (s.adapter n).own = true → ∀ p ∈ (s.adapter n).own, (u.adapter n).cells.at p.1 = p.2) ∧
        ∀ c, (∀ p ∈ (s.adapter n).own, p.1 ≠ c) → (u.adapter n).cells.at c = 0) ∧
      u.monitors = Monitor.initialAll ∧ u.co = .initial ∧ u.frame = .initial ∧ u.pic = .initial ∧ u.snd = .initial ∧
      u.bus = .initial (s.now + dt) ∧ u.out = .initial (s.now + dt) ∧
      u.router =
        { raw := s.router.raw, debounced := Tab.all 60 false, timers := u.router.timers, owner := .link,
          linkHold := false, claim := none, workingMap := [], fourWay := Tab.all 4 false, order := Tab.all 4 [],
          grantMask := Tab.all 55 false, latch := Tab.all 60 false, chordArmed := true, chordTimer := none,
          playTimer := none } ∧
      (∀ i, u.router.timers.at i = if s.router.raw.at i then some ⟨s.now + dt + 135000, true⟩ else none) ∧
      (∀ c, (u.chute c).state = .ready ∧ (u.chute c).jamTimer = none ∧ (u.chute c).hostLock = false ∧
        (u.chute c).reasons = ⟨false, false, decide (factoryCabinet.bankLimit ≤ u.coins.bank),
          decide (240 ≤ (u.meter c).owed), true⟩) ∧
      (∀ n, u.queue n = [] ∧ u.generator n = .idle) ∧ u.coins.startup = true ∧
      (kept = true → u.coins.accepted = s.coins.accepted ∧ u.coins.delivered = s.coins.delivered) ∧
      (kept = true → s.coins.bank + queuedUnits s ≤ 65535 →
        u.coins.bank = s.coins.bank + queuedUnits s ∧ u.coins.drained = s.coins.drained) ∧
      (kept = false → u.coins.bank = 0 ∧ u.coins.accepted = 0 ∧ u.coins.delivered = 0 ∧ u.coins.drained = 0 ∧
        ∀ m, u.meter m = ⟨0, .idle⟩) ∧
      (kept = true → ∀ m, (s.meter m).owed = 0 → u.meter m = ⟨0, .idle⟩) ∧
      (kept = true → ∀ m k, (s.meter m).owed = k + 1 → u.meter m = ⟨k, .on (s.now + dt + 1620000)⟩) ∧
      u.profiles.working = factoryWorking ∧ u.profiles.loading = true ∧ u.profiles.saving = none ∧
      u.profiles.loaded = false ∧ (s.profiles.saving = none → u.profiles.store = s.profiles.store) ∧ u.pending = s.pending) ∧
    (s.powered = true → ∃ t, exec (.powerLoss dt) s = .next t ∧ t.powered = false ∧ t.counters = s.counters ∧
      t.link.maskDefault = s.link.maskDefault ∧ t.coins.bank = s.coins.bank ∧ t.coins.queues = s.coins.queues ∧
      t.coins.accepted = s.coins.accepted ∧ t.coins.delivered = s.coins.delivered ∧
      t.coins.drained = s.coins.drained ∧ (∀ m, (t.meter m).owed = (s.meter m).owed) ∧
      (s.profiles.saving = none → t.profiles.store = s.profiles.store) ∧
      ∀ c dt' kind tag p, requestOf c = some (dt', kind, tag, p) → exec c t = .next t) ∧
    (s.powered = false → exec (.powerLoss dt) s = .next s)

/-! ### The whole part -/

/-- No command leaves anything in the queue but what waited there, time never runs backwards, and only POWER_UP_RESET
and POWER_LOSS change whether the part has power. (The queue, time and power are the model's own: logs 5, 9, 20.) -/
def Obligations.CommandsKeepQueueTimeAndPower : Prop :=
  ∀ (c : Instr) (s t : State), exec c s = .next t →
    t.pending = s.pending ∧ s.now ≤ t.now ∧
    ((∀ dt k, c ≠ .powerUpReset dt k) → (∀ dt, c ≠ .powerLoss dt) → t.powered = s.powered) ∧
    (s.reports = [] → t.reports = [])

/-- What the manual gives for power-up reset, read off the state after it (retained memory lost, log 6): the receiver
hunting, READY being sent, every slot EMPTY with auto power pending, poll position 1 with the timer at 12.5 ms, the
monitors DARK with monitor 9 alone taking syncs, no changeover, blank set, PACE at LOW, the levels at 256, the controls
the host's, the coin door locked for STARTUP, the counters 0, factory settings, and a load in flight. -/
def Obligations.ResetLeavesTheStatedValues : Prop :=
  State.reset.link.rx = .hunt ∧ State.reset.link.buffer = [] ∧ State.reset.link.replies = [] ∧
  State.reset.link.notices = [] ∧
  State.reset.link.sending = some (.notice [0xA5, 4, 0x4A, 0, 0, 1, 0, 0, 0xB1]) ∧
  (∀ n, (State.reset.slot n).state = .empty ∧ (State.reset.slot n).autoPending = true ∧
    (State.reset.slot n).kind = 0 ∧ (State.reset.slot n).lines = ⟨false, .notDriven, .notDriven⟩ ∧
    (State.reset.adapter n).pointer = 16 ∧ State.reset.bus.misses.at n = 0 ∧
    State.reset.bus.views.at n = .unconfirmed ∧ State.reset.queue n = [] ∧ State.reset.generator n = .idle) ∧
  State.reset.bus.position = 0 ∧ State.reset.bus.pollTimer = some 337500 ∧
  (∀ src, (State.reset.monitor src).state = .dark ∧ (State.reset.monitor src).taking = decide (src = 8)) ∧
  State.reset.co.current = none ∧ State.reset.co.record = none ∧ State.reset.co.pending = none ∧
  State.reset.frame.blank = true ∧ State.reset.frame.hold = false ∧ State.reset.frame.writer = none ∧
  State.reset.frame.reader = none ∧ (∀ b, (State.reset.buffer b).state = .free) ∧ State.reset.frame.nextSeq = 0 ∧
  State.reset.out.pass = false ∧ State.reset.out.cls = .low ∧ State.reset.out.fout = 449592 ∧
  State.reset.pic.level = 256 ∧ State.reset.pic.dim = 256 ∧ State.reset.pic.overlay.enable = false ∧
  State.reset.snd.gain = 256 ∧ State.reset.snd.ducked = false ∧
  State.reset.router.owner = .link ∧ State.reset.router.linkHold = false ∧ State.reset.router.claim = none ∧
  State.reset.router.workingMap = [] ∧
  (∀ c, (State.reset.chute c).state = .ready ∧ (State.reset.chute c).reasons = ⟨false, false, false, false, true⟩ ∧
    (State.reset.chute c).hostLock = false ∧ State.reset.meter c = ⟨0, .idle⟩) ∧
  State.reset.coins.bank = 0 ∧ (∀ i, State.reset.counter i = ⟨0, false, false⟩) ∧
  State.reset.profiles.working = factoryWorking ∧ State.reset.profiles.loading = true

/-- The state after reset has every property that the next statements say a step keeps. -/
def Obligations.InvariantsHoldAtReset : Prop :=
  Conserved State.reset ∧ CoinsBounded State.reset ∧ LinesMatch State.reset ∧ PowerSound State.reset ∧
  KeysDistinct State.reset ∧ BufferBounded State.reset ∧ OneEach State.reset ∧ OwnerSound State.reset ∧
  MonitorsSound State.reset ∧ State.reset.reports = []

/-- R163 with R162, R164 and R161: no step loses or makes money. From every state in which the bank and the queues add
up to what was accepted and neither delivered nor drained (modulo 2^32), with the bank at most 65,535, no queue above 32
units and no owed count above 255, every step leads to such a state. -/
def Obligations.EveryStepConservesTheMoney : Prop :=
  ∀ s t : State, Conserved s → CoinsBounded s → step s = .next t → Conserved t ∧ CoinsBounded t

/-- R18 and R19: from every state in which each slot's lines are at the levels its state fixes, every step leads to such
a state, so no supply is on in EMPTY, OFF or FAULT, and reset is asserted in POWERING and HELD. R24, R26, R28, R45, R50:
so it is with what a slot's record may hold in each state: its mismatch flag, its two windows and its DIP apply, of
which the bus has at most one run for each slot. -/
def Obligations.EveryStepKeepsTheLinesAtTheirState : Prop :=
  (∀ s t : State, LinesMatch s → step s = .next t → LinesMatch t) ∧
  ∀ s t : State, PowerSound s → step s = .next t → PowerSound t

/-- R4 and R9: from every state with at most four buffered requests and at most one notice entry per key, every step
leads to such a state; so the notice table never holds more than 30 entries. -/
def Obligations.EveryStepKeepsTheLinkBounded : Prop :=
  (∀ s t : State, KeysDistinct s → BufferBounded s → step s = .next t → KeysDistinct t ∧ BufferBounded t) ∧
  ∀ s : State, KeysDistinct s → s.link.notices.length ≤ 30

/-- R100: from every state with at most one FILLING and at most one SHOWING buffer, every step leads to such a state. -/
def Obligations.EveryStepKeepsOneBufferEach : Prop := ∀ s t : State, OneEach s → step s = .next t → OneEach t

/-- R145 and R147: from every state in which the owner is a slot only while that slot is current and LIVE with no
changeover in flight, and the claim is only ever the current slot's, every step leads to such a state: a board that is
not playing never has the controls. -/
def Obligations.EveryStepKeepsTheControlsWithTheCurrentBoard : Prop :=
  ∀ s t : State, OwnerSound s → s.reports = [] → step s = .next t → OwnerSound t

/-- R56, R58, R63 to R67: from every state in which each monitor's figures fit its state (Fref and Lref present exactly
in LOCKED and WEAK, Fref within 337,500 to 675,000 ticks), every step leads to such a state. -/
def Obligations.EveryStepKeepsTheMonitorsSound : Prop :=
  ∀ s t : State, MonitorsSound s → step s = .next t → MonitorsSound t
end

