-- ==== Sys2Proof/Laws/State.lean ====
section
/-! SUPPORT. One lemma per field per update of the state, each true by computation, so that no proof unfolds a record
update; and what a numbered record reads as after an update of one of its kind. -/

namespace Sys2Proof.Machine

@[simp] theorem State.tick_powered (s : State) (dt : Nat) : (State.tick dt s).powered = s.powered := rfl
@[simp] theorem State.tick_link (s : State) (dt : Nat) : (State.tick dt s).link = s.link := rfl
@[simp] theorem State.tick_counters (s : State) (dt : Nat) : (State.tick dt s).counters = s.counters := rfl
@[simp] theorem State.tick_slots (s : State) (dt : Nat) : (State.tick dt s).slots = s.slots := rfl
@[simp] theorem State.tick_adapters (s : State) (dt : Nat) : (State.tick dt s).adapters = s.adapters := rfl
@[simp] theorem State.tick_bus (s : State) (dt : Nat) : (State.tick dt s).bus = s.bus := rfl
@[simp] theorem State.tick_monitors (s : State) (dt : Nat) : (State.tick dt s).monitors = s.monitors := rfl
@[simp] theorem State.tick_co (s : State) (dt : Nat) : (State.tick dt s).co = s.co := rfl
@[simp] theorem State.tick_frame (s : State) (dt : Nat) : (State.tick dt s).frame = s.frame := rfl
@[simp] theorem State.tick_out (s : State) (dt : Nat) : (State.tick dt s).out = s.out := rfl
@[simp] theorem State.tick_pic (s : State) (dt : Nat) : (State.tick dt s).pic = s.pic := rfl
@[simp] theorem State.tick_snd (s : State) (dt : Nat) : (State.tick dt s).snd = s.snd := rfl
@[simp] theorem State.tick_router (s : State) (dt : Nat) : (State.tick dt s).router = s.router := rfl
@[simp] theorem State.tick_coins (s : State) (dt : Nat) : (State.tick dt s).coins = s.coins := rfl
@[simp] theorem State.tick_profiles (s : State) (dt : Nat) : (State.tick dt s).profiles = s.profiles := rfl
@[simp] theorem State.tick_free (s : State) (dt : Nat) : (State.tick dt s).free = s.free := rfl
@[simp] theorem State.tick_reports (s : State) (dt : Nat) : (State.tick dt s).reports = s.reports := rfl
@[simp] theorem State.tick_pending (s : State) (dt : Nat) : (State.tick dt s).pending = s.pending := rfl

@[simp] theorem State.reach_powered (s : State) (t : Nat) : (State.reach t s).powered = s.powered := rfl
@[simp] theorem State.reach_link (s : State) (t : Nat) : (State.reach t s).link = s.link := rfl
@[simp] theorem State.reach_counters (s : State) (t : Nat) : (State.reach t s).counters = s.counters := rfl
@[simp] theorem State.reach_slots (s : State) (t : Nat) : (State.reach t s).slots = s.slots := rfl
@[simp] theorem State.reach_adapters (s : State) (t : Nat) : (State.reach t s).adapters = s.adapters := rfl
@[simp] theorem State.reach_bus (s : State) (t : Nat) : (State.reach t s).bus = s.bus := rfl
@[simp] theorem State.reach_monitors (s : State) (t : Nat) : (State.reach t s).monitors = s.monitors := rfl
@[simp] theorem State.reach_co (s : State) (t : Nat) : (State.reach t s).co = s.co := rfl
@[simp] theorem State.reach_frame (s : State) (t : Nat) : (State.reach t s).frame = s.frame := rfl
@[simp] theorem State.reach_out (s : State) (t : Nat) : (State.reach t s).out = s.out := rfl
@[simp] theorem State.reach_pic (s : State) (t : Nat) : (State.reach t s).pic = s.pic := rfl
@[simp] theorem State.reach_snd (s : State) (t : Nat) : (State.reach t s).snd = s.snd := rfl
@[simp] theorem State.reach_router (s : State) (t : Nat) : (State.reach t s).router = s.router := rfl
@[simp] theorem State.reach_coins (s : State) (t : Nat) : (State.reach t s).coins = s.coins := rfl
@[simp] theorem State.reach_profiles (s : State) (t : Nat) : (State.reach t s).profiles = s.profiles := rfl
@[simp] theorem State.reach_free (s : State) (t : Nat) : (State.reach t s).free = s.free := rfl
@[simp] theorem State.reach_reports (s : State) (t : Nat) : (State.reach t s).reports = s.reports := rfl
@[simp] theorem State.reach_pending (s : State) (t : Nat) : (State.reach t s).pending = s.pending := rfl

@[simp] theorem State.setSlot_powered (s : State) (n : Slot) (r : SlotRecord) : (State.setSlot s n r).powered = s.powered := rfl
@[simp] theorem State.setSlot_now (s : State) (n : Slot) (r : SlotRecord) : (State.setSlot s n r).now = s.now := rfl
@[simp] theorem State.setSlot_link (s : State) (n : Slot) (r : SlotRecord) : (State.setSlot s n r).link = s.link := rfl
@[simp] theorem State.setSlot_counters (s : State) (n : Slot) (r : SlotRecord) : (State.setSlot s n r).counters = s.counters := rfl
@[simp] theorem State.setSlot_adapters (s : State) (n : Slot) (r : SlotRecord) : (State.setSlot s n r).adapters = s.adapters := rfl
@[simp] theorem State.setSlot_bus (s : State) (n : Slot) (r : SlotRecord) : (State.setSlot s n r).bus = s.bus := rfl
@[simp] theorem State.setSlot_monitors (s : State) (n : Slot) (r : SlotRecord) : (State.setSlot s n r).monitors = s.monitors := rfl
@[simp] theorem State.setSlot_co (s : State) (n : Slot) (r : SlotRecord) : (State.setSlot s n r).co = s.co := rfl
@[simp] theorem State.setSlot_frame (s : State) (n : Slot) (r : SlotRecord) : (State.setSlot s n r).frame = s.frame := rfl
@[simp] theorem State.setSlot_out (s : State) (n : Slot) (r : SlotRecord) : (State.setSlot s n r).out = s.out := rfl
@[simp] theorem State.setSlot_pic (s : State) (n : Slot) (r : SlotRecord) : (State.setSlot s n r).pic = s.pic := rfl
@[simp] theorem State.setSlot_snd (s : State) (n : Slot) (r : SlotRecord) : (State.setSlot s n r).snd = s.snd := rfl
@[simp] theorem State.setSlot_router (s : State) (n : Slot) (r : SlotRecord) : (State.setSlot s n r).router = s.router := rfl
@[simp] theorem State.setSlot_coins (s : State) (n : Slot) (r : SlotRecord) : (State.setSlot s n r).coins = s.coins := rfl
@[simp] theorem State.setSlot_profiles (s : State) (n : Slot) (r : SlotRecord) : (State.setSlot s n r).profiles = s.profiles := rfl
@[simp] theorem State.setSlot_free (s : State) (n : Slot) (r : SlotRecord) : (State.setSlot s n r).free = s.free := rfl
@[simp] theorem State.setSlot_reports (s : State) (n : Slot) (r : SlotRecord) : (State.setSlot s n r).reports = s.reports := rfl
@[simp] theorem State.setSlot_pending (s : State) (n : Slot) (r : SlotRecord) : (State.setSlot s n r).pending = s.pending := rfl

@[simp] theorem State.setMonitor_powered (s : State) (src : Source) (m : Monitor) : (State.setMonitor s src m).powered = s.powered := rfl
@[simp] theorem State.setMonitor_now (s : State) (src : Source) (m : Monitor) : (State.setMonitor s src m).now = s.now := rfl
@[simp] theorem State.setMonitor_link (s : State) (src : Source) (m : Monitor) : (State.setMonitor s src m).link = s.link := rfl
@[simp] theorem State.setMonitor_counters (s : State) (src : Source) (m : Monitor) : (State.setMonitor s src m).counters = s.counters := rfl
@[simp] theorem State.setMonitor_slots (s : State) (src : Source) (m : Monitor) : (State.setMonitor s src m).slots = s.slots := rfl
@[simp] theorem State.setMonitor_adapters (s : State) (src : Source) (m : Monitor) : (State.setMonitor s src m).adapters = s.adapters := rfl
@[simp] theorem State.setMonitor_bus (s : State) (src : Source) (m : Monitor) : (State.setMonitor s src m).bus = s.bus := rfl
@[simp] theorem State.setMonitor_co (s : State) (src : Source) (m : Monitor) : (State.setMonitor s src m).co = s.co := rfl
@[simp] theorem State.setMonitor_frame (s : State) (src : Source) (m : Monitor) : (State.setMonitor s src m).frame = s.frame := rfl
@[simp] theorem State.setMonitor_out (s : State) (src : Source) (m : Monitor) : (State.setMonitor s src m).out = s.out := rfl
@[simp] theorem State.setMonitor_pic (s : State) (src : Source) (m : Monitor) : (State.setMonitor s src m).pic = s.pic := rfl
@[simp] theorem State.setMonitor_snd (s : State) (src : Source) (m : Monitor) : (State.setMonitor s src m).snd = s.snd := rfl
@[simp] theorem State.setMonitor_router (s : State) (src : Source) (m : Monitor) : (State.setMonitor s src m).router = s.router := rfl
@[simp] theorem State.setMonitor_coins (s : State) (src : Source) (m : Monitor) : (State.setMonitor s src m).coins = s.coins := rfl
@[simp] theorem State.setMonitor_profiles (s : State) (src : Source) (m : Monitor) : (State.setMonitor s src m).profiles = s.profiles := rfl
@[simp] theorem State.setMonitor_free (s : State) (src : Source) (m : Monitor) : (State.setMonitor s src m).free = s.free := rfl
@[simp] theorem State.setMonitor_reports (s : State) (src : Source) (m : Monitor) : (State.setMonitor s src m).reports = s.reports := rfl
@[simp] theorem State.setMonitor_pending (s : State) (src : Source) (m : Monitor) : (State.setMonitor s src m).pending = s.pending := rfl

@[simp] theorem State.setAdapter_powered (s : State) (n : Slot) (a : Adapter) : (State.setAdapter s n a).powered = s.powered := rfl
@[simp] theorem State.setAdapter_now (s : State) (n : Slot) (a : Adapter) : (State.setAdapter s n a).now = s.now := rfl
@[simp] theorem State.setAdapter_link (s : State) (n : Slot) (a : Adapter) : (State.setAdapter s n a).link = s.link := rfl
@[simp] theorem State.setAdapter_counters (s : State) (n : Slot) (a : Adapter) : (State.setAdapter s n a).counters = s.counters := rfl
@[simp] theorem State.setAdapter_slots (s : State) (n : Slot) (a : Adapter) : (State.setAdapter s n a).slots = s.slots := rfl
@[simp] theorem State.setAdapter_bus (s : State) (n : Slot) (a : Adapter) : (State.setAdapter s n a).bus = s.bus := rfl
@[simp] theorem State.setAdapter_monitors (s : State) (n : Slot) (a : Adapter) : (State.setAdapter s n a).monitors = s.monitors := rfl
@[simp] theorem State.setAdapter_co (s : State) (n : Slot) (a : Adapter) : (State.setAdapter s n a).co = s.co := rfl
@[simp] theorem State.setAdapter_frame (s : State) (n : Slot) (a : Adapter) : (State.setAdapter s n a).frame = s.frame := rfl
@[simp] theorem State.setAdapter_out (s : State) (n : Slot) (a : Adapter) : (State.setAdapter s n a).out = s.out := rfl
@[simp] theorem State.setAdapter_pic (s : State) (n : Slot) (a : Adapter) : (State.setAdapter s n a).pic = s.pic := rfl
@[simp] theorem State.setAdapter_snd (s : State) (n : Slot) (a : Adapter) : (State.setAdapter s n a).snd = s.snd := rfl
@[simp] theorem State.setAdapter_router (s : State) (n : Slot) (a : Adapter) : (State.setAdapter s n a).router = s.router := rfl
@[simp] theorem State.setAdapter_coins (s : State) (n : Slot) (a : Adapter) : (State.setAdapter s n a).coins = s.coins := rfl
@[simp] theorem State.setAdapter_profiles (s : State) (n : Slot) (a : Adapter) : (State.setAdapter s n a).profiles = s.profiles := rfl
@[simp] theorem State.setAdapter_free (s : State) (n : Slot) (a : Adapter) : (State.setAdapter s n a).free = s.free := rfl
@[simp] theorem State.setAdapter_reports (s : State) (n : Slot) (a : Adapter) : (State.setAdapter s n a).reports = s.reports := rfl
@[simp] theorem State.setAdapter_pending (s : State) (n : Slot) (a : Adapter) : (State.setAdapter s n a).pending = s.pending := rfl

@[simp] theorem State.setBuffer_powered (s : State) (b : Fin 3) (x : Buffer) : (State.setBuffer s b x).powered = s.powered := rfl
@[simp] theorem State.setBuffer_now (s : State) (b : Fin 3) (x : Buffer) : (State.setBuffer s b x).now = s.now := rfl
@[simp] theorem State.setBuffer_link (s : State) (b : Fin 3) (x : Buffer) : (State.setBuffer s b x).link = s.link := rfl
@[simp] theorem State.setBuffer_counters (s : State) (b : Fin 3) (x : Buffer) : (State.setBuffer s b x).counters = s.counters := rfl
@[simp] theorem State.setBuffer_slots (s : State) (b : Fin 3) (x : Buffer) : (State.setBuffer s b x).slots = s.slots := rfl
@[simp] theorem State.setBuffer_adapters (s : State) (b : Fin 3) (x : Buffer) : (State.setBuffer s b x).adapters = s.adapters := rfl
@[simp] theorem State.setBuffer_bus (s : State) (b : Fin 3) (x : Buffer) : (State.setBuffer s b x).bus = s.bus := rfl
@[simp] theorem State.setBuffer_monitors (s : State) (b : Fin 3) (x : Buffer) : (State.setBuffer s b x).monitors = s.monitors := rfl
@[simp] theorem State.setBuffer_co (s : State) (b : Fin 3) (x : Buffer) : (State.setBuffer s b x).co = s.co := rfl
@[simp] theorem State.setBuffer_out (s : State) (b : Fin 3) (x : Buffer) : (State.setBuffer s b x).out = s.out := rfl
@[simp] theorem State.setBuffer_pic (s : State) (b : Fin 3) (x : Buffer) : (State.setBuffer s b x).pic = s.pic := rfl
@[simp] theorem State.setBuffer_snd (s : State) (b : Fin 3) (x : Buffer) : (State.setBuffer s b x).snd = s.snd := rfl
@[simp] theorem State.setBuffer_router (s : State) (b : Fin 3) (x : Buffer) : (State.setBuffer s b x).router = s.router := rfl
@[simp] theorem State.setBuffer_coins (s : State) (b : Fin 3) (x : Buffer) : (State.setBuffer s b x).coins = s.coins := rfl
@[simp] theorem State.setBuffer_profiles (s : State) (b : Fin 3) (x : Buffer) : (State.setBuffer s b x).profiles = s.profiles := rfl
@[simp] theorem State.setBuffer_free (s : State) (b : Fin 3) (x : Buffer) : (State.setBuffer s b x).free = s.free := rfl
@[simp] theorem State.setBuffer_reports (s : State) (b : Fin 3) (x : Buffer) : (State.setBuffer s b x).reports = s.reports := rfl
@[simp] theorem State.setBuffer_pending (s : State) (b : Fin 3) (x : Buffer) : (State.setBuffer s b x).pending = s.pending := rfl

@[simp] theorem State.setChute_powered (s : State) (c : Chute) (x : ChuteRecord) : (State.setChute s c x).powered = s.powered := rfl
@[simp] theorem State.setChute_now (s : State) (c : Chute) (x : ChuteRecord) : (State.setChute s c x).now = s.now := rfl
@[simp] theorem State.setChute_link (s : State) (c : Chute) (x : ChuteRecord) : (State.setChute s c x).link = s.link := rfl
@[simp] theorem State.setChute_counters (s : State) (c : Chute) (x : ChuteRecord) : (State.setChute s c x).counters = s.counters := rfl
@[simp] theorem State.setChute_slots (s : State) (c : Chute) (x : ChuteRecord) : (State.setChute s c x).slots = s.slots := rfl
@[simp] theorem State.setChute_adapters (s : State) (c : Chute) (x : ChuteRecord) : (State.setChute s c x).adapters = s.adapters := rfl
@[simp] theorem State.setChute_bus (s : State) (c : Chute) (x : ChuteRecord) : (State.setChute s c x).bus = s.bus := rfl
@[simp] theorem State.setChute_monitors (s : State) (c : Chute) (x : ChuteRecord) : (State.setChute s c x).monitors = s.monitors := rfl
@[simp] theorem State.setChute_co (s : State) (c : Chute) (x : ChuteRecord) : (State.setChute s c x).co = s.co := rfl
@[simp] theorem State.setChute_frame (s : State) (c : Chute) (x : ChuteRecord) : (State.setChute s c x).frame = s.frame := rfl
@[simp] theorem State.setChute_out (s : State) (c : Chute) (x : ChuteRecord) : (State.setChute s c x).out = s.out := rfl
@[simp] theorem State.setChute_pic (s : State) (c : Chute) (x : ChuteRecord) : (State.setChute s c x).pic = s.pic := rfl
@[simp] theorem State.setChute_snd (s : State) (c : Chute) (x : ChuteRecord) : (State.setChute s c x).snd = s.snd := rfl
@[simp] theorem State.setChute_router (s : State) (c : Chute) (x : ChuteRecord) : (State.setChute s c x).router = s.router := rfl
@[simp] theorem State.setChute_profiles (s : State) (c : Chute) (x : ChuteRecord) : (State.setChute s c x).profiles = s.profiles := rfl
@[simp] theorem State.setChute_free (s : State) (c : Chute) (x : ChuteRecord) : (State.setChute s c x).free = s.free := rfl
@[simp] theorem State.setChute_reports (s : State) (c : Chute) (x : ChuteRecord) : (State.setChute s c x).reports = s.reports := rfl
@[simp] theorem State.setChute_pending (s : State) (c : Chute) (x : ChuteRecord) : (State.setChute s c x).pending = s.pending := rfl

@[simp] theorem State.setQueue_powered (s : State) (n : Slot) (q : List CoinLine) : (State.setQueue s n q).powered = s.powered := rfl
@[simp] theorem State.setQueue_now (s : State) (n : Slot) (q : List CoinLine) : (State.setQueue s n q).now = s.now := rfl
@[simp] theorem State.setQueue_link (s : State) (n : Slot) (q : List CoinLine) : (State.setQueue s n q).link = s.link := rfl
@[simp] theorem State.setQueue_counters (s : State) (n : Slot) (q : List CoinLine) : (State.setQueue s n q).counters = s.counters := rfl
@[simp] theorem State.setQueue_slots (s : State) (n : Slot) (q : List CoinLine) : (State.setQueue s n q).slots = s.slots := rfl
@[simp] theorem State.setQueue_adapters (s : State) (n : Slot) (q : List CoinLine) : (State.setQueue s n q).adapters = s.adapters := rfl
@[simp] theorem State.setQueue_bus (s : State) (n : Slot) (q : List CoinLine) : (State.setQueue s n q).bus = s.bus := rfl
@[simp] theorem State.setQueue_monitors (s : State) (n : Slot) (q : List CoinLine) : (State.setQueue s n q).monitors = s.monitors := rfl
@[simp] theorem State.setQueue_co (s : State) (n : Slot) (q : List CoinLine) : (State.setQueue s n q).co = s.co := rfl
@[simp] theorem State.setQueue_frame (s : State) (n : Slot) (q : List CoinLine) : (State.setQueue s n q).frame = s.frame := rfl
@[simp] theorem State.setQueue_out (s : State) (n : Slot) (q : List CoinLine) : (State.setQueue s n q).out = s.out := rfl
@[simp] theorem State.setQueue_pic (s : State) (n : Slot) (q : List CoinLine) : (State.setQueue s n q).pic = s.pic := rfl
@[simp] theorem State.setQueue_snd (s : State) (n : Slot) (q : List CoinLine) : (State.setQueue s n q).snd = s.snd := rfl
@[simp] theorem State.setQueue_router (s : State) (n : Slot) (q : List CoinLine) : (State.setQueue s n q).router = s.router := rfl
@[simp] theorem State.setQueue_profiles (s : State) (n : Slot) (q : List CoinLine) : (State.setQueue s n q).profiles = s.profiles := rfl
@[simp] theorem State.setQueue_free (s : State) (n : Slot) (q : List CoinLine) : (State.setQueue s n q).free = s.free := rfl
@[simp] theorem State.setQueue_reports (s : State) (n : Slot) (q : List CoinLine) : (State.setQueue s n q).reports = s.reports := rfl
@[simp] theorem State.setQueue_pending (s : State) (n : Slot) (q : List CoinLine) : (State.setQueue s n q).pending = s.pending := rfl

@[simp] theorem State.setGenerator_powered (s : State) (n : Slot) (g : Generator) : (State.setGenerator s n g).powered = s.powered := rfl
@[simp] theorem State.setGenerator_now (s : State) (n : Slot) (g : Generator) : (State.setGenerator s n g).now = s.now := rfl
@[simp] theorem State.setGenerator_link (s : State) (n : Slot) (g : Generator) : (State.setGenerator s n g).link = s.link := rfl
@[simp] theorem State.setGenerator_counters (s : State) (n : Slot) (g : Generator) : (State.setGenerator s n g).counters = s.counters := rfl
@[simp] theorem State.setGenerator_slots (s : State) (n : Slot) (g : Generator) : (State.setGenerator s n g).slots = s.slots := rfl
@[simp] theorem State.setGenerator_adapters (s : State) (n : Slot) (g : Generator) : (State.setGenerator s n g).adapters = s.adapters := rfl
@[simp] theorem State.setGenerator_bus (s : State) (n : Slot) (g : Generator) : (State.setGenerator s n g).bus = s.bus := rfl
@[simp] theorem State.setGenerator_monitors (s : State) (n : Slot) (g : Generator) : (State.setGenerator s n g).monitors = s.monitors := rfl
@[simp] theorem State.setGenerator_co (s : State) (n : Slot) (g : Generator) : (State.setGenerator s n g).co = s.co := rfl
@[simp] theorem State.setGenerator_frame (s : State) (n : Slot) (g : Generator) : (State.setGenerator s n g).frame = s.frame := rfl
@[simp] theorem State.setGenerator_out (s : State) (n : Slot) (g : Generator) : (State.setGenerator s n g).out = s.out := rfl
@[simp] theorem State.setGenerator_pic (s : State) (n : Slot) (g : Generator) : (State.setGenerator s n g).pic = s.pic := rfl
@[simp] theorem State.setGenerator_snd (s : State) (n : Slot) (g : Generator) : (State.setGenerator s n g).snd = s.snd := rfl
@[simp] theorem State.setGenerator_router (s : State) (n : Slot) (g : Generator) : (State.setGenerator s n g).router = s.router := rfl
@[simp] theorem State.setGenerator_profiles (s : State) (n : Slot) (g : Generator) : (State.setGenerator s n g).profiles = s.profiles := rfl
@[simp] theorem State.setGenerator_free (s : State) (n : Slot) (g : Generator) : (State.setGenerator s n g).free = s.free := rfl
@[simp] theorem State.setGenerator_reports (s : State) (n : Slot) (g : Generator) : (State.setGenerator s n g).reports = s.reports := rfl
@[simp] theorem State.setGenerator_pending (s : State) (n : Slot) (g : Generator) : (State.setGenerator s n g).pending = s.pending := rfl

@[simp] theorem State.setMeter_powered (s : State) (m : Meter) (x : MeterRecord) : (State.setMeter s m x).powered = s.powered := rfl
@[simp] theorem State.setMeter_now (s : State) (m : Meter) (x : MeterRecord) : (State.setMeter s m x).now = s.now := rfl
@[simp] theorem State.setMeter_link (s : State) (m : Meter) (x : MeterRecord) : (State.setMeter s m x).link = s.link := rfl
@[simp] theorem State.setMeter_counters (s : State) (m : Meter) (x : MeterRecord) : (State.setMeter s m x).counters = s.counters := rfl
@[simp] theorem State.setMeter_slots (s : State) (m : Meter) (x : MeterRecord) : (State.setMeter s m x).slots = s.slots := rfl
@[simp] theorem State.setMeter_adapters (s : State) (m : Meter) (x : MeterRecord) : (State.setMeter s m x).adapters = s.adapters := rfl
@[simp] theorem State.setMeter_bus (s : State) (m : Meter) (x : MeterRecord) : (State.setMeter s m x).bus = s.bus := rfl
@[simp] theorem State.setMeter_monitors (s : State) (m : Meter) (x : MeterRecord) : (State.setMeter s m x).monitors = s.monitors := rfl
@[simp] theorem State.setMeter_co (s : State) (m : Meter) (x : MeterRecord) : (State.setMeter s m x).co = s.co := rfl
@[simp] theorem State.setMeter_frame (s : State) (m : Meter) (x : MeterRecord) : (State.setMeter s m x).frame = s.frame := rfl
@[simp] theorem State.setMeter_out (s : State) (m : Meter) (x : MeterRecord) : (State.setMeter s m x).out = s.out := rfl
@[simp] theorem State.setMeter_pic (s : State) (m : Meter) (x : MeterRecord) : (State.setMeter s m x).pic = s.pic := rfl
@[simp] theorem State.setMeter_snd (s : State) (m : Meter) (x : MeterRecord) : (State.setMeter s m x).snd = s.snd := rfl
@[simp] theorem State.setMeter_router (s : State) (m : Meter) (x : MeterRecord) : (State.setMeter s m x).router = s.router := rfl
@[simp] theorem State.setMeter_profiles (s : State) (m : Meter) (x : MeterRecord) : (State.setMeter s m x).profiles = s.profiles := rfl
@[simp] theorem State.setMeter_free (s : State) (m : Meter) (x : MeterRecord) : (State.setMeter s m x).free = s.free := rfl
@[simp] theorem State.setMeter_reports (s : State) (m : Meter) (x : MeterRecord) : (State.setMeter s m x).reports = s.reports := rfl
@[simp] theorem State.setMeter_pending (s : State) (m : Meter) (x : MeterRecord) : (State.setMeter s m x).pending = s.pending := rfl

@[simp] theorem State.setProfile_powered (s : State) (n : Slot) (p : SlotProfile) : (State.setProfile s n p).powered = s.powered := rfl
@[simp] theorem State.setProfile_now (s : State) (n : Slot) (p : SlotProfile) : (State.setProfile s n p).now = s.now := rfl
@[simp] theorem State.setProfile_link (s : State) (n : Slot) (p : SlotProfile) : (State.setProfile s n p).link = s.link := rfl
@[simp] theorem State.setProfile_counters (s : State) (n : Slot) (p : SlotProfile) : (State.setProfile s n p).counters = s.counters := rfl
@[simp] theorem State.setProfile_slots (s : State) (n : Slot) (p : SlotProfile) : (State.setProfile s n p).slots = s.slots := rfl
@[simp] theorem State.setProfile_adapters (s : State) (n : Slot) (p : SlotProfile) : (State.setProfile s n p).adapters = s.adapters := rfl
@[simp] theorem State.setProfile_bus (s : State) (n : Slot) (p : SlotProfile) : (State.setProfile s n p).bus = s.bus := rfl
@[simp] theorem State.setProfile_monitors (s : State) (n : Slot) (p : SlotProfile) : (State.setProfile s n p).monitors = s.monitors := rfl
@[simp] theorem State.setProfile_co (s : State) (n : Slot) (p : SlotProfile) : (State.setProfile s n p).co = s.co := rfl
@[simp] theorem State.setProfile_frame (s : State) (n : Slot) (p : SlotProfile) : (State.setProfile s n p).frame = s.frame := rfl
@[simp] theorem State.setProfile_out (s : State) (n : Slot) (p : SlotProfile) : (State.setProfile s n p).out = s.out := rfl
@[simp] theorem State.setProfile_pic (s : State) (n : Slot) (p : SlotProfile) : (State.setProfile s n p).pic = s.pic := rfl
@[simp] theorem State.setProfile_snd (s : State) (n : Slot) (p : SlotProfile) : (State.setProfile s n p).snd = s.snd := rfl
@[simp] theorem State.setProfile_router (s : State) (n : Slot) (p : SlotProfile) : (State.setProfile s n p).router = s.router := rfl
@[simp] theorem State.setProfile_coins (s : State) (n : Slot) (p : SlotProfile) : (State.setProfile s n p).coins = s.coins := rfl
@[simp] theorem State.setProfile_free (s : State) (n : Slot) (p : SlotProfile) : (State.setProfile s n p).free = s.free := rfl
@[simp] theorem State.setProfile_reports (s : State) (n : Slot) (p : SlotProfile) : (State.setProfile s n p).reports = s.reports := rfl
@[simp] theorem State.setProfile_pending (s : State) (n : Slot) (p : SlotProfile) : (State.setProfile s n p).pending = s.pending := rfl

@[simp] theorem State.setCounter_powered (s : State) (i : CounterId) (c : Counter) : (State.setCounter s i c).powered = s.powered := rfl
@[simp] theorem State.setCounter_now (s : State) (i : CounterId) (c : Counter) : (State.setCounter s i c).now = s.now := rfl
@[simp] theorem State.setCounter_link (s : State) (i : CounterId) (c : Counter) : (State.setCounter s i c).link = s.link := rfl
@[simp] theorem State.setCounter_slots (s : State) (i : CounterId) (c : Counter) : (State.setCounter s i c).slots = s.slots := rfl
@[simp] theorem State.setCounter_adapters (s : State) (i : CounterId) (c : Counter) : (State.setCounter s i c).adapters = s.adapters := rfl
@[simp] theorem State.setCounter_bus (s : State) (i : CounterId) (c : Counter) : (State.setCounter s i c).bus = s.bus := rfl
@[simp] theorem State.setCounter_monitors (s : State) (i : CounterId) (c : Counter) : (State.setCounter s i c).monitors = s.monitors := rfl
@[simp] theorem State.setCounter_co (s : State) (i : CounterId) (c : Counter) : (State.setCounter s i c).co = s.co := rfl
@[simp] theorem State.setCounter_frame (s : State) (i : CounterId) (c : Counter) : (State.setCounter s i c).frame = s.frame := rfl
@[simp] theorem State.setCounter_out (s : State) (i : CounterId) (c : Counter) : (State.setCounter s i c).out = s.out := rfl
@[simp] theorem State.setCounter_pic (s : State) (i : CounterId) (c : Counter) : (State.setCounter s i c).pic = s.pic := rfl
@[simp] theorem State.setCounter_snd (s : State) (i : CounterId) (c : Counter) : (State.setCounter s i c).snd = s.snd := rfl
@[simp] theorem State.setCounter_router (s : State) (i : CounterId) (c : Counter) : (State.setCounter s i c).router = s.router := rfl
@[simp] theorem State.setCounter_coins (s : State) (i : CounterId) (c : Counter) : (State.setCounter s i c).coins = s.coins := rfl
@[simp] theorem State.setCounter_profiles (s : State) (i : CounterId) (c : Counter) : (State.setCounter s i c).profiles = s.profiles := rfl
@[simp] theorem State.setCounter_free (s : State) (i : CounterId) (c : Counter) : (State.setCounter s i c).free = s.free := rfl
@[simp] theorem State.setCounter_reports (s : State) (i : CounterId) (c : Counter) : (State.setCounter s i c).reports = s.reports := rfl
@[simp] theorem State.setCounter_pending (s : State) (i : CounterId) (c : Counter) : (State.setCounter s i c).pending = s.pending := rfl

@[simp] theorem State.report_powered (s : State) (r : Report) : (State.report s r).powered = s.powered := rfl
@[simp] theorem State.report_now (s : State) (r : Report) : (State.report s r).now = s.now := rfl
@[simp] theorem State.report_link (s : State) (r : Report) : (State.report s r).link = s.link := rfl
@[simp] theorem State.report_counters (s : State) (r : Report) : (State.report s r).counters = s.counters := rfl
@[simp] theorem State.report_slots (s : State) (r : Report) : (State.report s r).slots = s.slots := rfl
@[simp] theorem State.report_adapters (s : State) (r : Report) : (State.report s r).adapters = s.adapters := rfl
@[simp] theorem State.report_bus (s : State) (r : Report) : (State.report s r).bus = s.bus := rfl
@[simp] theorem State.report_monitors (s : State) (r : Report) : (State.report s r).monitors = s.monitors := rfl
@[simp] theorem State.report_co (s : State) (r : Report) : (State.report s r).co = s.co := rfl
@[simp] theorem State.report_frame (s : State) (r : Report) : (State.report s r).frame = s.frame := rfl
@[simp] theorem State.report_out (s : State) (r : Report) : (State.report s r).out = s.out := rfl
@[simp] theorem State.report_pic (s : State) (r : Report) : (State.report s r).pic = s.pic := rfl
@[simp] theorem State.report_snd (s : State) (r : Report) : (State.report s r).snd = s.snd := rfl
@[simp] theorem State.report_router (s : State) (r : Report) : (State.report s r).router = s.router := rfl
@[simp] theorem State.report_coins (s : State) (r : Report) : (State.report s r).coins = s.coins := rfl
@[simp] theorem State.report_profiles (s : State) (r : Report) : (State.report s r).profiles = s.profiles := rfl
@[simp] theorem State.report_free (s : State) (r : Report) : (State.report s r).free = s.free := rfl
@[simp] theorem State.report_pending (s : State) (r : Report) : (State.report s r).pending = s.pending := rfl

@[simp] theorem State.nextFree_powered (s : State) : (State.nextFree s).powered = s.powered := rfl
@[simp] theorem State.nextFree_now (s : State) : (State.nextFree s).now = s.now := rfl
@[simp] theorem State.nextFree_link (s : State) : (State.nextFree s).link = s.link := rfl
@[simp] theorem State.nextFree_counters (s : State) : (State.nextFree s).counters = s.counters := rfl
@[simp] theorem State.nextFree_slots (s : State) : (State.nextFree s).slots = s.slots := rfl
@[simp] theorem State.nextFree_adapters (s : State) : (State.nextFree s).adapters = s.adapters := rfl
@[simp] theorem State.nextFree_bus (s : State) : (State.nextFree s).bus = s.bus := rfl
@[simp] theorem State.nextFree_monitors (s : State) : (State.nextFree s).monitors = s.monitors := rfl
@[simp] theorem State.nextFree_co (s : State) : (State.nextFree s).co = s.co := rfl
@[simp] theorem State.nextFree_frame (s : State) : (State.nextFree s).frame = s.frame := rfl
@[simp] theorem State.nextFree_out (s : State) : (State.nextFree s).out = s.out := rfl
@[simp] theorem State.nextFree_pic (s : State) : (State.nextFree s).pic = s.pic := rfl
@[simp] theorem State.nextFree_snd (s : State) : (State.nextFree s).snd = s.snd := rfl
@[simp] theorem State.nextFree_router (s : State) : (State.nextFree s).router = s.router := rfl
@[simp] theorem State.nextFree_coins (s : State) : (State.nextFree s).coins = s.coins := rfl
@[simp] theorem State.nextFree_profiles (s : State) : (State.nextFree s).profiles = s.profiles := rfl
@[simp] theorem State.nextFree_reports (s : State) : (State.nextFree s).reports = s.reports := rfl
@[simp] theorem State.nextFree_pending (s : State) : (State.nextFree s).pending = s.pending := rfl

@[simp] theorem setRx_powered (s : State) (rx : RxState) : (setRx rx s).powered = s.powered := rfl
@[simp] theorem setRx_now (s : State) (rx : RxState) : (setRx rx s).now = s.now := rfl
@[simp] theorem setRx_counters (s : State) (rx : RxState) : (setRx rx s).counters = s.counters := rfl
@[simp] theorem setRx_slots (s : State) (rx : RxState) : (setRx rx s).slots = s.slots := rfl
@[simp] theorem setRx_adapters (s : State) (rx : RxState) : (setRx rx s).adapters = s.adapters := rfl
@[simp] theorem setRx_bus (s : State) (rx : RxState) : (setRx rx s).bus = s.bus := rfl
@[simp] theorem setRx_monitors (s : State) (rx : RxState) : (setRx rx s).monitors = s.monitors := rfl
@[simp] theorem setRx_co (s : State) (rx : RxState) : (setRx rx s).co = s.co := rfl
@[simp] theorem setRx_frame (s : State) (rx : RxState) : (setRx rx s).frame = s.frame := rfl
@[simp] theorem setRx_out (s : State) (rx : RxState) : (setRx rx s).out = s.out := rfl
@[simp] theorem setRx_pic (s : State) (rx : RxState) : (setRx rx s).pic = s.pic := rfl
@[simp] theorem setRx_snd (s : State) (rx : RxState) : (setRx rx s).snd = s.snd := rfl
@[simp] theorem setRx_router (s : State) (rx : RxState) : (setRx rx s).router = s.router := rfl
@[simp] theorem setRx_coins (s : State) (rx : RxState) : (setRx rx s).coins = s.coins := rfl
@[simp] theorem setRx_profiles (s : State) (rx : RxState) : (setRx rx s).profiles = s.profiles := rfl
@[simp] theorem setRx_free (s : State) (rx : RxState) : (setRx rx s).free = s.free := rfl
@[simp] theorem setRx_reports (s : State) (rx : RxState) : (setRx rx s).reports = s.reports := rfl
@[simp] theorem setRx_pending (s : State) (rx : RxState) : (setRx rx s).pending = s.pending := rfl

@[simp] theorem setHold_powered (s : State) (h : Bool) : (setHold h s).powered = s.powered := rfl
@[simp] theorem setHold_now (s : State) (h : Bool) : (setHold h s).now = s.now := rfl
@[simp] theorem setHold_link (s : State) (h : Bool) : (setHold h s).link = s.link := rfl
@[simp] theorem setHold_counters (s : State) (h : Bool) : (setHold h s).counters = s.counters := rfl
@[simp] theorem setHold_slots (s : State) (h : Bool) : (setHold h s).slots = s.slots := rfl
@[simp] theorem setHold_adapters (s : State) (h : Bool) : (setHold h s).adapters = s.adapters := rfl
@[simp] theorem setHold_bus (s : State) (h : Bool) : (setHold h s).bus = s.bus := rfl
@[simp] theorem setHold_monitors (s : State) (h : Bool) : (setHold h s).monitors = s.monitors := rfl
@[simp] theorem setHold_co (s : State) (h : Bool) : (setHold h s).co = s.co := rfl
@[simp] theorem setHold_out (s : State) (h : Bool) : (setHold h s).out = s.out := rfl
@[simp] theorem setHold_pic (s : State) (h : Bool) : (setHold h s).pic = s.pic := rfl
@[simp] theorem setHold_snd (s : State) (h : Bool) : (setHold h s).snd = s.snd := rfl
@[simp] theorem setHold_router (s : State) (h : Bool) : (setHold h s).router = s.router := rfl
@[simp] theorem setHold_coins (s : State) (h : Bool) : (setHold h s).coins = s.coins := rfl
@[simp] theorem setHold_profiles (s : State) (h : Bool) : (setHold h s).profiles = s.profiles := rfl
@[simp] theorem setHold_free (s : State) (h : Bool) : (setHold h s).free = s.free := rfl
@[simp] theorem setHold_reports (s : State) (h : Bool) : (setHold h s).reports = s.reports := rfl
@[simp] theorem setHold_pending (s : State) (h : Bool) : (setHold h s).pending = s.pending := rfl

@[simp] theorem setBlank_powered (s : State) (b : Bool) : (setBlank b s).powered = s.powered := rfl
@[simp] theorem setBlank_now (s : State) (b : Bool) : (setBlank b s).now = s.now := rfl
@[simp] theorem setBlank_link (s : State) (b : Bool) : (setBlank b s).link = s.link := rfl
@[simp] theorem setBlank_counters (s : State) (b : Bool) : (setBlank b s).counters = s.counters := rfl
@[simp] theorem setBlank_slots (s : State) (b : Bool) : (setBlank b s).slots = s.slots := rfl
@[simp] theorem setBlank_adapters (s : State) (b : Bool) : (setBlank b s).adapters = s.adapters := rfl
@[simp] theorem setBlank_bus (s : State) (b : Bool) : (setBlank b s).bus = s.bus := rfl
@[simp] theorem setBlank_monitors (s : State) (b : Bool) : (setBlank b s).monitors = s.monitors := rfl
@[simp] theorem setBlank_co (s : State) (b : Bool) : (setBlank b s).co = s.co := rfl
@[simp] theorem setBlank_out (s : State) (b : Bool) : (setBlank b s).out = s.out := rfl
@[simp] theorem setBlank_pic (s : State) (b : Bool) : (setBlank b s).pic = s.pic := rfl
@[simp] theorem setBlank_snd (s : State) (b : Bool) : (setBlank b s).snd = s.snd := rfl
@[simp] theorem setBlank_router (s : State) (b : Bool) : (setBlank b s).router = s.router := rfl
@[simp] theorem setBlank_coins (s : State) (b : Bool) : (setBlank b s).coins = s.coins := rfl
@[simp] theorem setBlank_profiles (s : State) (b : Bool) : (setBlank b s).profiles = s.profiles := rfl
@[simp] theorem setBlank_free (s : State) (b : Bool) : (setBlank b s).free = s.free := rfl
@[simp] theorem setBlank_reports (s : State) (b : Bool) : (setBlank b s).reports = s.reports := rfl
@[simp] theorem setBlank_pending (s : State) (b : Bool) : (setBlank b s).pending = s.pending := rfl

@[simp] theorem setRecord_powered (s : State) (r : Option Record) : (setRecord r s).powered = s.powered := rfl
@[simp] theorem setRecord_now (s : State) (r : Option Record) : (setRecord r s).now = s.now := rfl
@[simp] theorem setRecord_link (s : State) (r : Option Record) : (setRecord r s).link = s.link := rfl
@[simp] theorem setRecord_counters (s : State) (r : Option Record) : (setRecord r s).counters = s.counters := rfl
@[simp] theorem setRecord_slots (s : State) (r : Option Record) : (setRecord r s).slots = s.slots := rfl
@[simp] theorem setRecord_adapters (s : State) (r : Option Record) : (setRecord r s).adapters = s.adapters := rfl
@[simp] theorem setRecord_bus (s : State) (r : Option Record) : (setRecord r s).bus = s.bus := rfl
@[simp] theorem setRecord_monitors (s : State) (r : Option Record) : (setRecord r s).monitors = s.monitors := rfl
@[simp] theorem setRecord_frame (s : State) (r : Option Record) : (setRecord r s).frame = s.frame := rfl
@[simp] theorem setRecord_out (s : State) (r : Option Record) : (setRecord r s).out = s.out := rfl
@[simp] theorem setRecord_pic (s : State) (r : Option Record) : (setRecord r s).pic = s.pic := rfl
@[simp] theorem setRecord_snd (s : State) (r : Option Record) : (setRecord r s).snd = s.snd := rfl
@[simp] theorem setRecord_router (s : State) (r : Option Record) : (setRecord r s).router = s.router := rfl
@[simp] theorem setRecord_coins (s : State) (r : Option Record) : (setRecord r s).coins = s.coins := rfl
@[simp] theorem setRecord_profiles (s : State) (r : Option Record) : (setRecord r s).profiles = s.profiles := rfl
@[simp] theorem setRecord_free (s : State) (r : Option Record) : (setRecord r s).free = s.free := rfl
@[simp] theorem setRecord_reports (s : State) (r : Option Record) : (setRecord r s).reports = s.reports := rfl
@[simp] theorem setRecord_pending (s : State) (r : Option Record) : (setRecord r s).pending = s.pending := rfl

@[simp] theorem setPending_powered (s : State) (p : Option Pending) : (setPending p s).powered = s.powered := rfl
@[simp] theorem setPending_now (s : State) (p : Option Pending) : (setPending p s).now = s.now := rfl
@[simp] theorem setPending_link (s : State) (p : Option Pending) : (setPending p s).link = s.link := rfl
@[simp] theorem setPending_counters (s : State) (p : Option Pending) : (setPending p s).counters = s.counters := rfl
@[simp] theorem setPending_slots (s : State) (p : Option Pending) : (setPending p s).slots = s.slots := rfl
@[simp] theorem setPending_adapters (s : State) (p : Option Pending) : (setPending p s).adapters = s.adapters := rfl
@[simp] theorem setPending_bus (s : State) (p : Option Pending) : (setPending p s).bus = s.bus := rfl
@[simp] theorem setPending_monitors (s : State) (p : Option Pending) : (setPending p s).monitors = s.monitors := rfl
@[simp] theorem setPending_frame (s : State) (p : Option Pending) : (setPending p s).frame = s.frame := rfl
@[simp] theorem setPending_out (s : State) (p : Option Pending) : (setPending p s).out = s.out := rfl
@[simp] theorem setPending_pic (s : State) (p : Option Pending) : (setPending p s).pic = s.pic := rfl
@[simp] theorem setPending_snd (s : State) (p : Option Pending) : (setPending p s).snd = s.snd := rfl
@[simp] theorem setPending_router (s : State) (p : Option Pending) : (setPending p s).router = s.router := rfl
@[simp] theorem setPending_coins (s : State) (p : Option Pending) : (setPending p s).coins = s.coins := rfl
@[simp] theorem setPending_profiles (s : State) (p : Option Pending) : (setPending p s).profiles = s.profiles := rfl
@[simp] theorem setPending_free (s : State) (p : Option Pending) : (setPending p s).free = s.free := rfl
@[simp] theorem setPending_reports (s : State) (p : Option Pending) : (setPending p s).reports = s.reports := rfl
@[simp] theorem setPending_pending (s : State) (p : Option Pending) : (setPending p s).pending = s.pending := rfl

@[simp] theorem setWatch_powered (s : State) (w : Watch) : (setWatch w s).powered = s.powered := rfl
@[simp] theorem setWatch_now (s : State) (w : Watch) : (setWatch w s).now = s.now := rfl
@[simp] theorem setWatch_link (s : State) (w : Watch) : (setWatch w s).link = s.link := rfl
@[simp] theorem setWatch_counters (s : State) (w : Watch) : (setWatch w s).counters = s.counters := rfl
@[simp] theorem setWatch_slots (s : State) (w : Watch) : (setWatch w s).slots = s.slots := rfl
@[simp] theorem setWatch_adapters (s : State) (w : Watch) : (setWatch w s).adapters = s.adapters := rfl
@[simp] theorem setWatch_bus (s : State) (w : Watch) : (setWatch w s).bus = s.bus := rfl
@[simp] theorem setWatch_monitors (s : State) (w : Watch) : (setWatch w s).monitors = s.monitors := rfl
@[simp] theorem setWatch_frame (s : State) (w : Watch) : (setWatch w s).frame = s.frame := rfl
@[simp] theorem setWatch_out (s : State) (w : Watch) : (setWatch w s).out = s.out := rfl
@[simp] theorem setWatch_pic (s : State) (w : Watch) : (setWatch w s).pic = s.pic := rfl
@[simp] theorem setWatch_snd (s : State) (w : Watch) : (setWatch w s).snd = s.snd := rfl
@[simp] theorem setWatch_router (s : State) (w : Watch) : (setWatch w s).router = s.router := rfl
@[simp] theorem setWatch_coins (s : State) (w : Watch) : (setWatch w s).coins = s.coins := rfl
@[simp] theorem setWatch_profiles (s : State) (w : Watch) : (setWatch w s).profiles = s.profiles := rfl
@[simp] theorem setWatch_free (s : State) (w : Watch) : (setWatch w s).free = s.free := rfl
@[simp] theorem setWatch_reports (s : State) (w : Watch) : (setWatch w s).reports = s.reports := rfl
@[simp] theorem setWatch_pending (s : State) (w : Watch) : (setWatch w s).pending = s.pending := rfl

@[simp] theorem setView_powered (s : State) (n : Slot) (v : View) : (setView n v s).powered = s.powered := rfl
@[simp] theorem setView_now (s : State) (n : Slot) (v : View) : (setView n v s).now = s.now := rfl
@[simp] theorem setView_link (s : State) (n : Slot) (v : View) : (setView n v s).link = s.link := rfl
@[simp] theorem setView_counters (s : State) (n : Slot) (v : View) : (setView n v s).counters = s.counters := rfl
@[simp] theorem setView_slots (s : State) (n : Slot) (v : View) : (setView n v s).slots = s.slots := rfl
@[simp] theorem setView_adapters (s : State) (n : Slot) (v : View) : (setView n v s).adapters = s.adapters := rfl
@[simp] theorem setView_monitors (s : State) (n : Slot) (v : View) : (setView n v s).monitors = s.monitors := rfl
@[simp] theorem setView_co (s : State) (n : Slot) (v : View) : (setView n v s).co = s.co := rfl
@[simp] theorem setView_frame (s : State) (n : Slot) (v : View) : (setView n v s).frame = s.frame := rfl
@[simp] theorem setView_out (s : State) (n : Slot) (v : View) : (setView n v s).out = s.out := rfl
@[simp] theorem setView_pic (s : State) (n : Slot) (v : View) : (setView n v s).pic = s.pic := rfl
@[simp] theorem setView_snd (s : State) (n : Slot) (v : View) : (setView n v s).snd = s.snd := rfl
@[simp] theorem setView_router (s : State) (n : Slot) (v : View) : (setView n v s).router = s.router := rfl
@[simp] theorem setView_coins (s : State) (n : Slot) (v : View) : (setView n v s).coins = s.coins := rfl
@[simp] theorem setView_profiles (s : State) (n : Slot) (v : View) : (setView n v s).profiles = s.profiles := rfl
@[simp] theorem setView_free (s : State) (n : Slot) (v : View) : (setView n v s).free = s.free := rfl
@[simp] theorem setView_reports (s : State) (n : Slot) (v : View) : (setView n v s).reports = s.reports := rfl
@[simp] theorem setView_pending (s : State) (n : Slot) (v : View) : (setView n v s).pending = s.pending := rfl

@[simp] theorem setMisses_powered (s : State) (n : Slot) (k : Nat) : (setMisses n k s).powered = s.powered := rfl
@[simp] theorem setMisses_now (s : State) (n : Slot) (k : Nat) : (setMisses n k s).now = s.now := rfl
@[simp] theorem setMisses_link (s : State) (n : Slot) (k : Nat) : (setMisses n k s).link = s.link := rfl
@[simp] theorem setMisses_counters (s : State) (n : Slot) (k : Nat) : (setMisses n k s).counters = s.counters := rfl
@[simp] theorem setMisses_slots (s : State) (n : Slot) (k : Nat) : (setMisses n k s).slots = s.slots := rfl
@[simp] theorem setMisses_adapters (s : State) (n : Slot) (k : Nat) : (setMisses n k s).adapters = s.adapters := rfl
@[simp] theorem setMisses_monitors (s : State) (n : Slot) (k : Nat) : (setMisses n k s).monitors = s.monitors := rfl
@[simp] theorem setMisses_co (s : State) (n : Slot) (k : Nat) : (setMisses n k s).co = s.co := rfl
@[simp] theorem setMisses_frame (s : State) (n : Slot) (k : Nat) : (setMisses n k s).frame = s.frame := rfl
@[simp] theorem setMisses_out (s : State) (n : Slot) (k : Nat) : (setMisses n k s).out = s.out := rfl
@[simp] theorem setMisses_pic (s : State) (n : Slot) (k : Nat) : (setMisses n k s).pic = s.pic := rfl
@[simp] theorem setMisses_snd (s : State) (n : Slot) (k : Nat) : (setMisses n k s).snd = s.snd := rfl
@[simp] theorem setMisses_router (s : State) (n : Slot) (k : Nat) : (setMisses n k s).router = s.router := rfl
@[simp] theorem setMisses_coins (s : State) (n : Slot) (k : Nat) : (setMisses n k s).coins = s.coins := rfl
@[simp] theorem setMisses_profiles (s : State) (n : Slot) (k : Nat) : (setMisses n k s).profiles = s.profiles := rfl
@[simp] theorem setMisses_free (s : State) (n : Slot) (k : Nat) : (setMisses n k s).free = s.free := rfl
@[simp] theorem setMisses_reports (s : State) (n : Slot) (k : Nat) : (setMisses n k s).reports = s.reports := rfl
@[simp] theorem setMisses_pending (s : State) (n : Slot) (k : Nat) : (setMisses n k s).pending = s.pending := rfl

@[simp] theorem clearHold_powered (s : State) : (clearHold s).powered = s.powered := rfl
@[simp] theorem clearHold_now (s : State) : (clearHold s).now = s.now := rfl
@[simp] theorem clearHold_link (s : State) : (clearHold s).link = s.link := rfl
@[simp] theorem clearHold_counters (s : State) : (clearHold s).counters = s.counters := rfl
@[simp] theorem clearHold_slots (s : State) : (clearHold s).slots = s.slots := rfl
@[simp] theorem clearHold_adapters (s : State) : (clearHold s).adapters = s.adapters := rfl
@[simp] theorem clearHold_bus (s : State) : (clearHold s).bus = s.bus := rfl
@[simp] theorem clearHold_monitors (s : State) : (clearHold s).monitors = s.monitors := rfl
@[simp] theorem clearHold_co (s : State) : (clearHold s).co = s.co := rfl
@[simp] theorem clearHold_frame (s : State) : (clearHold s).frame = s.frame := rfl
@[simp] theorem clearHold_out (s : State) : (clearHold s).out = s.out := rfl
@[simp] theorem clearHold_pic (s : State) : (clearHold s).pic = s.pic := rfl
@[simp] theorem clearHold_snd (s : State) : (clearHold s).snd = s.snd := rfl
@[simp] theorem clearHold_coins (s : State) : (clearHold s).coins = s.coins := rfl
@[simp] theorem clearHold_profiles (s : State) : (clearHold s).profiles = s.profiles := rfl
@[simp] theorem clearHold_free (s : State) : (clearHold s).free = s.free := rfl
@[simp] theorem clearHold_reports (s : State) : (clearHold s).reports = s.reports := rfl
@[simp] theorem clearHold_pending (s : State) : (clearHold s).pending = s.pending := rfl

@[simp] theorem setClaim_powered (s : State) (n : Slot) : (setClaim n s).powered = s.powered := rfl
@[simp] theorem setClaim_now (s : State) (n : Slot) : (setClaim n s).now = s.now := rfl
@[simp] theorem setClaim_link (s : State) (n : Slot) : (setClaim n s).link = s.link := rfl
@[simp] theorem setClaim_counters (s : State) (n : Slot) : (setClaim n s).counters = s.counters := rfl
@[simp] theorem setClaim_slots (s : State) (n : Slot) : (setClaim n s).slots = s.slots := rfl
@[simp] theorem setClaim_adapters (s : State) (n : Slot) : (setClaim n s).adapters = s.adapters := rfl
@[simp] theorem setClaim_bus (s : State) (n : Slot) : (setClaim n s).bus = s.bus := rfl
@[simp] theorem setClaim_monitors (s : State) (n : Slot) : (setClaim n s).monitors = s.monitors := rfl
@[simp] theorem setClaim_co (s : State) (n : Slot) : (setClaim n s).co = s.co := rfl
@[simp] theorem setClaim_frame (s : State) (n : Slot) : (setClaim n s).frame = s.frame := rfl
@[simp] theorem setClaim_out (s : State) (n : Slot) : (setClaim n s).out = s.out := rfl
@[simp] theorem setClaim_pic (s : State) (n : Slot) : (setClaim n s).pic = s.pic := rfl
@[simp] theorem setClaim_snd (s : State) (n : Slot) : (setClaim n s).snd = s.snd := rfl
@[simp] theorem setClaim_coins (s : State) (n : Slot) : (setClaim n s).coins = s.coins := rfl
@[simp] theorem setClaim_profiles (s : State) (n : Slot) : (setClaim n s).profiles = s.profiles := rfl
@[simp] theorem setClaim_free (s : State) (n : Slot) : (setClaim n s).free = s.free := rfl
@[simp] theorem setClaim_reports (s : State) (n : Slot) : (setClaim n s).reports = s.reports := rfl
@[simp] theorem setClaim_pending (s : State) (n : Slot) : (setClaim n s).pending = s.pending := rfl

@[simp] theorem setPowerGood_powered (s : State) (n : Slot) (on : Bool) : (setPowerGood n on s).powered = s.powered := rfl
@[simp] theorem setPowerGood_now (s : State) (n : Slot) (on : Bool) : (setPowerGood n on s).now = s.now := rfl
@[simp] theorem setPowerGood_link (s : State) (n : Slot) (on : Bool) : (setPowerGood n on s).link = s.link := rfl
@[simp] theorem setPowerGood_counters (s : State) (n : Slot) (on : Bool) : (setPowerGood n on s).counters = s.counters := rfl
@[simp] theorem setPowerGood_adapters (s : State) (n : Slot) (on : Bool) : (setPowerGood n on s).adapters = s.adapters := rfl
@[simp] theorem setPowerGood_bus (s : State) (n : Slot) (on : Bool) : (setPowerGood n on s).bus = s.bus := rfl
@[simp] theorem setPowerGood_monitors (s : State) (n : Slot) (on : Bool) : (setPowerGood n on s).monitors = s.monitors := rfl
@[simp] theorem setPowerGood_co (s : State) (n : Slot) (on : Bool) : (setPowerGood n on s).co = s.co := rfl
@[simp] theorem setPowerGood_frame (s : State) (n : Slot) (on : Bool) : (setPowerGood n on s).frame = s.frame := rfl
@[simp] theorem setPowerGood_out (s : State) (n : Slot) (on : Bool) : (setPowerGood n on s).out = s.out := rfl
@[simp] theorem setPowerGood_pic (s : State) (n : Slot) (on : Bool) : (setPowerGood n on s).pic = s.pic := rfl
@[simp] theorem setPowerGood_snd (s : State) (n : Slot) (on : Bool) : (setPowerGood n on s).snd = s.snd := rfl
@[simp] theorem setPowerGood_router (s : State) (n : Slot) (on : Bool) : (setPowerGood n on s).router = s.router := rfl
@[simp] theorem setPowerGood_coins (s : State) (n : Slot) (on : Bool) : (setPowerGood n on s).coins = s.coins := rfl
@[simp] theorem setPowerGood_profiles (s : State) (n : Slot) (on : Bool) : (setPowerGood n on s).profiles = s.profiles := rfl
@[simp] theorem setPowerGood_free (s : State) (n : Slot) (on : Bool) : (setPowerGood n on s).free = s.free := rfl
@[simp] theorem setPowerGood_reports (s : State) (n : Slot) (on : Bool) : (setPowerGood n on s).reports = s.reports := rfl
@[simp] theorem setPowerGood_pending (s : State) (n : Slot) (on : Bool) : (setPowerGood n on s).pending = s.pending := rfl

@[simp] theorem setPictureLevel_powered (s : State) (l : Nat) : (setPictureLevel l s).powered = s.powered := rfl
@[simp] theorem setPictureLevel_now (s : State) (l : Nat) : (setPictureLevel l s).now = s.now := rfl
@[simp] theorem setPictureLevel_link (s : State) (l : Nat) : (setPictureLevel l s).link = s.link := rfl
@[simp] theorem setPictureLevel_counters (s : State) (l : Nat) : (setPictureLevel l s).counters = s.counters := rfl
@[simp] theorem setPictureLevel_slots (s : State) (l : Nat) : (setPictureLevel l s).slots = s.slots := rfl
@[simp] theorem setPictureLevel_adapters (s : State) (l : Nat) : (setPictureLevel l s).adapters = s.adapters := rfl
@[simp] theorem setPictureLevel_bus (s : State) (l : Nat) : (setPictureLevel l s).bus = s.bus := rfl
@[simp] theorem setPictureLevel_monitors (s : State) (l : Nat) : (setPictureLevel l s).monitors = s.monitors := rfl
@[simp] theorem setPictureLevel_co (s : State) (l : Nat) : (setPictureLevel l s).co = s.co := rfl
@[simp] theorem setPictureLevel_frame (s : State) (l : Nat) : (setPictureLevel l s).frame = s.frame := rfl
@[simp] theorem setPictureLevel_out (s : State) (l : Nat) : (setPictureLevel l s).out = s.out := rfl
@[simp] theorem setPictureLevel_snd (s : State) (l : Nat) : (setPictureLevel l s).snd = s.snd := rfl
@[simp] theorem setPictureLevel_router (s : State) (l : Nat) : (setPictureLevel l s).router = s.router := rfl
@[simp] theorem setPictureLevel_coins (s : State) (l : Nat) : (setPictureLevel l s).coins = s.coins := rfl
@[simp] theorem setPictureLevel_profiles (s : State) (l : Nat) : (setPictureLevel l s).profiles = s.profiles := rfl
@[simp] theorem setPictureLevel_free (s : State) (l : Nat) : (setPictureLevel l s).free = s.free := rfl
@[simp] theorem setPictureLevel_reports (s : State) (l : Nat) : (setPictureLevel l s).reports = s.reports := rfl
@[simp] theorem setPictureLevel_pending (s : State) (l : Nat) : (setPictureLevel l s).pending = s.pending := rfl

@[simp] theorem setGain_powered (s : State) (g : Nat) : (setGain g s).powered = s.powered := rfl
@[simp] theorem setGain_now (s : State) (g : Nat) : (setGain g s).now = s.now := rfl
@[simp] theorem setGain_link (s : State) (g : Nat) : (setGain g s).link = s.link := rfl
@[simp] theorem setGain_counters (s : State) (g : Nat) : (setGain g s).counters = s.counters := rfl
@[simp] theorem setGain_slots (s : State) (g : Nat) : (setGain g s).slots = s.slots := rfl
@[simp] theorem setGain_adapters (s : State) (g : Nat) : (setGain g s).adapters = s.adapters := rfl
@[simp] theorem setGain_bus (s : State) (g : Nat) : (setGain g s).bus = s.bus := rfl
@[simp] theorem setGain_monitors (s : State) (g : Nat) : (setGain g s).monitors = s.monitors := rfl
@[simp] theorem setGain_co (s : State) (g : Nat) : (setGain g s).co = s.co := rfl
@[simp] theorem setGain_frame (s : State) (g : Nat) : (setGain g s).frame = s.frame := rfl
@[simp] theorem setGain_out (s : State) (g : Nat) : (setGain g s).out = s.out := rfl
@[simp] theorem setGain_pic (s : State) (g : Nat) : (setGain g s).pic = s.pic := rfl
@[simp] theorem setGain_router (s : State) (g : Nat) : (setGain g s).router = s.router := rfl
@[simp] theorem setGain_coins (s : State) (g : Nat) : (setGain g s).coins = s.coins := rfl
@[simp] theorem setGain_profiles (s : State) (g : Nat) : (setGain g s).profiles = s.profiles := rfl
@[simp] theorem setGain_free (s : State) (g : Nat) : (setGain g s).free = s.free := rfl
@[simp] theorem setGain_reports (s : State) (g : Nat) : (setGain g s).reports = s.reports := rfl
@[simp] theorem setGain_pending (s : State) (g : Nat) : (setGain g s).pending = s.pending := rfl

@[simp] theorem stopPictureFade_powered (s : State) : (stopPictureFade s).powered = s.powered := rfl
@[simp] theorem stopPictureFade_now (s : State) : (stopPictureFade s).now = s.now := rfl
@[simp] theorem stopPictureFade_link (s : State) : (stopPictureFade s).link = s.link := rfl
@[simp] theorem stopPictureFade_counters (s : State) : (stopPictureFade s).counters = s.counters := rfl
@[simp] theorem stopPictureFade_slots (s : State) : (stopPictureFade s).slots = s.slots := rfl
@[simp] theorem stopPictureFade_adapters (s : State) : (stopPictureFade s).adapters = s.adapters := rfl
@[simp] theorem stopPictureFade_bus (s : State) : (stopPictureFade s).bus = s.bus := rfl
@[simp] theorem stopPictureFade_monitors (s : State) : (stopPictureFade s).monitors = s.monitors := rfl
@[simp] theorem stopPictureFade_co (s : State) : (stopPictureFade s).co = s.co := rfl
@[simp] theorem stopPictureFade_frame (s : State) : (stopPictureFade s).frame = s.frame := rfl
@[simp] theorem stopPictureFade_out (s : State) : (stopPictureFade s).out = s.out := rfl
@[simp] theorem stopPictureFade_snd (s : State) : (stopPictureFade s).snd = s.snd := rfl
@[simp] theorem stopPictureFade_router (s : State) : (stopPictureFade s).router = s.router := rfl
@[simp] theorem stopPictureFade_coins (s : State) : (stopPictureFade s).coins = s.coins := rfl
@[simp] theorem stopPictureFade_profiles (s : State) : (stopPictureFade s).profiles = s.profiles := rfl
@[simp] theorem stopPictureFade_free (s : State) : (stopPictureFade s).free = s.free := rfl
@[simp] theorem stopPictureFade_reports (s : State) : (stopPictureFade s).reports = s.reports := rfl
@[simp] theorem stopPictureFade_pending (s : State) : (stopPictureFade s).pending = s.pending := rfl

@[simp] theorem stopSoundFade_powered (s : State) : (stopSoundFade s).powered = s.powered := rfl
@[simp] theorem stopSoundFade_now (s : State) : (stopSoundFade s).now = s.now := rfl
@[simp] theorem stopSoundFade_link (s : State) : (stopSoundFade s).link = s.link := rfl
@[simp] theorem stopSoundFade_counters (s : State) : (stopSoundFade s).counters = s.counters := rfl
@[simp] theorem stopSoundFade_slots (s : State) : (stopSoundFade s).slots = s.slots := rfl
@[simp] theorem stopSoundFade_adapters (s : State) : (stopSoundFade s).adapters = s.adapters := rfl
@[simp] theorem stopSoundFade_bus (s : State) : (stopSoundFade s).bus = s.bus := rfl
@[simp] theorem stopSoundFade_monitors (s : State) : (stopSoundFade s).monitors = s.monitors := rfl
@[simp] theorem stopSoundFade_co (s : State) : (stopSoundFade s).co = s.co := rfl
@[simp] theorem stopSoundFade_frame (s : State) : (stopSoundFade s).frame = s.frame := rfl
@[simp] theorem stopSoundFade_out (s : State) : (stopSoundFade s).out = s.out := rfl
@[simp] theorem stopSoundFade_pic (s : State) : (stopSoundFade s).pic = s.pic := rfl
@[simp] theorem stopSoundFade_router (s : State) : (stopSoundFade s).router = s.router := rfl
@[simp] theorem stopSoundFade_coins (s : State) : (stopSoundFade s).coins = s.coins := rfl
@[simp] theorem stopSoundFade_profiles (s : State) : (stopSoundFade s).profiles = s.profiles := rfl
@[simp] theorem stopSoundFade_free (s : State) : (stopSoundFade s).free = s.free := rfl
@[simp] theorem stopSoundFade_reports (s : State) : (stopSoundFade s).reports = s.reports := rfl
@[simp] theorem stopSoundFade_pending (s : State) : (stopSoundFade s).pending = s.pending := rfl

@[simp] theorem State.tick_now (s : State) (dt : Nat) : (State.tick dt s).now = s.now + dt := rfl
@[simp] theorem State.reach_now (s : State) (t : Nat) : (State.reach t s).now = max s.now t := rfl
@[simp] theorem State.report_reports (s : State) (r : Report) : (s.report r).reports = s.reports ++ [r] := rfl
@[simp] theorem setHold_frame (s : State) (h : Bool) : (setHold h s).frame = { s.frame with hold := h } := rfl
@[simp] theorem setBlank_frame (s : State) (b : Bool) : (setBlank b s).frame = { s.frame with blank := b } := rfl
@[simp] theorem setRecord_co (s : State) (r : Option Record) : (setRecord r s).co = { s.co with record := r } := rfl
@[simp] theorem setPending_co (s : State) (p : Option Pending) : (setPending p s).co = { s.co with pending := p } := rfl
@[simp] theorem setWatch_co (s : State) (w : Watch) : (setWatch w s).co = { s.co with watch := w } := rfl
@[simp] theorem clearHold_router (s : State) : (clearHold s).router = { s.router with linkHold := false } := rfl
@[simp] theorem setClaim_router (s : State) (n : Slot) : (setClaim n s).router = { s.router with claim := some n } := rfl

/-! ### Tables -/

/-- A table's entry after an entry is replaced. -/
theorem Tab.at_put {α : Type} {n : Nat} (v : Tab α n) (i j : Fin n) (x : α) :
    (v.put i x).at j = if j = i then x else v.at j := by
  simp only [Tab.at, Tab.put, Vector.get_eq_getElem, Vector.getElem_set, Fin.ext_iff]
  by_cases h : i.val = j.val <;> simp [h, eq_comm]

@[simp] theorem Tab.at_put_self {α : Type} {n : Nat} (v : Tab α n) (i : Fin n) (x : α) : (v.put i x).at i = x := by
  simp [Tab.at_put]

@[simp] theorem Tab.at_all {α : Type} (n : Nat) (x : α) (i : Fin n) : (Tab.all n x).at i = x := by
  simp [Tab.at, Tab.all, Vector.get_eq_getElem]

@[simp] theorem Tab.at_ofFn {α : Type} {n : Nat} (f : Fin n → α) (i : Fin n) : Tab.at (Vector.ofFn f) i = f i := by
  simp [Tab.at, Vector.get_eq_getElem]

/-- Two tables with the same entries are equal. -/
theorem Tab.ext_at {α : Type} {n : Nat} {v w : Tab α n} (h : ∀ i, v.at i = w.at i) : v = w := by
  apply Vector.ext
  intro i hi
  simpa [Tab.at, Vector.get_eq_getElem] using h ⟨i, hi⟩

/-! ### Numbered records -/

theorem State.slot_setSlot (s : State) (n m : Slot) (r : SlotRecord) :
    (s.setSlot n r).slot m = if m = n then r else s.slot m := Tab.at_put ..

@[simp] theorem State.slot_setSlot_self (s : State) (n : Slot) (r : SlotRecord) : (s.setSlot n r).slot n = r := by
  simp [State.slot_setSlot]

theorem State.monitor_setMonitor (s : State) (a b : Source) (m : Monitor) :
    (s.setMonitor a m).monitor b = if b = a then m else s.monitor b := Tab.at_put ..

@[simp] theorem State.monitor_setMonitor_self (s : State) (a : Source) (m : Monitor) :
    (s.setMonitor a m).monitor a = m := by
  simp [State.monitor_setMonitor]

theorem State.adapter_setAdapter (s : State) (n m : Slot) (a : Adapter) :
    (s.setAdapter n a).adapter m = if m = n then a else s.adapter m := Tab.at_put ..

theorem State.buffer_setBuffer (s : State) (b c : Fin 3) (x : Buffer) :
    (s.setBuffer b x).buffer c = if c = b then x else s.buffer c := Tab.at_put ..

theorem State.chute_setChute (s : State) (c d : Chute) (x : ChuteRecord) :
    (s.setChute c x).chute d = if d = c then x else s.chute d := Tab.at_put ..

theorem State.queue_setQueue (s : State) (n m : Slot) (q : List CoinLine) :
    (s.setQueue n q).queue m = if m = n then q else s.queue m := Tab.at_put ..

theorem State.generator_setGenerator (s : State) (n m : Slot) (g : Generator) :
    (s.setGenerator n g).generator m = if m = n then g else s.generator m := Tab.at_put ..

theorem State.meter_setMeter (s : State) (m k : Meter) (x : MeterRecord) :
    (s.setMeter m x).meter k = if k = m then x else s.meter k := Tab.at_put ..

theorem State.counter_setCounter (s : State) (i j : CounterId) (c : Counter) :
    (s.setCounter i c).counter j = if j = i then c else s.counter j := Tab.at_put ..

theorem State.profile_setProfile (s : State) (n m : Slot) (p : SlotProfile) :
    (s.setProfile n p).profile m = if m = n then p else s.profile m := Tab.at_put ..

@[simp] theorem State.queue_setGenerator (s : State) (n m : Slot) (g : Generator) :
    (s.setGenerator n g).queue m = s.queue m := rfl
@[simp] theorem State.generator_setQueue (s : State) (n m : Slot) (q : List CoinLine) :
    (s.setQueue n q).generator m = s.generator m := rfl
@[simp] theorem State.chute_setQueue (s : State) (n : Slot) (c : Chute) (q : List CoinLine) :
    (s.setQueue n q).chute c = s.chute c := rfl
@[simp] theorem State.chute_setGenerator (s : State) (n : Slot) (c : Chute) (g : Generator) :
    (s.setGenerator n g).chute c = s.chute c := rfl
@[simp] theorem State.queue_setChute (s : State) (n : Slot) (c : Chute) (x : ChuteRecord) :
    (s.setChute c x).queue n = s.queue n := rfl
@[simp] theorem State.generator_setChute (s : State) (n : Slot) (c : Chute) (x : ChuteRecord) :
    (s.setChute c x).generator n = s.generator n := rfl
@[simp] theorem State.meter_setChute (s : State) (m : Meter) (c : Chute) (x : ChuteRecord) :
    (s.setChute c x).meter m = s.meter m := rfl
@[simp] theorem State.queue_setMeter (s : State) (n : Slot) (m : Meter) (x : MeterRecord) :
    (s.setMeter m x).queue n = s.queue n := rfl
@[simp] theorem State.chute_setMeter (s : State) (c : Chute) (m : Meter) (x : MeterRecord) :
    (s.setMeter m x).chute c = s.chute c := rfl

end Sys2Proof.Machine
end

