-- ==== Sys2Proof/Laws/Frames.lean ====
section
/-! SUPPORT. Frames: how "same outside these blocks" composes. -/

namespace Sys2Proof.Machine

theorem SameOutside.refl (l : List Block) (s : State) : SameOutside l s s := by
  exact ⟨fun b _ => by cases b <;> rfl⟩

theorem SameOutside.mono {l m : List Block} {s t : State} (h : SameOutside l s t) (hl : l ⊆ m) : SameOutside m s t :=
  ⟨fun b hb => h.same b fun hb' => hb (hl hb')⟩

theorem SameOutside.trans {l : List Block} {s t u : State} (h : SameOutside l s t) (h' : SameOutside l t u) :
    SameOutside l s u := by
  refine ⟨fun b hb => ?_⟩
  have h1 := h.same b hb
  have h2 := h'.same b hb
  cases b <;> exact h2.trans h1

theorem SameOutside.and {L l : List Block} {s t u : State} (h : SameOutside L s t) (h' : SameOutside l t u)
    (hl : l ⊆ L) : SameOutside L s u :=
  h.trans (h'.mono hl)

theorem SameOutside.after {L l : List Block} {s t u : State} (h' : SameOutside l t u) (h : SameOutside L s t)
    (hl : l ⊆ L) : SameOutside L s u :=
  h.and h' hl

theorem SameOutside.forAll {α : Type} {L : List Block} {s t : State} {l : List α} {f : α → State → State}
    (h : SameOutside L s t) (hf : ∀ a u, SameOutside L u (f a u)) : SameOutside L s (forAll l f t) := by
  induction l generalizing t with
  | nil => exact h
  | cons a l ih => exact ih (h.trans (hf a t))

theorem SameOutside.with_powered {L : List Block} {s t : State} {x} (h : SameOutside L s t) (hb : Block.powered ∈ L) :
    SameOutside L s { t with powered := x } := by
  refine ⟨fun b hn => ?_⟩
  have := h.same b hn
  cases b <;> first | exact this | exact absurd hb hn

theorem SameOutside.with_now {L : List Block} {s t : State} {x} (h : SameOutside L s t) (hb : Block.now ∈ L) :
    SameOutside L s { t with now := x } := by
  refine ⟨fun b hn => ?_⟩
  have := h.same b hn
  cases b <;> first | exact this | exact absurd hb hn

theorem SameOutside.with_link {L : List Block} {s t : State} {x} (h : SameOutside L s t) (hb : Block.link ∈ L) :
    SameOutside L s { t with link := x } := by
  refine ⟨fun b hn => ?_⟩
  have := h.same b hn
  cases b <;> first | exact this | exact absurd hb hn

theorem SameOutside.with_counters {L : List Block} {s t : State} {x} (h : SameOutside L s t) (hb : Block.counters ∈ L) :
    SameOutside L s { t with counters := x } := by
  refine ⟨fun b hn => ?_⟩
  have := h.same b hn
  cases b <;> first | exact this | exact absurd hb hn

theorem SameOutside.with_slots {L : List Block} {s t : State} {x} (h : SameOutside L s t) (hb : Block.slots ∈ L) :
    SameOutside L s { t with slots := x } := by
  refine ⟨fun b hn => ?_⟩
  have := h.same b hn
  cases b <;> first | exact this | exact absurd hb hn

theorem SameOutside.with_adapters {L : List Block} {s t : State} {x} (h : SameOutside L s t) (hb : Block.adapters ∈ L) :
    SameOutside L s { t with adapters := x } := by
  refine ⟨fun b hn => ?_⟩
  have := h.same b hn
  cases b <;> first | exact this | exact absurd hb hn

theorem SameOutside.with_bus {L : List Block} {s t : State} {x} (h : SameOutside L s t) (hb : Block.bus ∈ L) :
    SameOutside L s { t with bus := x } := by
  refine ⟨fun b hn => ?_⟩
  have := h.same b hn
  cases b <;> first | exact this | exact absurd hb hn

theorem SameOutside.with_monitors {L : List Block} {s t : State} {x} (h : SameOutside L s t) (hb : Block.monitors ∈ L) :
    SameOutside L s { t with monitors := x } := by
  refine ⟨fun b hn => ?_⟩
  have := h.same b hn
  cases b <;> first | exact this | exact absurd hb hn

theorem SameOutside.with_co {L : List Block} {s t : State} {x} (h : SameOutside L s t) (hb : Block.co ∈ L) :
    SameOutside L s { t with co := x } := by
  refine ⟨fun b hn => ?_⟩
  have := h.same b hn
  cases b <;> first | exact this | exact absurd hb hn

theorem SameOutside.with_frame {L : List Block} {s t : State} {x} (h : SameOutside L s t) (hb : Block.frame ∈ L) :
    SameOutside L s { t with frame := x } := by
  refine ⟨fun b hn => ?_⟩
  have := h.same b hn
  cases b <;> first | exact this | exact absurd hb hn

theorem SameOutside.with_out {L : List Block} {s t : State} {x} (h : SameOutside L s t) (hb : Block.out ∈ L) :
    SameOutside L s { t with out := x } := by
  refine ⟨fun b hn => ?_⟩
  have := h.same b hn
  cases b <;> first | exact this | exact absurd hb hn

theorem SameOutside.with_pic {L : List Block} {s t : State} {x} (h : SameOutside L s t) (hb : Block.pic ∈ L) :
    SameOutside L s { t with pic := x } := by
  refine ⟨fun b hn => ?_⟩
  have := h.same b hn
  cases b <;> first | exact this | exact absurd hb hn

theorem SameOutside.with_snd {L : List Block} {s t : State} {x} (h : SameOutside L s t) (hb : Block.snd ∈ L) :
    SameOutside L s { t with snd := x } := by
  refine ⟨fun b hn => ?_⟩
  have := h.same b hn
  cases b <;> first | exact this | exact absurd hb hn

theorem SameOutside.with_router {L : List Block} {s t : State} {x} (h : SameOutside L s t) (hb : Block.router ∈ L) :
    SameOutside L s { t with router := x } := by
  refine ⟨fun b hn => ?_⟩
  have := h.same b hn
  cases b <;> first | exact this | exact absurd hb hn

theorem SameOutside.with_coins {L : List Block} {s t : State} {x} (h : SameOutside L s t) (hb : Block.coins ∈ L) :
    SameOutside L s { t with coins := x } := by
  refine ⟨fun b hn => ?_⟩
  have := h.same b hn
  cases b <;> first | exact this | exact absurd hb hn

theorem SameOutside.with_profiles {L : List Block} {s t : State} {x} (h : SameOutside L s t) (hb : Block.profiles ∈ L) :
    SameOutside L s { t with profiles := x } := by
  refine ⟨fun b hn => ?_⟩
  have := h.same b hn
  cases b <;> first | exact this | exact absurd hb hn

theorem SameOutside.with_free {L : List Block} {s t : State} {x} (h : SameOutside L s t) (hb : Block.free ∈ L) :
    SameOutside L s { t with free := x } := by
  refine ⟨fun b hn => ?_⟩
  have := h.same b hn
  cases b <;> first | exact this | exact absurd hb hn

theorem SameOutside.with_reports {L : List Block} {s t : State} {x} (h : SameOutside L s t) (hb : Block.reports ∈ L) :
    SameOutside L s { t with reports := x } := by
  refine ⟨fun b hn => ?_⟩
  have := h.same b hn
  cases b <;> first | exact this | exact absurd hb hn

theorem SameOutside.with_pending {L : List Block} {s t : State} {x} (h : SameOutside L s t) (hb : Block.pending ∈ L) :
    SameOutside L s { t with pending := x } := by
  refine ⟨fun b hn => ?_⟩
  have := h.same b hn
  cases b <;> first | exact this | exact absurd hb hn

end Sys2Proof.Machine
end

