-- ==== Sys2Proof/Laws/Footprints.lean ====
section
/-! SUPPORT. The footprint of every operation: one lemma each, saying outside which blocks the operation changes
nothing. -/

set_option linter.unusedTactic false
set_option linter.unreachableTactic false

namespace Sys2Proof.Machine

theorem State.tick_same (dt : Nat) (s : State) :
    SameOutside [.now] s (State.tick dt s) := by
  unfold State.tick
  iterate 12 all_goals try first
    | split
    | with_reducible exact SameOutside.refl _ _
    | dsimp only
    | with_reducible refine SameOutside.with_now ?_ (by decide)

theorem State.reach_same (t : Nat) (s : State) :
    SameOutside [.now] s (State.reach t s) := by
  unfold State.reach
  iterate 12 all_goals try first
    | split
    | with_reducible exact SameOutside.refl _ _
    | dsimp only
    | with_reducible refine SameOutside.with_now ?_ (by decide)

theorem State.setSlot_same (s : State) (n : Slot) (r : SlotRecord) :
    SameOutside [.slots] s (State.setSlot s n r) := by
  unfold State.setSlot
  iterate 12 all_goals try first
    | split
    | with_reducible exact SameOutside.refl _ _
    | dsimp only
    | with_reducible refine SameOutside.with_slots ?_ (by decide)

theorem State.setMonitor_same (s : State) (src : Source) (m : Monitor) :
    SameOutside [.monitors] s (State.setMonitor s src m) := by
  unfold State.setMonitor
  iterate 12 all_goals try first
    | split
    | with_reducible exact SameOutside.refl _ _
    | dsimp only
    | with_reducible refine SameOutside.with_monitors ?_ (by decide)

theorem State.setAdapter_same (s : State) (n : Slot) (a : Adapter) :
    SameOutside [.adapters] s (State.setAdapter s n a) := by
  unfold State.setAdapter
  iterate 12 all_goals try first
    | split
    | with_reducible exact SameOutside.refl _ _
    | dsimp only
    | with_reducible refine SameOutside.with_adapters ?_ (by decide)

theorem State.setBuffer_same (s : State) (b : Fin 3) (x : Buffer) :
    SameOutside [.frame] s (State.setBuffer s b x) := by
  unfold State.setBuffer
  iterate 12 all_goals try first
    | split
    | with_reducible exact SameOutside.refl _ _
    | dsimp only
    | with_reducible refine SameOutside.with_frame ?_ (by decide)

theorem State.setChute_same (s : State) (c : Chute) (x : ChuteRecord) :
    SameOutside [.coins] s (State.setChute s c x) := by
  unfold State.setChute
  iterate 12 all_goals try first
    | split
    | with_reducible exact SameOutside.refl _ _
    | dsimp only
    | with_reducible refine SameOutside.with_coins ?_ (by decide)

theorem State.setQueue_same (s : State) (n : Slot) (q : List CoinLine) :
    SameOutside [.coins] s (State.setQueue s n q) := by
  unfold State.setQueue
  iterate 12 all_goals try first
    | split
    | with_reducible exact SameOutside.refl _ _
    | dsimp only
    | with_reducible refine SameOutside.with_coins ?_ (by decide)

theorem State.setGenerator_same (s : State) (n : Slot) (g : Generator) :
    SameOutside [.coins] s (State.setGenerator s n g) := by
  unfold State.setGenerator
  iterate 12 all_goals try first
    | split
    | with_reducible exact SameOutside.refl _ _
    | dsimp only
    | with_reducible refine SameOutside.with_coins ?_ (by decide)

theorem State.setMeter_same (s : State) (m : Meter) (x : MeterRecord) :
    SameOutside [.coins] s (State.setMeter s m x) := by
  unfold State.setMeter
  iterate 12 all_goals try first
    | split
    | with_reducible exact SameOutside.refl _ _
    | dsimp only
    | with_reducible refine SameOutside.with_coins ?_ (by decide)

theorem State.setProfile_same (s : State) (n : Slot) (p : SlotProfile) :
    SameOutside [.profiles] s (State.setProfile s n p) := by
  unfold State.setProfile
  iterate 12 all_goals try first
    | split
    | with_reducible exact SameOutside.refl _ _
    | dsimp only
    | with_reducible refine SameOutside.with_profiles ?_ (by decide)

theorem State.report_same (s : State) (r : Report) :
    SameOutside [.reports] s (State.report s r) := by
  unfold State.report
  iterate 12 all_goals try first
    | split
    | with_reducible exact SameOutside.refl _ _
    | dsimp only
    | with_reducible refine SameOutside.with_reports ?_ (by decide)

theorem State.nextFree_same (s : State) :
    SameOutside [.free] s (State.nextFree s) := by
  unfold State.nextFree
  iterate 12 all_goals try first
    | split
    | with_reducible exact SameOutside.refl _ _
    | dsimp only
    | with_reducible refine SameOutside.with_free ?_ (by decide)

theorem post_same (n : Notice) (s : State) :
    SameOutside [.link] s (post n s) := by
  unfold post
  iterate 12 all_goals try first
    | split
    | with_reducible exact SameOutside.refl _ _
    | dsimp only
    | with_reducible refine SameOutside.with_link ?_ (by decide)

theorem setMask_same (m : Tab Bool 11) (s : State) :
    SameOutside [.link] s (setMask m s) := by
  unfold setMask
  iterate 12 all_goals try first
    | split
    | with_reducible exact SameOutside.refl _ _
    | dsimp only
    | with_reducible refine SameOutside.with_link ?_ (by decide)

theorem State.setCounter_same (s : State) (i : CounterId) (c : Counter) :
    SameOutside [.counters] s (State.setCounter s i c) := by
  unfold State.setCounter
  iterate 12 all_goals try first
    | split
    | with_reducible exact SameOutside.refl _ _
    | dsimp only
    | with_reducible refine SameOutside.with_counters ?_ (by decide)

theorem increment_same (i : CounterId) (s : State) :
    SameOutside [.link, .counters] s (increment i s) := by
  unfold increment
  iterate 12 all_goals try first
    | split
    | with_reducible exact SameOutside.refl _ _
    | (with_reducible apply SameOutside.after (post_same ..); rotate_left; decide)
    | (with_reducible apply SameOutside.after (State.setCounter_same ..); rotate_left; decide)
    | dsimp only

theorem linkError_same (c : LinkCause) (s : State) :
    SameOutside [.link, .counters] s (linkError c s) := by
  unfold linkError
  iterate 12 all_goals try first
    | split
    | with_reducible exact SameOutside.refl _ _
    | (with_reducible apply SameOutside.after (post_same ..); rotate_left; decide)
    | (with_reducible apply SameOutside.after (increment_same ..); rotate_left; decide)
    | dsimp only

theorem offer_same (kind tag : Byte) (payload : List Byte) (s : State) :
    SameOutside [.link, .counters] s (offer kind tag payload s) := by
  unfold offer
  iterate 12 all_goals try first
    | split
    | with_reducible exact SameOutside.refl _ _
    | (with_reducible apply SameOutside.after (linkError_same ..); rotate_left; decide)
    | dsimp only
    | with_reducible refine SameOutside.with_link ?_ (by decide)

theorem setRx_same (rx : RxState) (s : State) :
    SameOutside [.link] s (setRx rx s) := by
  unfold setRx
  iterate 12 all_goals try first
    | split
    | with_reducible exact SameOutside.refl _ _
    | dsimp only
    | with_reducible refine SameOutside.with_link ?_ (by decide)

theorem receiveChar_same (c : LineChar) (s : State) :
    SameOutside [.link, .counters] s (receiveChar c s) := by
  unfold receiveChar
  iterate 12 all_goals try first
    | split
    | with_reducible exact SameOutside.refl _ _
    | (with_reducible apply SameOutside.after (linkError_same ..); rotate_left; decide)
    | (with_reducible apply SameOutside.after (offer_same ..); rotate_left; decide)
    | (with_reducible apply SameOutside.after (setRx_same ..); rotate_left; decide)
    | dsimp only

theorem choose_same (s : State) :
    SameOutside [.link, .router] s (choose s) := by
  unfold choose
  iterate 12 all_goals try first
    | split
    | with_reducible exact SameOutside.refl _ _
    | dsimp only
    | (refine ⟨fun b hb => ?_⟩; cases b <;> first | exact absurd (by decide) hb | (simp only [Block.same]; done))
    | with_reducible refine SameOutside.with_link ?_ (by decide)
    | with_reducible refine SameOutside.with_router ?_ (by decide)

theorem conclude_same (s : State) :
    SameOutside [.link, .router, .reports] s (conclude s) := by
  unfold conclude
  iterate 12 all_goals try first
    | split
    | with_reducible exact SameOutside.refl _ _
    | (with_reducible apply SameOutside.after (choose_same ..); rotate_left; decide)
    | dsimp only
    | with_reducible refine SameOutside.with_reports ?_ (by decide)

theorem giveReply_same (a : Answer) (s : State) :
    SameOutside [.link] s (giveReply a s) := by
  unfold giveReply
  iterate 12 all_goals try first
    | split
    | with_reducible exact SameOutside.refl _ _
    | dsimp only
    | with_reducible refine SameOutside.with_link ?_ (by decide)

theorem postChute_same (c : Chute) (ev : ChuteEvent) (s : State) :
    SameOutside [.link] s (postChute c ev s) := by
  unfold postChute
  iterate 12 all_goals try first
    | split
    | with_reducible exact SameOutside.refl _ _
    | (with_reducible apply SameOutside.after (post_same ..); rotate_left; decide)
    | dsimp only

theorem postBank_same (ev : BankEvent) (s : State) :
    SameOutside [.link] s (postBank ev s) := by
  unfold postBank
  iterate 12 all_goals try first
    | split
    | with_reducible exact SameOutside.refl _ _
    | (with_reducible apply SameOutside.after (post_same ..); rotate_left; decide)
    | dsimp only

theorem setReasons_same (c : Chute) (r : Reasons) (s : State) :
    SameOutside [.link, .coins] s (setReasons c r s) := by
  unfold setReasons
  iterate 12 all_goals try first
    | split
    | with_reducible exact SameOutside.refl _ _
    | (with_reducible apply SameOutside.after (State.setChute_same ..); rotate_left; decide)
    | (with_reducible apply SameOutside.after (postChute_same ..); rotate_left; decide)
    | dsimp only

theorem judgeLink_same (c : Chute) (s : State) :
    SameOutside [.link, .coins] s (judgeLink c s) := by
  unfold judgeLink
  iterate 12 all_goals try first
    | split
    | with_reducible exact SameOutside.refl _ _
    | (with_reducible apply SameOutside.after (setReasons_same ..); rotate_left; decide)
    | dsimp only

theorem judgeJam_same (c : Chute) (s : State) :
    SameOutside [.link, .coins] s (judgeJam c s) := by
  unfold judgeJam
  iterate 12 all_goals try first
    | split
    | with_reducible exact SameOutside.refl _ _
    | (with_reducible apply SameOutside.after (setReasons_same ..); rotate_left; decide)
    | dsimp only

theorem judgeMeterFull_same (s : State) :
    SameOutside [.link, .coins] s (judgeMeterFull s) := by
  unfold judgeMeterFull
  iterate 12 all_goals try first
    | split
    | with_reducible exact SameOutside.refl _ _
    | with_reducible refine SameOutside.forAll ?_ (fun _ _ => ?_)
    | (with_reducible apply SameOutside.after (setReasons_same ..); rotate_left; decide)
    | dsimp only

theorem judgeTogether_same (f : Chute → State → Reasons) (s : State) :
    SameOutside [.link, .coins] s (judgeTogether f s) := by
  unfold judgeTogether
  iterate 12 all_goals try first
    | split
    | with_reducible exact SameOutside.refl _ _
    | with_reducible refine SameOutside.forAll ?_ (fun _ _ => ?_)
    | (with_reducible apply SameOutside.after (postBank_same ..); rotate_left; decide)
    | (with_reducible apply SameOutside.after (setReasons_same ..); rotate_left; decide)
    | dsimp only

theorem judgeBankLimit_same (s : State) :
    SameOutside [.link, .coins] s (judgeBankLimit s) := by
  unfold judgeBankLimit
  iterate 12 all_goals try first
    | split
    | with_reducible exact SameOutside.refl _ _
    | (with_reducible apply SameOutside.after (judgeTogether_same ..); rotate_left; decide)
    | dsimp only

theorem judgeSettings_same (s : State) :
    SameOutside [.link, .coins] s (judgeSettings s) := by
  unfold judgeSettings
  iterate 12 all_goals try first
    | split
    | with_reducible exact SameOutside.refl _ _
    | (with_reducible apply SameOutside.after (judgeTogether_same ..); rotate_left; decide)
    | dsimp only

theorem judgeAllReasons_same (s : State) :
    SameOutside [.link, .coins] s (judgeAllReasons s) := by
  unfold judgeAllReasons
  iterate 12 all_goals try first
    | split
    | with_reducible exact SameOutside.refl _ _
    | (with_reducible apply SameOutside.after (judgeTogether_same ..); rotate_left; decide)
    | dsimp only

theorem addUnits_same (n : Nat) (s : State) :
    SameOutside [.link, .coins] s (addUnits n s) := by
  unfold addUnits
  iterate 12 all_goals try first
    | split
    | with_reducible exact SameOutside.refl _ _
    | (with_reducible apply SameOutside.after (postBank_same ..); rotate_left; decide)
    | (with_reducible apply SameOutside.after (judgeBankLimit_same ..); rotate_left; decide)
    | dsimp only
    | with_reducible refine SameOutside.with_coins ?_ (by decide)

theorem returnQueue_same (n : Slot) (s : State) :
    SameOutside [.link, .coins] s (returnQueue n s) := by
  unfold returnQueue
  iterate 12 all_goals try first
    | split
    | with_reducible exact SameOutside.refl _ _
    | (with_reducible apply SameOutside.after (State.setQueue_same ..); rotate_left; decide)
    | (with_reducible apply SameOutside.after (postBank_same ..); rotate_left; decide)
    | (with_reducible apply SameOutside.after (addUnits_same ..); rotate_left; decide)
    | dsimp only

theorem readCoinLevels_same (n : Slot) (s : State) :
    SameOutside [.coins] s (readCoinLevels n s) := by
  unfold readCoinLevels
  iterate 12 all_goals try first
    | split
    | with_reducible exact SameOutside.refl _ _
    | dsimp only
    | with_reducible refine SameOutside.with_coins ?_ (by decide)

theorem judgePulse_same (n : Slot) (s : State) :
    SameOutside [.link, .counters, .coins] s (judgePulse n s) := by
  unfold judgePulse
  iterate 12 all_goals try first
    | split
    | with_reducible exact SameOutside.refl _ _
    | (with_reducible apply SameOutside.after (State.setQueue_same ..); rotate_left; decide)
    | (with_reducible apply SameOutside.after (State.setGenerator_same ..); rotate_left; decide)
    | (with_reducible apply SameOutside.after (increment_same ..); rotate_left; decide)
    | (with_reducible apply SameOutside.after (readCoinLevels_same ..); rotate_left; decide)
    | dsimp only
    | with_reducible refine SameOutside.with_coins ?_ (by decide)

theorem cutPulse_same (n : Slot) (toBank : Bool) (s : State) :
    SameOutside [.link, .coins] s (cutPulse n toBank s) := by
  unfold cutPulse
  iterate 12 all_goals try first
    | split
    | with_reducible exact SameOutside.refl _ _
    | (with_reducible apply SameOutside.after (State.setQueue_same ..); rotate_left; decide)
    | (with_reducible apply SameOutside.after (State.setGenerator_same ..); rotate_left; decide)
    | (with_reducible apply SameOutside.after (addUnits_same ..); rotate_left; decide)
    | dsimp only
    | with_reducible refine SameOutside.with_coins ?_ (by decide)

theorem cutIfLost_same (n : Slot) (s : State) :
    SameOutside [.link, .coins] s (cutIfLost n s) := by
  unfold cutIfLost
  iterate 12 all_goals try first
    | split
    | with_reducible exact SameOutside.refl _ _
    | (with_reducible apply SameOutside.after (cutPulse_same ..); rotate_left; decide)
    | dsimp only

theorem cutLostPulses_same (s : State) :
    SameOutside [.link, .coins] s (cutLostPulses s) := by
  unfold cutLostPulses
  iterate 12 all_goals try first
    | split
    | with_reducible exact SameOutside.refl _ _
    | with_reducible refine SameOutside.forAll ?_ (fun _ _ => ?_)
    | (with_reducible apply SameOutside.after (cutIfLost_same ..); rotate_left; decide)
    | dsimp only

theorem judgeMeter_same (m : Meter) (s : State) :
    SameOutside [.link, .coins] s (judgeMeter m s) := by
  unfold judgeMeter
  iterate 12 all_goals try first
    | split
    | with_reducible exact SameOutside.refl _ _
    | (with_reducible apply SameOutside.after (State.setMeter_same ..); rotate_left; decide)
    | (with_reducible apply SameOutside.after (judgeMeterFull_same ..); rotate_left; decide)
    | dsimp only

theorem oweMeter_same (m : Meter) (s : State) :
    SameOutside [.link, .counters, .coins] s (oweMeter m s) := by
  unfold oweMeter
  iterate 12 all_goals try first
    | split
    | with_reducible exact SameOutside.refl _ _
    | (with_reducible apply SameOutside.after (State.setMeter_same ..); rotate_left; decide)
    | (with_reducible apply SameOutside.after (increment_same ..); rotate_left; decide)
    | (with_reducible apply SameOutside.after (judgeMeterFull_same ..); rotate_left; decide)
    | (with_reducible apply SameOutside.after (judgeMeter_same ..); rotate_left; decide)
    | dsimp only

theorem placeUnits_same (c : Chute) (v : Nat) (s : State) :
    SameOutside [.link, .counters, .coins] s (placeUnits c v s) := by
  unfold placeUnits
  iterate 12 all_goals try first
    | split
    | with_reducible exact SameOutside.refl _ _
    | (with_reducible apply SameOutside.after (State.setQueue_same ..); rotate_left; decide)
    | (with_reducible apply SameOutside.after (addUnits_same ..); rotate_left; decide)
    | (with_reducible apply SameOutside.after (judgePulse_same ..); rotate_left; decide)
    | dsimp only

theorem acceptCoin_same (c : Chute) (s : State) :
    SameOutside [.link, .counters, .coins] s (acceptCoin c s) := by
  unfold acceptCoin
  iterate 12 all_goals try first
    | split
    | with_reducible exact SameOutside.refl _ _
    | (with_reducible apply SameOutside.after (oweMeter_same ..); rotate_left; decide)
    | (with_reducible apply SameOutside.after (placeUnits_same ..); rotate_left; decide)
    | dsimp only
    | with_reducible refine SameOutside.with_coins ?_ (by decide)

theorem judgeCoin_same (c : Chute) (start : Nat) (s : State) :
    SameOutside [.link, .counters, .coins] s (judgeCoin c start s) := by
  unfold judgeCoin
  iterate 12 all_goals try first
    | split
    | with_reducible exact SameOutside.refl _ _
    | (with_reducible apply SameOutside.after (State.setChute_same ..); rotate_left; decide)
    | (with_reducible apply SameOutside.after (increment_same ..); rotate_left; decide)
    | (with_reducible apply SameOutside.after (postChute_same ..); rotate_left; decide)
    | (with_reducible apply SameOutside.after (acceptCoin_same ..); rotate_left; decide)
    | dsimp only

theorem chuteInput_same (c : Chute) (active : Bool) (s : State) :
    SameOutside [.link, .counters, .coins] s (chuteInput c active s) := by
  unfold chuteInput
  iterate 12 all_goals try first
    | split
    | with_reducible exact SameOutside.refl _ _
    | (with_reducible apply SameOutside.after (State.setChute_same ..); rotate_left; decide)
    | (with_reducible apply SameOutside.after (judgeCoin_same ..); rotate_left; decide)
    | dsimp only

theorem jamExpiry_same (c : Chute) (active : Bool) (s : State) :
    SameOutside [.link, .counters, .coins] s (jamExpiry c active s) := by
  unfold jamExpiry
  iterate 12 all_goals try first
    | split
    | with_reducible exact SameOutside.refl _ _
    | (with_reducible apply SameOutside.after (State.setChute_same ..); rotate_left; decide)
    | (with_reducible apply SameOutside.after (increment_same ..); rotate_left; decide)
    | (with_reducible apply SameOutside.after (postChute_same ..); rotate_left; decide)
    | (with_reducible apply SameOutside.after (judgeJam_same ..); rotate_left; decide)
    | dsimp only

theorem fadePicture_same (rising : Bool) (duration : Nat) (s : State) :
    SameOutside [.pic] s (fadePicture rising duration s) := by
  unfold fadePicture
  iterate 12 all_goals try first
    | split
    | with_reducible exact SameOutside.refl _ _
    | dsimp only
    | with_reducible refine SameOutside.with_pic ?_ (by decide)

theorem setPictureLevel_same (l : Nat) (s : State) :
    SameOutside [.pic] s (setPictureLevel l s) := by
  unfold setPictureLevel
  iterate 12 all_goals try first
    | split
    | with_reducible exact SameOutside.refl _ _
    | dsimp only
    | with_reducible refine SameOutside.with_pic ?_ (by decide)

theorem stopPictureFade_same (s : State) :
    SameOutside [.pic] s (stopPictureFade s) := by
  unfold stopPictureFade
  iterate 12 all_goals try first
    | split
    | with_reducible exact SameOutside.refl _ _
    | dsimp only
    | with_reducible refine SameOutside.with_pic ?_ (by decide)

theorem stepPictureFade_same (s : State) :
    SameOutside [.pic] s (stepPictureFade s) := by
  unfold stepPictureFade
  iterate 12 all_goals try first
    | split
    | with_reducible exact SameOutside.refl _ _
    | dsimp only
    | with_reducible refine SameOutside.with_pic ?_ (by decide)

theorem postOutput_same (dimEvent : Bool) (s : State) :
    SameOutside [.link] s (postOutput dimEvent s) := by
  unfold postOutput
  iterate 12 all_goals try first
    | split
    | with_reducible exact SameOutside.refl _ _
    | (with_reducible apply SameOutside.after (post_same ..); rotate_left; decide)
    | dsimp only

theorem liftDim_same (s : State) :
    SameOutside [.link, .pic] s (liftDim s) := by
  unfold liftDim
  iterate 12 all_goals try first
    | split
    | with_reducible exact SameOutside.refl _ _
    | (with_reducible apply SameOutside.after (postOutput_same ..); rotate_left; decide)
    | dsimp only
    | with_reducible refine SameOutside.with_pic ?_ (by decide)

theorem judgeWatched_same (s : State) :
    SameOutside [.link, .pic] s (judgeWatched s) := by
  unfold judgeWatched
  iterate 12 all_goals try first
    | split
    | with_reducible exact SameOutside.refl _ _
    | (with_reducible apply SameOutside.after (liftDim_same ..); rotate_left; decide)
    | dsimp only
    | with_reducible refine SameOutside.with_pic ?_ (by decide)

theorem startStill_same (s : State) :
    SameOutside [.pic] s (startStill s) := by
  unfold startStill
  iterate 12 all_goals try first
    | split
    | with_reducible exact SameOutside.refl _ _
    | dsimp only
    | with_reducible refine SameOutside.with_pic ?_ (by decide)

theorem stillSignature_same (n : Slot) (sig : Word16) (s : State) :
    SameOutside [.link, .pic] s (stillSignature n sig s) := by
  unfold stillSignature
  iterate 12 all_goals try first
    | split
    | with_reducible exact SameOutside.refl _ _
    | (with_reducible apply SameOutside.after (liftDim_same ..); rotate_left; decide)
    | (with_reducible apply SameOutside.after (startStill_same ..); rotate_left; decide)
    | dsimp only
    | with_reducible refine SameOutside.with_pic ?_ (by decide)

theorem stillExpiry_same (s : State) :
    SameOutside [.link, .counters, .pic] s (stillExpiry s) := by
  unfold stillExpiry
  iterate 12 all_goals try first
    | split
    | with_reducible exact SameOutside.refl _ _
    | (with_reducible apply SameOutside.after (increment_same ..); rotate_left; decide)
    | (with_reducible apply SameOutside.after (postOutput_same ..); rotate_left; decide)
    | dsimp only
    | with_reducible refine SameOutside.with_pic ?_ (by decide)

theorem refreshDim_same (s : State) :
    SameOutside [.pic] s (refreshDim s) := by
  unfold refreshDim
  iterate 12 all_goals try first
    | split
    | with_reducible exact SameOutside.refl _ _
    | dsimp only
    | with_reducible refine SameOutside.with_pic ?_ (by decide)

theorem fadeSound_same (rising : Bool) (duration : Nat) (s : State) :
    SameOutside [.snd] s (fadeSound rising duration s) := by
  unfold fadeSound
  iterate 12 all_goals try first
    | split
    | with_reducible exact SameOutside.refl _ _
    | dsimp only
    | with_reducible refine SameOutside.with_snd ?_ (by decide)

theorem setGain_same (g : Nat) (s : State) :
    SameOutside [.snd] s (setGain g s) := by
  unfold setGain
  iterate 12 all_goals try first
    | split
    | with_reducible exact SameOutside.refl _ _
    | dsimp only
    | with_reducible refine SameOutside.with_snd ?_ (by decide)

theorem stopSoundFade_same (s : State) :
    SameOutside [.snd] s (stopSoundFade s) := by
  unfold stopSoundFade
  iterate 12 all_goals try first
    | split
    | with_reducible exact SameOutside.refl _ _
    | dsimp only
    | with_reducible refine SameOutside.with_snd ?_ (by decide)

theorem stepSoundFade_same (s : State) :
    SameOutside [.now, .snd] s (stepSoundFade s) := by
  unfold stepSoundFade
  iterate 12 all_goals try first
    | split
    | with_reducible exact SameOutside.refl _ _
    | (with_reducible apply SameOutside.after (State.reach_same ..); rotate_left; decide)
    | dsimp only
    | with_reducible refine SameOutside.with_snd ?_ (by decide)

theorem judgeDuck_same (s : State) :
    SameOutside [.snd] s (judgeDuck s) := by
  unfold judgeDuck
  iterate 12 all_goals try first
    | split
    | with_reducible exact SameOutside.refl _ _
    | dsimp only
    | with_reducible refine SameOutside.with_snd ?_ (by decide)

theorem abandonFilling_same (s : State) :
    SameOutside [.frame] s (abandonFilling s) := by
  unfold abandonFilling
  iterate 12 all_goals try first
    | split
    | with_reducible exact SameOutside.refl _ _
    | (with_reducible apply SameOutside.after (State.setBuffer_same ..); rotate_left; decide)
    | dsimp only

theorem disableWriter_same (s : State) :
    SameOutside [.link, .frame, .pic] s (disableWriter s) := by
  unfold disableWriter
  iterate 12 all_goals try first
    | split
    | with_reducible exact SameOutside.refl _ _
    | (with_reducible apply SameOutside.after (judgeWatched_same ..); rotate_left; decide)
    | (with_reducible apply SameOutside.after (abandonFilling_same ..); rotate_left; decide)
    | dsimp only
    | with_reducible refine SameOutside.with_frame ?_ (by decide)

theorem enableWriter_same (n : Slot) (s : State) :
    SameOutside [.link, .frame, .pic] s (enableWriter n s) := by
  unfold enableWriter
  iterate 12 all_goals try first
    | split
    | with_reducible exact SameOutside.refl _ _
    | (with_reducible apply SameOutside.after (judgeWatched_same ..); rotate_left; decide)
    | (with_reducible apply SameOutside.after (disableWriter_same ..); rotate_left; decide)
    | dsimp only
    | with_reducible refine SameOutside.with_frame ?_ (by decide)

theorem latchWindow_same (n : Slot) (s : State) :
    SameOutside [.frame] s (latchWindow n s) := by
  unfold latchWindow
  iterate 12 all_goals try first
    | split
    | with_reducible exact SameOutside.refl _ _
    | dsimp only
    | with_reducible refine SameOutside.with_frame ?_ (by decide)

theorem fillBuffer_same (b : Fin 3) (n : Slot) (s : State) :
    SameOutside [.frame] s (fillBuffer b n s) := by
  unfold fillBuffer
  iterate 12 all_goals try first
    | split
    | with_reducible exact SameOutside.refl _ _
    | (with_reducible apply SameOutside.after (State.setBuffer_same ..); rotate_left; decide)
    | dsimp only

theorem takeForField_same (n : Slot) (s : State) :
    SameOutside [.link, .counters, .frame] s (takeForField n s) := by
  unfold takeForField
  iterate 12 all_goals try first
    | split
    | with_reducible exact SameOutside.refl _ _
    | (with_reducible apply SameOutside.after (increment_same ..); rotate_left; decide)
    | (with_reducible apply SameOutside.after (fillBuffer_same ..); rotate_left; decide)
    | dsimp only

theorem fieldOpens_same (src : Source) (s : State) :
    SameOutside [.link, .counters, .frame] s (fieldOpens src s) := by
  unfold fieldOpens
  iterate 12 all_goals try first
    | split
    | with_reducible exact SameOutside.refl _ _
    | (with_reducible apply SameOutside.after (takeForField_same ..); rotate_left; decide)
    | dsimp only

theorem captureLine_same (src : Source) (k : Nat) (video : List (Nat × RGB)) (s : State) :
    SameOutside [.frame] s (captureLine src k video s) := by
  unfold captureLine
  iterate 12 all_goals try first
    | split
    | with_reducible exact SameOutside.refl _ _
    | (with_reducible apply SameOutside.after (State.setBuffer_same ..); rotate_left; decide)
    | dsimp only

theorem reportReady_same (n : Slot) (sig : Word16) (s : State) :
    SameOutside [.link, .slots, .pic, .reports] s (reportReady n sig s) := by
  unfold reportReady
  iterate 12 all_goals try first
    | split
    | with_reducible exact SameOutside.refl _ _
    | (with_reducible apply SameOutside.after (State.setSlot_same ..); rotate_left; decide)
    | (with_reducible apply SameOutside.after (State.report_same ..); rotate_left; decide)
    | (with_reducible apply SameOutside.after (stillSignature_same ..); rotate_left; decide)
    | dsimp only

theorem makeReady_same (b : Fin 3) (s : State) :
    SameOutside [.link, .slots, .frame, .pic, .reports] s (makeReady b s) := by
  unfold makeReady
  iterate 12 all_goals try first
    | split
    | with_reducible exact SameOutside.refl _ _
    | (with_reducible apply SameOutside.after (State.setBuffer_same ..); rotate_left; decide)
    | (with_reducible apply SameOutside.after (reportReady_same ..); rotate_left; decide)
    | dsimp only
    | with_reducible refine SameOutside.with_frame ?_ (by decide)

theorem fieldCloses_same (src : Source) (accepted : Bool) (s : State) :
    SameOutside [.link, .slots, .frame, .pic, .reports] s (fieldCloses src accepted s) := by
  unfold fieldCloses
  iterate 12 all_goals try first
    | split
    | with_reducible exact SameOutside.refl _ _
    | (with_reducible apply SameOutside.after (State.setBuffer_same ..); rotate_left; decide)
    | (with_reducible apply SameOutside.after (makeReady_same ..); rotate_left; decide)
    | dsimp only

theorem setHold_same (h : Bool) (s : State) :
    SameOutside [.frame] s (setHold h s) := by
  unfold setHold
  iterate 12 all_goals try first
    | split
    | with_reducible exact SameOutside.refl _ _
    | dsimp only
    | with_reducible refine SameOutside.with_frame ?_ (by decide)

theorem setBlank_same (b : Bool) (s : State) :
    SameOutside [.frame] s (setBlank b s) := by
  unfold setBlank
  iterate 12 all_goals try first
    | split
    | with_reducible exact SameOutside.refl _ _
    | dsimp only
    | with_reducible refine SameOutside.with_frame ?_ (by decide)

theorem revealSlot_same (n : Slot) (s : State) :
    SameOutside [.frame] s (revealSlot n s) := by
  unfold revealSlot
  iterate 12 all_goals try first
    | split
    | with_reducible exact SameOutside.refl _ _
    | (with_reducible apply SameOutside.after (firstTake_same ..); rotate_left; decide)
    | dsimp only
    | with_reducible refine SameOutside.with_frame ?_ (by decide)

theorem revealStandby_same (s : State) :
    SameOutside [.frame] s (revealStandby s) := by
  unfold revealStandby
  iterate 12 all_goals try first
    | split
    | with_reducible exact SameOutside.refl _ _
    | (with_reducible apply SameOutside.after (firstTake_same ..); rotate_left; decide)
    | dsimp only
    | with_reducible refine SameOutside.with_frame ?_ (by decide)

theorem recentre_same (s : State) :
    SameOutside [.frame] s (recentre s) := by
  unfold recentre
  iterate 12 all_goals try first
    | split
    | with_reducible exact SameOutside.refl _ _
    | dsimp only
    | with_reducible refine SameOutside.with_frame ?_ (by decide)

theorem refreshFin_same (s : State) :
    SameOutside [.frame] s (refreshFin s) := by
  unfold refreshFin
  iterate 12 all_goals try first
    | split
    | with_reducible exact SameOutside.refl _ _
    | dsimp only
    | with_reducible refine SameOutside.with_frame ?_ (by decide)

theorem showBuffer_same (b : Fin 3) (s : State) :
    SameOutside [.frame] s (showBuffer b s) := by
  unfold showBuffer
  iterate 12 all_goals try first
    | split
    | with_reducible exact SameOutside.refl _ _
    | dsimp only
    | with_reducible refine SameOutside.with_frame ?_ (by decide)

theorem firstTake_same (n : Slot) (s : State) :
    SameOutside [.frame] s (firstTake n s) := by
  unfold firstTake
  iterate 12 all_goals try first
    | split
    | with_reducible exact SameOutside.refl _ _
    | (with_reducible apply SameOutside.after (showBuffer_same ..); rotate_left; decide)
    | dsimp only
    | with_reducible refine SameOutside.with_frame ?_ (by decide)

theorem readPass_same (n : Slot) (s : State) :
    SameOutside [.link, .counters, .frame] s (readPass n s) := by
  unfold readPass
  iterate 12 all_goals try first
    | split
    | with_reducible exact SameOutside.refl _ _
    | (with_reducible apply SameOutside.after (increment_same ..); rotate_left; decide)
    | (with_reducible apply SameOutside.after (showBuffer_same ..); rotate_left; decide)
    | dsimp only

theorem halfFin_same (s : State) :
    SameOutside [.frame] s (halfFin s) := by
  unfold halfFin
  iterate 12 all_goals try first
    | split
    | with_reducible exact SameOutside.refl _ _
    | dsimp only
    | with_reducible refine SameOutside.with_frame ?_ (by decide)

theorem readAhead_same (n : Slot) (k : Nat) (s : State) :
    SameOutside [.link, .counters, .frame] s (readAhead n k s) := by
  unfold readAhead
  iterate 12 all_goals try first
    | split
    | with_reducible exact SameOutside.refl _ _
    | (with_reducible apply SameOutside.after (increment_same ..); rotate_left; decide)
    | (with_reducible apply SameOutside.after (showBuffer_same ..); rotate_left; decide)
    | (with_reducible apply SameOutside.after (halfFin_same ..); rotate_left; decide)
    | dsimp only

theorem readPace_same (n : Slot) (s : State) :
    SameOutside [.link, .counters, .frame] s (readPace n s) := by
  unfold readPace
  iterate 12 all_goals try first
    | split
    | with_reducible exact SameOutside.refl _ _
    | (with_reducible apply SameOutside.after (readAhead_same ..); rotate_left; decide)
    | dsimp only
    | with_reducible refine SameOutside.with_frame ?_ (by decide)

theorem readerStart_same (s : State) :
    SameOutside [.link, .counters, .frame] s (readerStart s) := by
  unfold readerStart
  iterate 12 all_goals try first
    | split
    | with_reducible exact SameOutside.refl _ _
    | (with_reducible apply SameOutside.after (refreshFin_same ..); rotate_left; decide)
    | (with_reducible apply SameOutside.after (firstTake_same ..); rotate_left; decide)
    | (with_reducible apply SameOutside.after (readPass_same ..); rotate_left; decide)
    | (with_reducible apply SameOutside.after (readPace_same ..); rotate_left; decide)
    | dsimp only

/-- A slot awaits its REVEAL exactly while it is `to` of a changeover before REVEAL. -/
theorem awaitsReveal_iff (n : Slot) (s : State) :
    awaitsReveal n s = true ↔ ∃ r, s.co.record = some r ∧ r.target = some n ∧ r.phase ≠ .reveal ∧ r.phase ≠ .grant := by
  unfold awaitsReveal
  cases s.co.record <;> simp [and_assoc]

/-- While its source awaits a REVEAL the reader takes nothing: Fin alone may change. -/
theorem readerStart_frame_of_awaitsReveal {n : Slot} {s : State} (hr : s.frame.reader = some n)
    (h : awaitsReveal n s = true) : (readerStart s).frame = { s.frame with fin := (readerStart s).frame.fin } := by
  have h' : awaitsReveal n (refreshFin s) = true := by unfold refreshFin; rw [hr]; exact h
  unfold readerStart
  by_cases hb : (s.frame.blank || s.frame.hold) = true
  · simp [hb]
  · simp only [hb, hr, h', if_true]
    unfold refreshFin
    simp [hr]

theorem judgeMenu_same (s : State) :
    SameOutside [.pic, .snd] s (judgeMenu s) := by
  unfold judgeMenu
  iterate 12 all_goals try first
    | split
    | with_reducible exact SameOutside.refl _ _
    | (with_reducible apply SameOutside.after (judgeDuck_same ..); rotate_left; decide)
    | dsimp only
    | with_reducible refine SameOutside.with_pic ?_ (by decide)

theorem postSignal_same (src : Source) (c : SignalCause) (s : State) :
    SameOutside [.link] s (postSignal src c s) := by
  unfold postSignal
  iterate 12 all_goals try first
    | split
    | with_reducible exact SameOutside.refl _ _
    | (with_reducible apply SameOutside.after (post_same ..); rotate_left; decide)
    | dsimp only

theorem applyMonitor_same (src : Source) (m : Monitor) (c : Option SignalCause) (s : State) :
    SameOutside [.link, .monitors, .pic, .snd, .reports] s (applyMonitor src m c s) := by
  unfold applyMonitor
  iterate 12 all_goals try first
    | split
    | with_reducible exact SameOutside.refl _ _
    | (with_reducible apply SameOutside.after (State.setMonitor_same ..); rotate_left; decide)
    | (with_reducible apply SameOutside.after (State.report_same ..); rotate_left; decide)
    | (with_reducible apply SameOutside.after (judgeMenu_same ..); rotate_left; decide)
    | (with_reducible apply SameOutside.after (postSignal_same ..); rotate_left; decide)
    | dsimp only

theorem closeField_same (src : Source) (accepted : Bool) (s : State) :
    SameOutside [.link, .slots, .monitors, .frame, .pic, .reports] s (closeField src accepted s) := by
  unfold closeField
  iterate 12 all_goals try first
    | split
    | with_reducible exact SameOutside.refl _ _
    | (with_reducible apply SameOutside.after (State.setMonitor_same ..); rotate_left; decide)
    | (with_reducible apply SameOutside.after (fieldCloses_same ..); rotate_left; decide)
    | dsimp only

theorem syncCloses_same (src : Source) (s : State) :
    SameOutside [.link, .slots, .monitors, .frame, .pic, .snd, .reports] s (syncCloses src s) := by
  unfold syncCloses
  iterate 12 all_goals try first
    | split
    | with_reducible exact SameOutside.refl _ _
    | (with_reducible apply SameOutside.after (applyMonitor_same ..); rotate_left; decide)
    | (with_reducible apply SameOutside.after (closeField_same ..); rotate_left; decide)
    | dsimp only

theorem syncOpens_same (src : Source) (s : State) :
    SameOutside [.link, .counters, .monitors, .frame] s (syncOpens src s) := by
  unfold syncOpens
  iterate 12 all_goals try first
    | split
    | with_reducible exact SameOutside.refl _ _
    | (with_reducible apply SameOutside.after (State.setMonitor_same ..); rotate_left; decide)
    | (with_reducible apply SameOutside.after (fieldOpens_same ..); rotate_left; decide)
    | dsimp only

theorem lineSyncAt_same (src : Source) (video : List (Nat × RGB)) (s : State) :
    SameOutside [.monitors, .frame] s (lineSyncAt src video s) := by
  unfold lineSyncAt
  iterate 12 all_goals try first
    | split
    | with_reducible exact SameOutside.refl _ _
    | (with_reducible apply SameOutside.after (State.setMonitor_same ..); rotate_left; decide)
    | (with_reducible apply SameOutside.after (captureLine_same ..); rotate_left; decide)
    | dsimp only

theorem fieldExpires_same (src : Source) (s : State) :
    SameOutside [.now, .link, .slots, .monitors, .frame, .pic, .reports] s (fieldExpires src s) := by
  unfold fieldExpires
  iterate 12 all_goals try first
    | split
    | with_reducible exact SameOutside.refl _ _
    | (with_reducible apply SameOutside.after (State.reach_same ..); rotate_left; decide)
    | (with_reducible apply SameOutside.after (closeField_same ..); rotate_left; decide)
    | dsimp only

theorem syncTimerExpires_same (src : Source) (s : State) :
    SameOutside [.now, .link, .monitors, .pic, .snd, .reports] s (syncTimerExpires src s) := by
  unfold syncTimerExpires
  iterate 12 all_goals try first
    | split
    | with_reducible exact SameOutside.refl _ _
    | (with_reducible apply SameOutside.after (State.reach_same ..); rotate_left; decide)
    | (with_reducible apply SameOutside.after (applyMonitor_same ..); rotate_left; decide)
    | dsimp only

theorem supplyOn_same (n : Slot) (s : State) :
    SameOutside [.monitors] s (supplyOn n s) := by
  unfold supplyOn
  iterate 12 all_goals try first
    | split
    | with_reducible exact SameOutside.refl _ _
    | (with_reducible apply SameOutside.after (State.setMonitor_same ..); rotate_left; decide)
    | dsimp only

theorem supplyOff_same (n : Slot) (s : State) :
    SameOutside [.link, .slots, .monitors, .frame, .pic, .snd, .reports] s (supplyOff n s) := by
  unfold supplyOff
  iterate 12 all_goals try first
    | split
    | with_reducible exact SameOutside.refl _ _
    | (with_reducible apply SameOutside.after (State.setMonitor_same ..); rotate_left; decide)
    | (with_reducible apply SameOutside.after (applyMonitor_same ..); rotate_left; decide)
    | (with_reducible apply SameOutside.after (closeField_same ..); rotate_left; decide)
    | dsimp only

theorem restartMonitors_same (s : State) :
    SameOutside [.monitors, .pic, .snd] s (restartMonitors s) := by
  unfold restartMonitors
  iterate 12 all_goals try first
    | split
    | with_reducible exact SameOutside.refl _ _
    | (with_reducible apply SameOutside.after (judgeMenu_same ..); rotate_left; decide)
    | dsimp only
    | with_reducible refine SameOutside.with_monitors ?_ (by decide)

theorem followSource_same (s : State) :
    SameOutside [.out, .pic, .snd] s (followSource s) := by
  unfold followSource
  iterate 12 all_goals try first
    | split
    | with_reducible exact SameOutside.refl _ _
    | (with_reducible apply SameOutside.after (judgeMenu_same ..); rotate_left; decide)
    | dsimp only
    | with_reducible refine SameOutside.with_out ?_ (by decide)

theorem fixField_same (s : State) :
    SameOutside [.pic] s (fixField s) := by
  unfold fixField
  iterate 12 all_goals try first
    | split
    | with_reducible exact SameOutside.refl _ _
    | dsimp only
    | with_reducible refine SameOutside.with_pic ?_ (by decide)

theorem fieldStart_same (s : State) :
    SameOutside [.link, .counters, .frame, .out, .pic, .snd] s (fieldStart s) := by
  unfold fieldStart
  iterate 12 all_goals try first
    | split
    | with_reducible exact SameOutside.refl _ _
    | (with_reducible apply SameOutside.after (stepPictureFade_same ..); rotate_left; decide)
    | (with_reducible apply SameOutside.after (refreshDim_same ..); rotate_left; decide)
    | (with_reducible apply SameOutside.after (readerStart_same ..); rotate_left; decide)
    | (with_reducible apply SameOutside.after (followSource_same ..); rotate_left; decide)
    | (with_reducible apply SameOutside.after (fixField_same ..); rotate_left; decide)
    | dsimp only
    | with_reducible refine SameOutside.with_out ?_ (by decide)

theorem retime_same (d : Decision) (s : State) :
    SameOutside [.link, .counters, .frame, .out, .pic, .snd] s (retime d s) := by
  unfold retime
  iterate 12 all_goals try first
    | split
    | with_reducible exact SameOutside.refl _ _
    | (with_reducible apply SameOutside.after (postOutput_same ..); rotate_left; decide)
    | (with_reducible apply SameOutside.after (judgeMenu_same ..); rotate_left; decide)
    | (with_reducible apply SameOutside.after (fieldStart_same ..); rotate_left; decide)
    | (with_reducible apply SameOutside.after (settle_same ..); rotate_left; decide)
    | dsimp only
    | with_reducible refine SameOutside.with_out ?_ (by decide)

theorem follow_same (d : Decision) (s : State) :
    SameOutside [.out] s (follow d s) := by
  unfold follow
  iterate 12 all_goals try first
    | split
    | with_reducible exact SameOutside.refl _ _
    | dsimp only
    | with_reducible refine SameOutside.with_out ?_ (by decide)

theorem placeSlot_same (n : Slot) (d : Decision) (s : State) :
    SameOutside [.frame] s (placeSlot n d s) := by
  unfold placeSlot
  iterate 12 all_goals try first
    | split
    | with_reducible exact SameOutside.refl _ _
    | dsimp only
    | with_reducible refine SameOutside.with_frame ?_ (by decide)

theorem settleDone_same (s : State) :
    SameOutside [.frame, .out] s (settleDone s) := by
  unfold settleDone
  iterate 12 all_goals try first
    | split
    | with_reducible exact SameOutside.refl _ _
    | (with_reducible apply SameOutside.after (setBlank_same ..); rotate_left; decide)
    | (with_reducible apply SameOutside.after (settle_same ..); rotate_left; decide)
    | dsimp only
    | with_reducible refine SameOutside.with_out ?_ (by decide)

theorem startupDecision_same (s : State) :
    SameOutside [.link, .counters, .frame, .out, .pic, .snd] s (startupDecision s) := by
  unfold startupDecision
  iterate 12 all_goals try first
    | split
    | with_reducible exact SameOutside.refl _ _
    | (with_reducible apply SameOutside.after (setBlank_same ..); rotate_left; decide)
    | (with_reducible apply SameOutside.after (retime_same ..); rotate_left; decide)
    | (with_reducible apply SameOutside.after (settleDone_same ..); rotate_left; decide)
    | dsimp only
    | with_reducible refine SameOutside.with_out ?_ (by decide)

theorem restartPicture_same (s : State) :
    SameOutside [.frame, .out, .pic, .snd] s (restartPicture s) := by
  unfold restartPicture
  iterate 12 all_goals try first
    | split
    | with_reducible exact SameOutside.refl _ _
    | (with_reducible apply SameOutside.after (settle_same ..); rotate_left; decide)
    | dsimp only
    | (refine ⟨fun b hb => ?_⟩; cases b <;> first | exact absurd (by decide) hb | (simp only [Block.same]; done))
    | with_reducible refine SameOutside.with_frame ?_ (by decide)
    | with_reducible refine SameOutside.with_out ?_ (by decide)
    | with_reducible refine SameOutside.with_pic ?_ (by decide)
    | with_reducible refine SameOutside.with_snd ?_ (by decide)

theorem postInput_same (s : State) :
    SameOutside [.link] s (postInput s) := by
  unfold postInput
  iterate 12 all_goals try first
    | split
    | with_reducible exact SameOutside.refl _ _
    | (with_reducible apply SameOutside.after (post_same ..); rotate_left; decide)
    | dsimp only

theorem giveLink_same (s : State) :
    SameOutside [.link, .router, .coins] s (giveLink s) := by
  unfold giveLink
  iterate 12 all_goals try first
    | split
    | with_reducible exact SameOutside.refl _ _
    | (with_reducible apply SameOutside.after (cutLostPulses_same ..); rotate_left; decide)
    | (with_reducible apply SameOutside.after (postInput_same ..); rotate_left; decide)
    | dsimp only
    | with_reducible refine SameOutside.with_router ?_ (by decide)

theorem giveNone_same (s : State) :
    SameOutside [.link, .router, .coins] s (giveNone s) := by
  unfold giveNone
  iterate 12 all_goals try first
    | split
    | with_reducible exact SameOutside.refl _ _
    | (with_reducible apply SameOutside.after (cutLostPulses_same ..); rotate_left; decide)
    | dsimp only
    | with_reducible refine SameOutside.with_router ?_ (by decide)

theorem giveSlot_same (n : Slot) (s : State) :
    SameOutside [.link, .counters, .router, .coins] s (giveSlot n s) := by
  unfold giveSlot
  iterate 12 all_goals try first
    | split
    | with_reducible exact SameOutside.refl _ _
    | (with_reducible apply SameOutside.after (judgePulse_same ..); rotate_left; decide)
    | (with_reducible apply SameOutside.after (cutLostPulses_same ..); rotate_left; decide)
    | dsimp only
    | with_reducible refine SameOutside.with_router ?_ (by decide)

theorem routerQuiesce_same (s : State) :
    SameOutside [.link, .router, .coins] s (routerQuiesce s) := by
  unfold routerQuiesce
  iterate 12 all_goals try first
    | split
    | with_reducible exact SameOutside.refl _ _
    | (with_reducible apply SameOutside.after (giveLink_same ..); rotate_left; decide)
    | (with_reducible apply SameOutside.after (giveNone_same ..); rotate_left; decide)
    | dsimp only
    | with_reducible refine SameOutside.with_router ?_ (by decide)

theorem copyMap_same (t : Option Slot) (s : State) :
    SameOutside [.slots, .router] s (copyMap t s) := by
  unfold copyMap
  iterate 12 all_goals try first
    | split
    | with_reducible exact SameOutside.refl _ _
    | (with_reducible apply SameOutside.after (State.setSlot_same ..); rotate_left; decide)
    | dsimp only
    | with_reducible refine SameOutside.with_router ?_ (by decide)

theorem routerGrant_same (t : Option Slot) (s : State) :
    SameOutside [.link, .counters, .slots, .router, .coins] s (routerGrant t s) := by
  unfold routerGrant
  iterate 12 all_goals try first
    | split
    | with_reducible exact SameOutside.refl _ _
    | (with_reducible apply SameOutside.after (giveLink_same ..); rotate_left; decide)
    | (with_reducible apply SameOutside.after (giveNone_same ..); rotate_left; decide)
    | (with_reducible apply SameOutside.after (giveSlot_same ..); rotate_left; decide)
    | (with_reducible apply SameOutside.after (copyMap_same ..); rotate_left; decide)
    | dsimp only
    | with_reducible refine SameOutside.with_router ?_ (by decide)

theorem ownerLost_same (n : Slot) (new : SlotState) (s : State) :
    SameOutside [.link, .router, .coins] s (ownerLost n new s) := by
  unfold ownerLost
  iterate 12 all_goals try first
    | split
    | with_reducible exact SameOutside.refl _ _
    | (with_reducible apply SameOutside.after (giveNone_same ..); rotate_left; decide)
    | dsimp only
    | with_reducible refine SameOutside.with_router ?_ (by decide)

theorem claimChanged_same (n : Slot) (new : SlotState) (s : State) :
    SameOutside [.link, .counters, .router, .coins] s (claimChanged n new s) := by
  unfold claimChanged
  iterate 12 all_goals try first
    | split
    | with_reducible exact SameOutside.refl _ _
    | (with_reducible apply SameOutside.after (giveSlot_same ..); rotate_left; decide)
    | dsimp only
    | with_reducible refine SameOutside.with_router ?_ (by decide)

theorem routerSlotChanged_same (n : Slot) (new : SlotState) (s : State) :
    SameOutside [.link, .counters, .router, .coins] s (routerSlotChanged n new s) := by
  unfold routerSlotChanged
  iterate 12 all_goals try first
    | split
    | with_reducible exact SameOutside.refl _ _
    | (with_reducible apply SameOutside.after (ownerLost_same ..); rotate_left; decide)
    | (with_reducible apply SameOutside.after (claimChanged_same ..); rotate_left; decide)
    | dsimp only

theorem judgeChord_same (i : Input) (active : Bool) (s : State) :
    SameOutside [.router] s (judgeChord i active s) := by
  unfold judgeChord
  iterate 12 all_goals try first
    | split
    | with_reducible exact SameOutside.refl _ _
    | dsimp only
    | with_reducible refine SameOutside.with_router ?_ (by decide)

theorem chordRenamed_same (s : State) :
    SameOutside [.router] s (chordRenamed s) := by
  unfold chordRenamed
  iterate 12 all_goals try first
    | split
    | with_reducible exact SameOutside.refl _ _
    | dsimp only
    | with_reducible refine SameOutside.with_router ?_ (by decide)

theorem chordExpires_same (s : State) :
    SameOutside [.link, .router] s (chordExpires s) := by
  unfold chordExpires
  iterate 12 all_goals try first
    | split
    | with_reducible exact SameOutside.refl _ _
    | (with_reducible apply SameOutside.after (post_same ..); rotate_left; decide)
    | dsimp only
    | with_reducible refine SameOutside.with_router ?_ (by decide)

theorem updateOrder_same (i : Input) (active : Bool) (s : State) :
    SameOutside [.router] s (updateOrder i active s) := by
  unfold updateOrder
  iterate 12 all_goals try first
    | split
    | with_reducible exact SameOutside.refl _ _
    | dsimp only
    | with_reducible refine SameOutside.with_router ?_ (by decide)

theorem leaveMask_same (i : Input) (active : Bool) (s : State) :
    SameOutside [.router] s (leaveMask i active s) := by
  unfold leaveMask
  iterate 12 all_goals try first
    | split
    | with_reducible exact SameOutside.refl _ _
    | dsimp only
    | with_reducible refine SameOutside.with_router ?_ (by decide)

theorem countStart_same (i : Input) (active : Bool) (s : State) :
    SameOutside [.link, .counters] s (countStart i active s) := by
  unfold countStart
  iterate 12 all_goals try first
    | split
    | with_reducible exact SameOutside.refl _ _
    | (with_reducible apply SameOutside.after (increment_same ..); rotate_left; decide)
    | dsimp only

theorem menuButton_same (i : Input) (active : Bool) (s : State) :
    SameOutside [.link] s (menuButton i active s) := by
  unfold menuButton
  iterate 12 all_goals try first
    | split
    | with_reducible exact SameOutside.refl _ _
    | (with_reducible apply SameOutside.after (post_same ..); rotate_left; decide)
    | dsimp only

theorem coinChange_same (i : Input) (active : Bool) (s : State) :
    SameOutside [.link, .counters, .coins] s (coinChange i active s) := by
  unfold coinChange
  iterate 12 all_goals try first
    | split
    | with_reducible exact SameOutside.refl _ _
    | (with_reducible apply SameOutside.after (chuteInput_same ..); rotate_left; decide)
    | dsimp only

theorem reportInput_same (i : Input) (s : State) :
    SameOutside [.link, .router] s (reportInput i s) := by
  unfold reportInput
  iterate 12 all_goals try first
    | split
    | with_reducible exact SameOutside.refl _ _
    | (with_reducible apply SameOutside.after (postInput_same ..); rotate_left; decide)
    | dsimp only
    | with_reducible refine SameOutside.with_router ?_ (by decide)

theorem changeInput_same (i : Input) (active : Bool) (s : State) :
    SameOutside [.link, .counters, .router, .coins] s (changeInput i active s) := by
  unfold changeInput
  iterate 12 all_goals try first
    | split
    | with_reducible exact SameOutside.refl _ _
    | (with_reducible apply SameOutside.after (judgeChord_same ..); rotate_left; decide)
    | (with_reducible apply SameOutside.after (updateOrder_same ..); rotate_left; decide)
    | (with_reducible apply SameOutside.after (leaveMask_same ..); rotate_left; decide)
    | (with_reducible apply SameOutside.after (countStart_same ..); rotate_left; decide)
    | (with_reducible apply SameOutside.after (menuButton_same ..); rotate_left; decide)
    | (with_reducible apply SameOutside.after (coinChange_same ..); rotate_left; decide)
    | (with_reducible apply SameOutside.after (reportInput_same ..); rotate_left; decide)
    | dsimp only
    | with_reducible refine SameOutside.with_router ?_ (by decide)

theorem rawChange_same (i : Input) (closed : Bool) (s : State) :
    SameOutside [.router] s (rawChange i closed s) := by
  unfold rawChange
  iterate 12 all_goals try first
    | split
    | with_reducible exact SameOutside.refl _ _
    | dsimp only
    | with_reducible refine SameOutside.with_router ?_ (by decide)

theorem rawPin_same (i : Input) (closed : Bool) (s : State) :
    SameOutside [.router] s (rawPin i closed s) := by
  unfold rawPin
  iterate 12 all_goals try first
    | split
    | with_reducible exact SameOutside.refl _ _
    | dsimp only
    | with_reducible refine SameOutside.with_router ?_ (by decide)

theorem debounceExpires_same (i : Input) (s : State) :
    SameOutside [.now, .link, .counters, .router, .coins] s (debounceExpires i s) := by
  unfold debounceExpires
  iterate 12 all_goals try first
    | split
    | with_reducible exact SameOutside.refl _ _
    | (with_reducible apply SameOutside.after (State.reach_same ..); rotate_left; decide)
    | (with_reducible apply SameOutside.after (changeInput_same ..); rotate_left; decide)
    | dsimp only
    | with_reducible refine SameOutside.with_router ?_ (by decide)

theorem playExpires_same (s : State) :
    SameOutside [.link, .counters, .router] s (playExpires s) := by
  unfold playExpires
  iterate 12 all_goals try first
    | split
    | with_reducible exact SameOutside.refl _ _
    | (with_reducible apply SameOutside.after (increment_same ..); rotate_left; decide)
    | dsimp only
    | with_reducible refine SameOutside.with_router ?_ (by decide)

theorem restartRouter_same (s : State) :
    SameOutside [.link, .router] s (restartRouter s) := by
  unfold restartRouter
  iterate 12 all_goals try first
    | split
    | with_reducible exact SameOutside.refl _ _
    | (with_reducible apply SameOutside.after (postInput_same ..); rotate_left; decide)
    | dsimp only
    | with_reducible refine SameOutside.with_router ?_ (by decide)

theorem beginTransaction_same (n : Slot) (op : BusOp) (owner : BusOwner) (s : State) :
    SameOutside [.bus] s (beginTransaction n op owner s) := by
  unfold beginTransaction
  iterate 12 all_goals try first
    | split
    | with_reducible exact SameOutside.refl _ _
    | dsimp only
    | with_reducible refine SameOutside.with_bus ?_ (by decide)

/-- A transaction begun leaves every block but the bus alone. -/
theorem begun_same {s t : State} {o : Option State}
    (h : ∀ u, o = some u → SameOutside [.bus] s u) (ht : SameOutside [.bus] s t) : SameOutside [.bus] s (o.getD t) := by
  cases o with
  | none => exact ht
  | some u => exact h u rfl

theorem beginSequence_same {s u : State} (h : beginSequence s = some u) : SameOutside [.bus] s u := by
  unfold beginSequence at h
  split at h
  · cases h
  · split at h
    · cases h
    · cases h
      exact (((SameOutside.refl [.bus] s).with_bus (by decide)).and (beginTransaction_same ..) (by decide))

theorem beginLink_same {s u : State} (h : beginLink s = some u) : SameOutside [.bus] s u := by
  unfold beginLink at h
  split at h
  · cases h
  · split at h
    · cases h
    · cases h
      exact (((SameOutside.refl [.bus] s).with_bus (by decide)).and (beginTransaction_same ..) (by decide))

theorem beginPoll_same {s u : State} (h : beginPoll s = some u) : SameOutside [.bus] s u := by
  unfold beginPoll at h
  split at h
  · cases h
  · cases h
    exact (((SameOutside.refl [.bus] s).with_bus (by decide)).and (beginTransaction_same ..) (by decide))

theorem arbitrate_same (s : State) : SameOutside [.bus] s (arbitrate s) := by
  unfold arbitrate
  split
  · exact .refl _ _
  · refine begun_same (fun u hu => ?_) (.refl _ _)
    have pick : ∀ a b : Option State, (∀ v, a = some v → SameOutside [.bus] s v) → (∀ v, b = some v → SameOutside [.bus] s v) →
        ∀ v, a.or b = some v → SameOutside [.bus] s v := by
      intro a b ha hb v hv
      cases a with
      | none => exact hb v hv
      | some w => exact ha v hv
    refine pick _ _ (fun v hv => beginSequence_same hv) (fun v hv => ?_) u hu
    split at hv
    · exact pick _ _ (fun v hv => beginPoll_same hv) (fun v hv => beginLink_same hv) v hv
    · exact pick _ _ (fun v hv => beginLink_same hv) (fun v hv => beginPoll_same hv) v hv

theorem withdrawApply_same (n : Slot) (s : State) :
    SameOutside [.bus] s (withdrawApply n s) := by
  unfold withdrawApply
  iterate 12 all_goals try first
    | split
    | with_reducible exact SameOutside.refl _ _
    | dsimp only
    | with_reducible refine SameOutside.with_bus ?_ (by decide)

theorem handOver_same (n : Slot) (banks : Tab Byte 4) (s : State) :
    SameOutside [.bus] s (handOver n banks s) := by
  unfold handOver
  iterate 12 all_goals try first
    | split
    | with_reducible exact SameOutside.refl _ _
    | (with_reducible apply SameOutside.after (arbitrate_same ..); rotate_left; decide)
    | (with_reducible apply SameOutside.after (withdrawApply_same ..); rotate_left; decide)
    | dsimp only
    | with_reducible refine SameOutside.with_bus ?_ (by decide)

theorem startLinkRun_same (n : Slot) (ops : List BusOp) (isRead : Bool) (s : State) :
    SameOutside [.bus] s (startLinkRun n ops isRead s) := by
  unfold startLinkRun
  iterate 12 all_goals try first
    | split
    | with_reducible exact SameOutside.refl _ _
    | (with_reducible apply SameOutside.after (arbitrate_same ..); rotate_left; decide)
    | dsimp only
    | with_reducible refine SameOutside.with_bus ?_ (by decide)

theorem pollExpires_same (s : State) :
    SameOutside [.now, .bus] s (pollExpires s) := by
  unfold pollExpires
  iterate 12 all_goals try first
    | split
    | with_reducible exact SameOutside.refl _ _
    | (with_reducible apply SameOutside.after (State.reach_same ..); rotate_left; decide)
    | (with_reducible apply SameOutside.after (arbitrate_same ..); rotate_left; decide)
    | dsimp only
    | with_reducible refine SameOutside.with_bus ?_ (by decide)

theorem restartBus_same (s : State) :
    SameOutside [.bus] s (restartBus s) := by
  unfold restartBus
  iterate 12 all_goals try first
    | split
    | with_reducible exact SameOutside.refl _ _
    | dsimp only
    | with_reducible refine SameOutside.with_bus ?_ (by decide)

theorem enter_same (n : Slot) (new : SlotState) (cause : SlotCause) (s : State) :
    SameOutside [.link, .counters, .slots, .router, .coins, .reports] s (enter n new cause s) := by
  unfold enter
  iterate 12 all_goals try first
    | split
    | with_reducible exact SameOutside.refl _ _
    | (with_reducible apply SameOutside.after (State.setSlot_same ..); rotate_left; decide)
    | (with_reducible apply SameOutside.after (State.report_same ..); rotate_left; decide)
    | (with_reducible apply SameOutside.after (post_same ..); rotate_left; decide)
    | (with_reducible apply SameOutside.after (judgePulse_same ..); rotate_left; decide)
    | (with_reducible apply SameOutside.after (routerSlotChanged_same ..); rotate_left; decide)
    | dsimp only

theorem recomputeMismatch_same (n : Slot) (s : State) :
    SameOutside [.slots] s (recomputeMismatch n s) := by
  unfold recomputeMismatch
  iterate 12 all_goals try first
    | split
    | with_reducible exact SameOutside.refl _ _
    | (with_reducible apply SameOutside.after (State.setSlot_same ..); rotate_left; decide)
    | dsimp only

theorem leaveSupplied_same (n : Slot) (new : SlotState) (cause : SlotCause) (s : State) :
    SameOutside [.link, .counters, .slots, .bus, .monitors, .frame, .pic, .snd, .router, .coins, .reports] s (leaveSupplied n new cause s) := by
  unfold leaveSupplied
  iterate 12 all_goals try first
    | split
    | with_reducible exact SameOutside.refl _ _
    | (with_reducible apply SameOutside.after (State.setSlot_same ..); rotate_left; decide)
    | (with_reducible apply SameOutside.after (returnQueue_same ..); rotate_left; decide)
    | (with_reducible apply SameOutside.after (cutPulse_same ..); rotate_left; decide)
    | (with_reducible apply SameOutside.after (supplyOff_same ..); rotate_left; decide)
    | (with_reducible apply SameOutside.after (withdrawApply_same ..); rotate_left; decide)
    | (with_reducible apply SameOutside.after (enter_same ..); rotate_left; decide)
    | dsimp only

theorem release_same (n : Slot) (s : State) :
    SameOutside [.link, .counters, .slots, .router, .coins, .reports] s (release n s) := by
  unfold release
  iterate 12 all_goals try first
    | split
    | with_reducible exact SameOutside.refl _ _
    | (with_reducible apply SameOutside.after (State.setSlot_same ..); rotate_left; decide)
    | (with_reducible apply SameOutside.after (enter_same ..); rotate_left; decide)
    | dsimp only

theorem proceedHeld_same (n : Slot) (s : State) :
    SameOutside [.link, .counters, .slots, .bus, .router, .coins, .reports] s (proceedHeld n s) := by
  unfold proceedHeld
  iterate 12 all_goals try first
    | split
    | with_reducible exact SameOutside.refl _ _
    | (with_reducible apply SameOutside.after (State.setSlot_same ..); rotate_left; decide)
    | (with_reducible apply SameOutside.after (handOver_same ..); rotate_left; decide)
    | (with_reducible apply SameOutside.after (release_same ..); rotate_left; decide)
    | dsimp only

theorem powerGoodSeen_same (n : Slot) (s : State) :
    SameOutside [.link, .counters, .slots, .bus, .router, .coins, .reports] s (powerGoodSeen n s) := by
  unfold powerGoodSeen
  iterate 12 all_goals try first
    | split
    | with_reducible exact SameOutside.refl _ _
    | (with_reducible apply SameOutside.after (State.setSlot_same ..); rotate_left; decide)
    | (with_reducible apply SameOutside.after (enter_same ..); rotate_left; decide)
    | (with_reducible apply SameOutside.after (proceedHeld_same ..); rotate_left; decide)
    | dsimp only

theorem enterPowering_same (n : Slot) (cause : SlotCause) (s : State) :
    SameOutside [.link, .counters, .slots, .bus, .monitors, .router, .coins, .reports] s (enterPowering n cause s) := by
  unfold enterPowering
  iterate 12 all_goals try first
    | split
    | with_reducible exact SameOutside.refl _ _
    | (with_reducible apply SameOutside.after (State.setSlot_same ..); rotate_left; decide)
    | (with_reducible apply SameOutside.after (readCoinLevels_same ..); rotate_left; decide)
    | (with_reducible apply SameOutside.after (supplyOn_same ..); rotate_left; decide)
    | (with_reducible apply SameOutside.after (enter_same ..); rotate_left; decide)
    | (with_reducible apply SameOutside.after (powerGoodSeen_same ..); rotate_left; decide)
    | (with_reducible apply SameOutside.after (rereadLevels_same ..); rotate_left; decide)
    | dsimp only

theorem powerGoodExpires_same (n : Slot) (s : State) :
    SameOutside [.now, .link, .counters, .slots, .bus, .monitors, .frame, .pic, .snd, .router, .coins, .reports] s (powerGoodExpires n s) := by
  unfold powerGoodExpires
  iterate 12 all_goals try first
    | split
    | with_reducible exact SameOutside.refl _ _
    | (with_reducible apply SameOutside.after (State.reach_same ..); rotate_left; decide)
    | (with_reducible apply SameOutside.after (leaveSupplied_same ..); rotate_left; decide)
    | dsimp only

theorem bootExpires_same (n : Slot) (s : State) :
    SameOutside [.now, .link, .counters, .slots, .router, .coins, .reports] s (bootExpires n s) := by
  unfold bootExpires
  iterate 12 all_goals try first
    | split
    | with_reducible exact SameOutside.refl _ _
    | (with_reducible apply SameOutside.after (State.reach_same ..); rotate_left; decide)
    | (with_reducible apply SameOutside.after (State.setSlot_same ..); rotate_left; decide)
    | (with_reducible apply SameOutside.after (enter_same ..); rotate_left; decide)
    | dsimp only

theorem setPowerGood_same (n : Slot) (on : Bool) (s : State) :
    SameOutside [.slots] s (setPowerGood n on s) := by
  unfold setPowerGood
  iterate 12 all_goals try first
    | split
    | with_reducible exact SameOutside.refl _ _
    | (with_reducible apply SameOutside.after (State.setSlot_same ..); rotate_left; decide)
    | dsimp only

theorem powerGoodRises_same (n : Slot) (s : State) :
    SameOutside [.link, .counters, .slots, .bus, .router, .coins, .reports] s (powerGoodRises n s) := by
  unfold powerGoodRises
  iterate 12 all_goals try first
    | split
    | with_reducible exact SameOutside.refl _ _
    | (with_reducible apply SameOutside.after (powerGoodSeen_same ..); rotate_left; decide)
    | (with_reducible apply SameOutside.after (setPowerGood_same ..); rotate_left; decide)
    | dsimp only

theorem powerGoodFalls_same (n : Slot) (s : State) :
    SameOutside [.link, .counters, .slots, .bus, .monitors, .frame, .pic, .snd, .router, .coins, .reports] s (powerGoodFalls n s) := by
  unfold powerGoodFalls
  iterate 12 all_goals try first
    | split
    | with_reducible exact SameOutside.refl _ _
    | (with_reducible apply SameOutside.after (leaveSupplied_same ..); rotate_left; decide)
    | (with_reducible apply SameOutside.after (setPowerGood_same ..); rotate_left; decide)
    | dsimp only

theorem applyMatched_same (n : Slot) (s : State) :
    SameOutside [.link, .counters, .slots, .router, .coins, .reports] s (applyMatched n s) := by
  unfold applyMatched
  iterate 12 all_goals try first
    | split
    | with_reducible exact SameOutside.refl _ _
    | (with_reducible apply SameOutside.after (release_same ..); rotate_left; decide)
    | dsimp only

theorem applyFailed_same (n : Slot) (s : State) :
    SameOutside [.link, .slots, .reports] s (applyFailed n s) := by
  unfold applyFailed
  iterate 12 all_goals try first
    | split
    | with_reducible exact SameOutside.refl _ _
    | (with_reducible apply SameOutside.after (State.setSlot_same ..); rotate_left; decide)
    | (with_reducible apply SameOutside.after (State.report_same ..); rotate_left; decide)
    | (with_reducible apply SameOutside.after (post_same ..); rotate_left; decide)
    | dsimp only

theorem autoPower_same (n : Slot) (s : State) :
    SameOutside [.link, .counters, .slots, .bus, .monitors, .router, .coins, .reports] s (autoPower n s) := by
  unfold autoPower
  iterate 12 all_goals try first
    | split
    | with_reducible exact SameOutside.refl _ _
    | (with_reducible apply SameOutside.after (State.setSlot_same ..); rotate_left; decide)
    | (with_reducible apply SameOutside.after (enterPowering_same ..); rotate_left; decide)
    | dsimp only

theorem autoPowerVerdict_same (n : Slot) (s : State) :
    SameOutside [.link, .counters, .slots, .bus, .monitors, .router, .coins, .reports] s (autoPowerVerdict n s) := by
  unfold autoPowerVerdict
  iterate 12 all_goals try first
    | split
    | with_reducible exact SameOutside.refl _ _
    | (with_reducible apply SameOutside.after (autoPower_same ..); rotate_left; decide)
    | dsimp only

theorem boardFound_same (n : Slot) (kind revision : Nat) (cause : SlotCause) (s : State) :
    SameOutside [.link, .counters, .slots, .router, .coins, .reports] s (boardFound n kind revision cause s) := by
  unfold boardFound
  iterate 12 all_goals try first
    | split
    | with_reducible exact SameOutside.refl _ _
    | (with_reducible apply SameOutside.after (State.setSlot_same ..); rotate_left; decide)
    | (with_reducible apply SameOutside.after (enter_same ..); rotate_left; decide)
    | dsimp only

theorem verdictPresent_same (n : Slot) (kind revision : Nat) (s : State) :
    SameOutside [.link, .counters, .slots, .bus, .monitors, .router, .coins, .reports] s (verdictPresent n kind revision s) := by
  unfold verdictPresent
  iterate 12 all_goals try first
    | split
    | with_reducible exact SameOutside.refl _ _
    | (with_reducible apply SameOutside.after (autoPowerVerdict_same ..); rotate_left; decide)
    | (with_reducible apply SameOutside.after (boardFound_same ..); rotate_left; decide)
    | dsimp only

theorem removeBoard_same (n : Slot) (cause : SlotCause) (s : State) :
    SameOutside [.link, .counters, .slots, .bus, .monitors, .frame, .pic, .snd, .router, .coins, .reports] s (removeBoard n cause s) := by
  unfold removeBoard
  iterate 12 all_goals try first
    | split
    | with_reducible exact SameOutside.refl _ _
    | (with_reducible apply SameOutside.after (State.setSlot_same ..); rotate_left; decide)
    | (with_reducible apply SameOutside.after (returnQueue_same ..); rotate_left; decide)
    | (with_reducible apply SameOutside.after (enter_same ..); rotate_left; decide)
    | (with_reducible apply SameOutside.after (leaveSupplied_same ..); rotate_left; decide)
    | dsimp only

theorem verdictAbsent_same (n : Slot) (first : Bool) (s : State) :
    SameOutside [.link, .counters, .slots, .bus, .monitors, .frame, .pic, .snd, .router, .coins, .reports] s (verdictAbsent n first s) := by
  unfold verdictAbsent
  iterate 12 all_goals try first
    | split
    | with_reducible exact SameOutside.refl _ _
    | (with_reducible apply SameOutside.after (State.setSlot_same ..); rotate_left; decide)
    | (with_reducible apply SameOutside.after (post_same ..); rotate_left; decide)
    | (with_reducible apply SameOutside.after (removeBoard_same ..); rotate_left; decide)
    | dsimp only

theorem takeStatus_same (n : Slot) (v : Word16) (s : State) :
    SameOutside [.slots] s (takeStatus n v s) := by
  unfold takeStatus
  iterate 12 all_goals try first
    | split
    | with_reducible exact SameOutside.refl _ _
    | (with_reducible apply SameOutside.after (State.setSlot_same ..); rotate_left; decide)
    | dsimp only

theorem powerOff_same (n : Slot) (s : State) :
    SameOutside [.link, .counters, .slots, .bus, .monitors, .frame, .pic, .snd, .router, .coins, .reports] s (powerOff n s) := by
  unfold powerOff
  iterate 12 all_goals try first
    | split
    | with_reducible exact SameOutside.refl _ _
    | (with_reducible apply SameOutside.after (State.setSlot_same ..); rotate_left; decide)
    | (with_reducible apply SameOutside.after (enter_same ..); rotate_left; decide)
    | (with_reducible apply SameOutside.after (leaveSupplied_same ..); rotate_left; decide)
    | dsimp only

theorem restartBoard_same (n : Slot) (s : State) :
    SameOutside [.link, .counters, .slots, .bus, .router, .coins, .reports] s (restartBoard n s) := by
  unfold restartBoard
  iterate 12 all_goals try first
    | split
    | with_reducible exact SameOutside.refl _ _
    | (with_reducible apply SameOutside.after (State.setSlot_same ..); rotate_left; decide)
    | (with_reducible apply SameOutside.after (withdrawApply_same ..); rotate_left; decide)
    | (with_reducible apply SameOutside.after (enter_same ..); rotate_left; decide)
    | (with_reducible apply SameOutside.after (proceedHeld_same ..); rotate_left; decide)
    | dsimp only

theorem parkHeld_same (n : Slot) (s : State) :
    SameOutside [.link, .counters, .slots, .router, .coins, .reports] s (parkHeld n s) := by
  unfold parkHeld
  iterate 12 all_goals try first
    | split
    | with_reducible exact SameOutside.refl _ _
    | (with_reducible apply SameOutside.after (State.setSlot_same ..); rotate_left; decide)
    | (with_reducible apply SameOutside.after (enter_same ..); rotate_left; decide)
    | dsimp only

theorem parkNotRunning_same (n : Slot) (s : State) :
    SameOutside [.link, .counters, .slots, .bus, .router, .coins, .reports] s (parkNotRunning n s) := by
  unfold parkNotRunning
  iterate 12 all_goals try first
    | split
    | with_reducible exact SameOutside.refl _ _
    | (with_reducible apply SameOutside.after (State.setSlot_same ..); rotate_left; decide)
    | (with_reducible apply SameOutside.after (withdrawApply_same ..); rotate_left; decide)
    | (with_reducible apply SameOutside.after (parkHeld_same ..); rotate_left; decide)
    | dsimp only

theorem parkFreeze_same (n : Slot) (s : State) :
    SameOutside [.link, .counters, .slots, .bus, .router, .coins, .reports] s (parkFreeze n s) := by
  unfold parkFreeze
  iterate 12 all_goals try first
    | split
    | with_reducible exact SameOutside.refl _ _
    | (with_reducible apply SameOutside.after (State.setSlot_same ..); rotate_left; decide)
    | (with_reducible apply SameOutside.after (enter_same ..); rotate_left; decide)
    | (with_reducible apply SameOutside.after (parkNotRunning_same ..); rotate_left; decide)
    | dsimp only

theorem parkHold_same (n : Slot) (s : State) :
    SameOutside [.link, .counters, .slots, .bus, .router, .coins, .reports] s (parkHold n s) := by
  unfold parkHold
  iterate 12 all_goals try first
    | split
    | with_reducible exact SameOutside.refl _ _
    | (with_reducible apply SameOutside.after (State.setSlot_same ..); rotate_left; decide)
    | (with_reducible apply SameOutside.after (parkHeld_same ..); rotate_left; decide)
    | (with_reducible apply SameOutside.after (parkNotRunning_same ..); rotate_left; decide)
    | dsimp only

theorem parkRun_same (n : Slot) (s : State) :
    SameOutside [.link, .counters, .slots, .router, .coins, .reports] s (parkRun n s) := by
  unfold parkRun
  iterate 12 all_goals try first
    | split
    | with_reducible exact SameOutside.refl _ _
    | (with_reducible apply SameOutside.after (State.setSlot_same ..); rotate_left; decide)
    | (with_reducible apply SameOutside.after (enter_same ..); rotate_left; decide)
    | dsimp only

theorem park_same (n : Slot) (s : State) :
    SameOutside [.link, .counters, .slots, .bus, .monitors, .frame, .pic, .snd, .router, .coins, .reports] s (park n s) := by
  unfold park
  iterate 12 all_goals try first
    | split
    | with_reducible exact SameOutside.refl _ _
    | (with_reducible apply SameOutside.after (leaveSupplied_same ..); rotate_left; decide)
    | (with_reducible apply SameOutside.after (parkFreeze_same ..); rotate_left; decide)
    | (with_reducible apply SameOutside.after (parkHold_same ..); rotate_left; decide)
    | (with_reducible apply SameOutside.after (parkRun_same ..); rotate_left; decide)
    | dsimp only

theorem wake_same (n : Slot) (s : State) :
    SameOutside [.link, .counters, .slots, .bus, .monitors, .router, .coins, .reports] s (wake n s).1 := by
  unfold wake
  iterate 12 all_goals try first
    | split
    | with_reducible exact SameOutside.refl _ _
    | (with_reducible apply SameOutside.after (State.setSlot_same ..); rotate_left; decide)
    | (with_reducible apply SameOutside.after (enter_same ..); rotate_left; decide)
    | (with_reducible apply SameOutside.after (proceedHeld_same ..); rotate_left; decide)
    | (with_reducible apply SameOutside.after (enterPowering_same ..); rotate_left; decide)
    | dsimp only

theorem wake_same_of {n : Slot} {s t : State} {w : WakeReport} (h : wake n s = (t, w)) :
    SameOutside [.link, .counters, .slots, .bus, .monitors, .router, .coins, .reports] s t := by
  have := wake_same n s
  rwa [h] at this

theorem pauseFreeze_same (n : Slot) (s : State) :
    SameOutside [.link, .counters, .slots, .router, .coins, .reports] s (pauseFreeze n s) := by
  unfold pauseFreeze
  iterate 12 all_goals try first
    | split
    | with_reducible exact SameOutside.refl _ _
    | (with_reducible apply SameOutside.after (State.setSlot_same ..); rotate_left; decide)
    | (with_reducible apply SameOutside.after (enter_same ..); rotate_left; decide)
    | dsimp only

theorem pauseRelease_same (n : Slot) (s : State) :
    SameOutside [.link, .counters, .slots, .router, .coins, .reports] s (pauseRelease n s) := by
  unfold pauseRelease
  iterate 12 all_goals try first
    | split
    | with_reducible exact SameOutside.refl _ _
    | (with_reducible apply SameOutside.after (State.setSlot_same ..); rotate_left; decide)
    | (with_reducible apply SameOutside.after (enter_same ..); rotate_left; decide)
    | dsimp only

theorem restartSupplied_same (n : Slot) (s : State) :
    SameOutside [.link, .counters, .slots, .bus, .monitors, .frame, .pic, .snd, .router, .coins, .reports] s (restartSupplied n s) := by
  unfold restartSupplied
  iterate 12 all_goals try first
    | split
    | with_reducible exact SameOutside.refl _ _
    | (with_reducible apply SameOutside.after (State.setSlot_same ..); rotate_left; decide)
    | (with_reducible apply SameOutside.after (enter_same ..); rotate_left; decide)
    | (with_reducible apply SameOutside.after (leaveSupplied_same ..); rotate_left; decide)
    | (with_reducible apply SameOutside.after (rereadLevels_same ..); rotate_left; decide)
    | dsimp only

theorem restartSlot_same (n : Slot) (s : State) :
    SameOutside [.link, .counters, .slots, .bus, .monitors, .frame, .pic, .snd, .router, .coins, .reports] s (restartSlot n s) := by
  unfold restartSlot
  iterate 12 all_goals try first
    | split
    | with_reducible exact SameOutside.refl _ _
    | (with_reducible apply SameOutside.after (State.setSlot_same ..); rotate_left; decide)
    | (with_reducible apply SameOutside.after (restartSupplied_same ..); rotate_left; decide)
    | dsimp only

theorem setRecord_same (r : Option Record) (s : State) :
    SameOutside [.co] s (setRecord r s) := by
  unfold setRecord
  iterate 12 all_goals try first
    | split
    | with_reducible exact SameOutside.refl _ _
    | dsimp only
    | with_reducible refine SameOutside.with_co ?_ (by decide)

theorem setPending_same (p : Option Pending) (s : State) :
    SameOutside [.co] s (setPending p s) := by
  unfold setPending
  iterate 12 all_goals try first
    | split
    | with_reducible exact SameOutside.refl _ _
    | dsimp only
    | with_reducible refine SameOutside.with_co ?_ (by decide)

theorem setWatch_same (w : Watch) (s : State) :
    SameOutside [.co] s (setWatch w s) := by
  unfold setWatch
  iterate 12 all_goals try first
    | split
    | with_reducible exact SameOutside.refl _ _
    | dsimp only
    | with_reducible refine SameOutside.with_co ?_ (by decide)

theorem quiescePicture_same (r : Record) (s : State) :
    SameOutside [.frame, .pic] s (quiescePicture r s) := by
  unfold quiescePicture
  iterate 12 all_goals try first
    | split
    | with_reducible exact SameOutside.refl _ _
    | (with_reducible apply SameOutside.after (fadePicture_same ..); rotate_left; decide)
    | (with_reducible apply SameOutside.after (setPictureLevel_same ..); rotate_left; decide)
    | (with_reducible apply SameOutside.after (setHold_same ..); rotate_left; decide)
    | dsimp only

theorem quiesceSound_same (r : Record) (s : State) :
    SameOutside [.snd] s (quiesceSound r s) := by
  unfold quiesceSound
  iterate 12 all_goals try first
    | split
    | with_reducible exact SameOutside.refl _ _
    | (with_reducible apply SameOutside.after (fadeSound_same ..); rotate_left; decide)
    | (with_reducible apply SameOutside.after (setGain_same ..); rotate_left; decide)
    | dsimp only

theorem quiesceCoins_same (r : Record) (s : State) :
    SameOutside [.link, .coins] s (quiesceCoins r s) := by
  unfold quiesceCoins
  iterate 12 all_goals try first
    | split
    | with_reducible exact SameOutside.refl _ _
    | (with_reducible apply SameOutside.after (returnQueue_same ..); rotate_left; decide)
    | dsimp only

theorem startChangeover_same (st : Start) (s : State) :
    SameOutside [.link, .co, .frame, .pic, .snd, .router, .coins] s (startChangeover st s) := by
  unfold startChangeover
  iterate 12 all_goals try first
    | split
    | with_reducible exact SameOutside.refl _ _
    | (with_reducible apply SameOutside.after (routerQuiesce_same ..); rotate_left; decide)
    | (with_reducible apply SameOutside.after (setRecord_same ..); rotate_left; decide)
    | (with_reducible apply SameOutside.after (setWatch_same ..); rotate_left; decide)
    | (with_reducible apply SameOutside.after (quiescePicture_same ..); rotate_left; decide)
    | (with_reducible apply SameOutside.after (quiesceSound_same ..); rotate_left; decide)
    | (with_reducible apply SameOutside.after (quiesceCoins_same ..); rotate_left; decide)
    | dsimp only

theorem closeRecord_same (r : Record) (o : CoOutcome) (s : State) :
    SameOutside [.link, .co, .reports] s (closeRecord r o s) := by
  unfold closeRecord
  iterate 12 all_goals try first
    | split
    | with_reducible exact SameOutside.refl _ _
    | (with_reducible apply SameOutside.after (State.report_same ..); rotate_left; decide)
    | (with_reducible apply SameOutside.after (post_same ..); rotate_left; decide)
    | (with_reducible apply SameOutside.after (setRecord_same ..); rotate_left; decide)
    | dsimp only

theorem startPending_same (p : Pending) (s : State) :
    SameOutside [.link, .co, .frame, .pic, .snd, .router, .coins] s (startPending p s) := by
  unfold startPending
  iterate 12 all_goals try first
    | split
    | with_reducible exact SameOutside.refl _ _
    | (with_reducible apply SameOutside.after (setPending_same ..); rotate_left; decide)
    | (with_reducible apply SameOutside.after (startChangeover_same ..); rotate_left; decide)
    | dsimp only

theorem parkTarget_same (r : Record) (evenSource : Bool) (s : State) :
    SameOutside [.link, .counters, .slots, .bus, .monitors, .frame, .pic, .snd, .router, .coins, .reports] s (parkTarget r evenSource s) := by
  unfold parkTarget
  iterate 12 all_goals try first
    | split
    | with_reducible exact SameOutside.refl _ _
    | (with_reducible apply SameOutside.after (park_same ..); rotate_left; decide)
    | dsimp only

theorem supersede_same (r : Record) (p : Pending) (s : State) :
    SameOutside [.link, .counters, .slots, .bus, .monitors, .co, .frame, .pic, .snd, .router, .coins, .reports] s (supersede r p s) := by
  unfold supersede
  iterate 12 all_goals try first
    | split
    | with_reducible exact SameOutside.refl _ _
    | (with_reducible apply SameOutside.after (disableWriter_same ..); rotate_left; decide)
    | (with_reducible apply SameOutside.after (closeRecord_same ..); rotate_left; decide)
    | (with_reducible apply SameOutside.after (startPending_same ..); rotate_left; decide)
    | (with_reducible apply SameOutside.after (parkTarget_same ..); rotate_left; decide)
    | dsimp only

theorem startNext_same (r : Record) (s : State) :
    SameOutside [.link, .co, .frame, .pic, .snd, .router, .coins] s (startNext r s) := by
  unfold startNext
  iterate 12 all_goals try first
    | split
    | with_reducible exact SameOutside.refl _ _
    | (with_reducible apply SameOutside.after (startChangeover_same ..); rotate_left; decide)
    | (with_reducible apply SameOutside.after (startPending_same ..); rotate_left; decide)
    | dsimp only

theorem countFailure_same (r : Record) (s : State) :
    SameOutside [.link, .counters] s (countFailure r s) := by
  unfold countFailure
  iterate 12 all_goals try first
    | split
    | with_reducible exact SameOutside.refl _ _
    | (with_reducible apply SameOutside.after (increment_same ..); rotate_left; decide)
    | dsimp only

theorem fail_same (r : Record) (o : CoOutcome) (s : State) :
    SameOutside [.link, .counters, .slots, .bus, .monitors, .co, .frame, .pic, .snd, .router, .coins, .reports] s (fail r o s) := by
  unfold fail
  iterate 12 all_goals try first
    | split
    | with_reducible exact SameOutside.refl _ _
    | (with_reducible apply SameOutside.after (stopPictureFade_same ..); rotate_left; decide)
    | (with_reducible apply SameOutside.after (stopSoundFade_same ..); rotate_left; decide)
    | (with_reducible apply SameOutside.after (disableWriter_same ..); rotate_left; decide)
    | (with_reducible apply SameOutside.after (closeRecord_same ..); rotate_left; decide)
    | (with_reducible apply SameOutside.after (parkTarget_same ..); rotate_left; decide)
    | (with_reducible apply SameOutside.after (startNext_same ..); rotate_left; decide)
    | (with_reducible apply SameOutside.after (countFailure_same ..); rotate_left; decide)
    | dsimp only

theorem abortChangeover_same (r : Record) (tag : Byte) (s : State) :
    SameOutside [.link, .counters, .slots, .bus, .monitors, .co, .frame, .pic, .snd, .router, .coins, .reports] s (abortChangeover r tag s) := by
  unfold abortChangeover
  iterate 12 all_goals try first
    | split
    | with_reducible exact SameOutside.refl _ _
    | (with_reducible apply SameOutside.after (disableWriter_same ..); rotate_left; decide)
    | (with_reducible apply SameOutside.after (setPending_same ..); rotate_left; decide)
    | (with_reducible apply SameOutside.after (startChangeover_same ..); rotate_left; decide)
    | (with_reducible apply SameOutside.after (closeRecord_same ..); rotate_left; decide)
    | (with_reducible apply SameOutside.after (parkTarget_same ..); rotate_left; decide)
    | dsimp only

theorem loseBoard_same (reason : Reason) (s : State) :
    SameOutside [.link, .co, .frame, .pic, .snd, .router, .coins] s (loseBoard reason s) := by
  unfold loseBoard
  iterate 12 all_goals try first
    | split
    | with_reducible exact SameOutside.refl _ _
    | (with_reducible apply SameOutside.after (setWatch_same ..); rotate_left; decide)
    | (with_reducible apply SameOutside.after (startChangeover_same ..); rotate_left; decide)
    | dsimp only

theorem startWatch_same (length : Nat) (s : State) :
    SameOutside [.link, .co, .frame, .pic, .snd, .router, .coins] s (startWatch length s) := by
  unfold startWatch
  iterate 12 all_goals try first
    | split
    | with_reducible exact SameOutside.refl _ _
    | (with_reducible apply SameOutside.after (setWatch_same ..); rotate_left; decide)
    | (with_reducible apply SameOutside.after (loseBoard_same ..); rotate_left; decide)
    | dsimp only

theorem endWatch_same (s : State) :
    SameOutside [.co, .frame] s (endWatch s) := by
  unfold endWatch
  iterate 12 all_goals try first
    | split
    | with_reducible exact SameOutside.refl _ _
    | (with_reducible apply SameOutside.after (setHold_same ..); rotate_left; decide)
    | (with_reducible apply SameOutside.after (recentre_same ..); rotate_left; decide)
    | (with_reducible apply SameOutside.after (setWatch_same ..); rotate_left; decide)
    | dsimp only

theorem watchIfLost_same (n : Slot) (s : State) :
    SameOutside [.link, .co, .frame, .pic, .snd, .router, .coins] s (watchIfLost n s) := by
  unfold watchIfLost
  iterate 12 all_goals try first
    | split
    | with_reducible exact SameOutside.refl _ _
    | (with_reducible apply SameOutside.after (setHold_same ..); rotate_left; decide)
    | (with_reducible apply SameOutside.after (startWatch_same ..); rotate_left; decide)
    | dsimp only

theorem grantSlot_same (t : Option Slot) (s : State) :
    SameOutside [.link, .counters, .slots] s (grantSlot t s) := by
  unfold grantSlot
  iterate 12 all_goals try first
    | split
    | with_reducible exact SameOutside.refl _ _
    | (with_reducible apply SameOutside.after (State.setSlot_same ..); rotate_left; decide)
    | (with_reducible apply SameOutside.after (increment_same ..); rotate_left; decide)
    | dsimp only

theorem grant_same (r : Record) (s : State) :
    SameOutside [.link, .counters, .slots, .co, .frame, .pic, .snd, .router, .coins, .reports] s (grant r s) := by
  unfold grant
  iterate 12 all_goals try first
    | split
    | with_reducible exact SameOutside.refl _ _
    | (with_reducible apply SameOutside.after (judgeWatched_same ..); rotate_left; decide)
    | (with_reducible apply SameOutside.after (routerGrant_same ..); rotate_left; decide)
    | (with_reducible apply SameOutside.after (closeRecord_same ..); rotate_left; decide)
    | (with_reducible apply SameOutside.after (startPending_same ..); rotate_left; decide)
    | (with_reducible apply SameOutside.after (watchIfLost_same ..); rotate_left; decide)
    | (with_reducible apply SameOutside.after (grantSlot_same ..); rotate_left; decide)
    | dsimp only
    | with_reducible refine SameOutside.with_co ?_ (by decide)

theorem enterReveal_same (r : Record) (s : State) :
    SameOutside [.co, .frame, .pic, .snd] s (enterReveal r s) := by
  unfold enterReveal
  iterate 12 all_goals try first
    | split
    | with_reducible exact SameOutside.refl _ _
    | (with_reducible apply SameOutside.after (fadePicture_same ..); rotate_left; decide)
    | (with_reducible apply SameOutside.after (setPictureLevel_same ..); rotate_left; decide)
    | (with_reducible apply SameOutside.after (fadeSound_same ..); rotate_left; decide)
    | (with_reducible apply SameOutside.after (setBlank_same ..); rotate_left; decide)
    | (with_reducible apply SameOutside.after (revealSlot_same ..); rotate_left; decide)
    | (with_reducible apply SameOutside.after (revealStandby_same ..); rotate_left; decide)
    | (with_reducible apply SameOutside.after (setRecord_same ..); rotate_left; decide)
    | dsimp only
    | with_reducible refine SameOutside.with_snd ?_ (by decide)

theorem setOutput_same (r : Record) (d : Decision) (s : State) :
    SameOutside [.link, .counters, .co, .frame, .out, .pic, .snd] s (setOutput r d s) := by
  unfold setOutput
  iterate 12 all_goals try first
    | dsimp only
    | split
    | with_reducible exact SameOutside.refl _ _
    | (with_reducible apply SameOutside.after (setHold_same ..); rotate_left; decide)
    | (with_reducible apply SameOutside.after (setBlank_same ..); rotate_left; decide)
    | (with_reducible apply SameOutside.after (retime_same ..); rotate_left; decide)
    | (with_reducible apply SameOutside.after (follow_same ..); rotate_left; decide)
    | (with_reducible apply SameOutside.after (setRecord_same ..); rotate_left; decide)
    | dsimp only

theorem enterRetime_same (r : Record) (s : State) :
    SameOutside [.link, .counters, .slots, .bus, .monitors, .co, .frame, .out, .pic, .snd, .router, .coins, .reports] s (enterRetime r s) := by
  unfold enterRetime
  iterate 12 all_goals try first
    | split
    | with_reducible exact SameOutside.refl _ _
    | (with_reducible apply SameOutside.after (enableWriter_same ..); rotate_left; decide)
    | (with_reducible apply SameOutside.after (latchWindow_same ..); rotate_left; decide)
    | (with_reducible apply SameOutside.after (retime_same ..); rotate_left; decide)
    | (with_reducible apply SameOutside.after (placeSlot_same ..); rotate_left; decide)
    | (with_reducible apply SameOutside.after (fail_same ..); rotate_left; decide)
    | (with_reducible apply SameOutside.after (setOutput_same ..); rotate_left; decide)
    | dsimp only

theorem endLock_same (r : Record) (s : State) :
    SameOutside [.link, .counters, .slots, .bus, .monitors, .co, .frame, .out, .pic, .snd, .router, .coins, .reports] s (endLock r s) := by
  unfold endLock
  iterate 12 all_goals try first
    | split
    | with_reducible exact SameOutside.refl _ _
    | (with_reducible apply SameOutside.after (supersede_same ..); rotate_left; decide)
    | (with_reducible apply SameOutside.after (enterRetime_same ..); rotate_left; decide)
    | dsimp only

theorem judgeLock_same (r : Record) (n : Slot) (s : State) :
    SameOutside [.link, .counters, .slots, .bus, .monitors, .co, .frame, .out, .pic, .snd, .router, .coins, .reports] s (judgeLock r n s) := by
  unfold judgeLock
  iterate 12 all_goals try first
    | split
    | with_reducible exact SameOutside.refl _ _
    | (with_reducible apply SameOutside.after (enableWriter_same ..); rotate_left; decide)
    | (with_reducible apply SameOutside.after (latchWindow_same ..); rotate_left; decide)
    | (with_reducible apply SameOutside.after (setRecord_same ..); rotate_left; decide)
    | (with_reducible apply SameOutside.after (fail_same ..); rotate_left; decide)
    | (with_reducible apply SameOutside.after (endLock_same ..); rotate_left; decide)
    | dsimp only

theorem enterLock_same (r : Record) (n : Slot) (s : State) :
    SameOutside [.link, .counters, .slots, .bus, .monitors, .co, .frame, .out, .pic, .snd, .router, .coins, .reports] s (enterLock r n s) := by
  unfold enterLock
  iterate 12 all_goals try first
    | split
    | with_reducible exact SameOutside.refl _ _
    | (with_reducible apply SameOutside.after (setRecord_same ..); rotate_left; decide)
    | (with_reducible apply SameOutside.after (judgeLock_same ..); rotate_left; decide)
    | dsimp only

theorem endWake_same (r : Record) (n : Slot) (s : State) :
    SameOutside [.link, .counters, .slots, .bus, .monitors, .co, .frame, .out, .pic, .snd, .router, .coins, .reports] s (endWake r n s) := by
  unfold endWake
  iterate 12 all_goals try first
    | split
    | with_reducible exact SameOutside.refl _ _
    | (with_reducible apply SameOutside.after (supersede_same ..); rotate_left; decide)
    | (with_reducible apply SameOutside.after (enterLock_same ..); rotate_left; decide)
    | dsimp only

theorem enterWake_same (r : Record) (n : Slot) (s : State) :
    SameOutside [.link, .counters, .slots, .bus, .monitors, .co, .frame, .out, .pic, .snd, .router, .coins, .reports] s (enterWake r n s) := by
  unfold enterWake
  iterate 12 all_goals try first
    | split
    | with_reducible exact SameOutside.refl _ _
    | (with_reducible apply SameOutside.after (wake_same ..); rotate_left; decide)
    | (with_reducible apply SameOutside.after (setRecord_same ..); rotate_left; decide)
    | (with_reducible apply SameOutside.after (fail_same ..); rotate_left; decide)
    | (with_reducible apply SameOutside.after (endWake_same ..); rotate_left; decide)
    | dsimp only
  all_goals exact ((setRecord_same _ _).mono (by decide)).and (wake_same_of ‹_›) (by decide)

theorem enterPark_same (r : Record) (s : State) :
    SameOutside [.link, .counters, .slots, .bus, .monitors, .co, .frame, .out, .pic, .snd, .router, .coins, .reports] s (enterPark r s) := by
  unfold enterPark
  iterate 12 all_goals try first
    | split
    | with_reducible exact SameOutside.refl _ _
    | (with_reducible apply SameOutside.after (cutPulse_same ..); rotate_left; decide)
    | (with_reducible apply SameOutside.after (disableWriter_same ..); rotate_left; decide)
    | (with_reducible apply SameOutside.after (park_same ..); rotate_left; decide)
    | (with_reducible apply SameOutside.after (setRecord_same ..); rotate_left; decide)
    | (with_reducible apply SameOutside.after (enterRetime_same ..); rotate_left; decide)
    | (with_reducible apply SameOutside.after (enterWake_same ..); rotate_left; decide)
    | dsimp only

theorem endQuiesceCoins_same (r : Record) (s : State) :
    SameOutside [.link, .coins] s (endQuiesceCoins r s) := by
  unfold endQuiesceCoins
  iterate 12 all_goals try first
    | split
    | with_reducible exact SameOutside.refl _ _
    | (with_reducible apply SameOutside.after (cutPulse_same ..); rotate_left; decide)
    | dsimp only

theorem endQuiesce_same (r : Record) (s : State) :
    SameOutside [.link, .counters, .slots, .bus, .monitors, .co, .frame, .out, .pic, .snd, .router, .coins, .reports] s (endQuiesce r s) := by
  unfold endQuiesce
  iterate 12 all_goals try first
    | split
    | with_reducible exact SameOutside.refl _ _
    | (with_reducible apply SameOutside.after (disableWriter_same ..); rotate_left; decide)
    | (with_reducible apply SameOutside.after (supersede_same ..); rotate_left; decide)
    | (with_reducible apply SameOutside.after (endQuiesceCoins_same ..); rotate_left; decide)
    | (with_reducible apply SameOutside.after (enterPark_same ..); rotate_left; decide)
    | dsimp only

theorem advancePhase_same (s : State) :
    SameOutside [.link, .counters, .slots, .bus, .monitors, .co, .frame, .out, .pic, .snd, .router, .coins, .reports] s (advancePhase s) := by
  unfold advancePhase
  iterate 12 all_goals try first
    | split
    | with_reducible exact SameOutside.refl _ _
    | (with_reducible apply SameOutside.after (retime_same ..); rotate_left; decide)
    | (with_reducible apply SameOutside.after (park_same ..); rotate_left; decide)
    | (with_reducible apply SameOutside.after (wake_same ..); rotate_left; decide)
    | (with_reducible apply SameOutside.after (grant_same ..); rotate_left; decide)
    | (with_reducible apply SameOutside.after (enterReveal_same ..); rotate_left; decide)
    | (with_reducible apply SameOutside.after (endQuiesce_same ..); rotate_left; decide)
    | dsimp only

theorem advancePhases_same (n : Nat) (s : State) :
    SameOutside [.link, .counters, .slots, .bus, .monitors, .co, .frame, .out, .pic, .snd, .router, .coins, .reports] s (advancePhases n s) := by
  induction n generalizing s with
  | zero => exact .refl _ _
  | succ n ih => exact (advancePhase_same s).trans (ih _)

theorem progress_same (s : State) :
    SameOutside [.link, .counters, .slots, .bus, .monitors, .co, .frame, .out, .pic, .snd, .router, .coins, .reports] s (progress s) :=
  advancePhases_same 16 s

theorem onWake_same (r : Record) (n : Slot) (rep : Report) (s : State) :
    SameOutside [.link, .counters, .slots, .bus, .monitors, .co, .frame, .out, .pic, .snd, .router, .coins, .reports] s (onWake r n rep s) := by
  unfold onWake
  iterate 12 all_goals try first
    | split
    | with_reducible exact SameOutside.refl _ _
    | (with_reducible apply SameOutside.after (fail_same ..); rotate_left; decide)
    | (with_reducible apply SameOutside.after (endWake_same ..); rotate_left; decide)
    | dsimp only

theorem onTargetState_same (r : Record) (n m : Slot) (new : SlotState) (s : State) :
    SameOutside [.link, .counters, .slots, .bus, .monitors, .co, .frame, .pic, .snd, .router, .coins, .reports] s (onTargetState r n m new s) := by
  unfold onTargetState
  iterate 12 all_goals try first
    | split
    | with_reducible exact SameOutside.refl _ _
    | (with_reducible apply SameOutside.after (fail_same ..); rotate_left; decide)
    | dsimp only

theorem onCheckField_same (r : Record) (n : Slot) (sig : Word16) (s : State) :
    SameOutside [.link, .counters, .slots, .bus, .monitors, .co, .frame, .out, .pic, .snd, .router, .coins, .reports] s (onCheckField r n sig s) := by
  unfold onCheckField
  iterate 12 all_goals try first
    | split
    | with_reducible exact SameOutside.refl _ _
    | (with_reducible apply SameOutside.after (endLock_same ..); rotate_left; decide)
    | dsimp only

theorem onLockMonitor_same (r : Record) (n : Slot) (st : MonState) (s : State) :
    SameOutside [.link, .counters, .slots, .bus, .monitors, .co, .frame, .out, .pic, .snd, .router, .coins, .reports] s (onLockMonitor r n st s) := by
  unfold onLockMonitor
  iterate 12 all_goals try first
    | split
    | with_reducible exact SameOutside.refl _ _
    | (with_reducible apply SameOutside.after (disableWriter_same ..); rotate_left; decide)
    | (with_reducible apply SameOutside.after (fail_same ..); rotate_left; decide)
    | (with_reducible apply SameOutside.after (judgeLock_same ..); rotate_left; decide)
    | dsimp only

theorem onLock_same (r : Record) (n : Slot) (rep : Report) (s : State) :
    SameOutside [.link, .counters, .slots, .bus, .monitors, .co, .frame, .out, .pic, .snd, .router, .coins, .reports] s (onLock r n rep s) := by
  unfold onLock
  iterate 12 all_goals try first
    | split
    | with_reducible exact SameOutside.refl _ _
    | (with_reducible apply SameOutside.after (onTargetState_same ..); rotate_left; decide)
    | (with_reducible apply SameOutside.after (onCheckField_same ..); rotate_left; decide)
    | (with_reducible apply SameOutside.after (onLockMonitor_same ..); rotate_left; decide)
    | dsimp only

theorem onShownMonitor_same (r : Record) (n : Slot) (st : MonState) (s : State) :
    SameOutside [.link, .counters, .slots, .bus, .monitors, .co, .frame, .pic, .snd, .router, .coins, .reports] s (onShownMonitor r n st s) := by
  unfold onShownMonitor
  iterate 12 all_goals try first
    | split
    | with_reducible exact SameOutside.refl _ _
    | (with_reducible apply SameOutside.after (setHold_same ..); rotate_left; decide)
    | (with_reducible apply SameOutside.after (setRecord_same ..); rotate_left; decide)
    | (with_reducible apply SameOutside.after (fail_same ..); rotate_left; decide)
    | dsimp only

theorem onFirstReady_same (r : Record) (s : State) :
    SameOutside [.co, .frame] s (onFirstReady r s) := by
  unfold onFirstReady
  iterate 12 all_goals try first
    | split
    | with_reducible exact SameOutside.refl _ _
    | (with_reducible apply SameOutside.after (setHold_same ..); rotate_left; decide)
    | (with_reducible apply SameOutside.after (setRecord_same ..); rotate_left; decide)
    | dsimp only

theorem onShown_same (r : Record) (n : Slot) (rep : Report) (s : State) :
    SameOutside [.link, .counters, .slots, .bus, .monitors, .co, .frame, .pic, .snd, .router, .coins, .reports] s (onShown r n rep s) := by
  unfold onShown
  iterate 12 all_goals try first
    | split
    | with_reducible exact SameOutside.refl _ _
    | (with_reducible apply SameOutside.after (onTargetState_same ..); rotate_left; decide)
    | (with_reducible apply SameOutside.after (onShownMonitor_same ..); rotate_left; decide)
    | (with_reducible apply SameOutside.after (onFirstReady_same ..); rotate_left; decide)
    | dsimp only

theorem onRecord_same (r : Record) (rep : Report) (s : State) :
    SameOutside [.link, .counters, .slots, .bus, .monitors, .co, .frame, .out, .pic, .snd, .router, .coins, .reports] s (onRecord r rep s) := by
  unfold onRecord
  iterate 12 all_goals try first
    | split
    | with_reducible exact SameOutside.refl _ _
    | (with_reducible apply SameOutside.after (retime_same ..); rotate_left; decide)
    | (with_reducible apply SameOutside.after (park_same ..); rotate_left; decide)
    | (with_reducible apply SameOutside.after (wake_same ..); rotate_left; decide)
    | (with_reducible apply SameOutside.after (grant_same ..); rotate_left; decide)
    | (with_reducible apply SameOutside.after (onWake_same ..); rotate_left; decide)
    | (with_reducible apply SameOutside.after (onLock_same ..); rotate_left; decide)
    | (with_reducible apply SameOutside.after (onShown_same ..); rotate_left; decide)
    | dsimp only

theorem onLiveAgain_same (n : Slot) (s : State) :
    SameOutside [.link, .co, .frame, .pic, .snd, .router, .coins] s (onLiveAgain n s) := by
  unfold onLiveAgain
  iterate 12 all_goals try first
    | split
    | with_reducible exact SameOutside.refl _ _
    | (with_reducible apply SameOutside.after (enableWriter_same ..); rotate_left; decide)
    | (with_reducible apply SameOutside.after (startWatch_same ..); rotate_left; decide)
    | (with_reducible apply SameOutside.after (endWatch_same ..); rotate_left; decide)
    | dsimp only

theorem onPauseEnd_same (n : Slot) (s : State) :
    SameOutside [.link, .co, .frame, .pic, .snd, .router, .coins] s (onPauseEnd n s) := by
  unfold onPauseEnd
  iterate 12 all_goals try first
    | split
    | with_reducible exact SameOutside.refl _ _
    | (with_reducible apply SameOutside.after (enableWriter_same ..); rotate_left; decide)
    | (with_reducible apply SameOutside.after (startWatch_same ..); rotate_left; decide)
    | (with_reducible apply SameOutside.after (endWatch_same ..); rotate_left; decide)
    | dsimp only

theorem onCurrentState_same (n : Slot) (old new : SlotState) (cause : SlotCause) (s : State) :
    SameOutside [.link, .co, .frame, .pic, .snd, .router, .coins] s (onCurrentState n old new cause s) := by
  unfold onCurrentState
  iterate 12 all_goals try first
    | split
    | with_reducible exact SameOutside.refl _ _
    | (with_reducible apply SameOutside.after (disableWriter_same ..); rotate_left; decide)
    | (with_reducible apply SameOutside.after (setHold_same ..); rotate_left; decide)
    | (with_reducible apply SameOutside.after (setWatch_same ..); rotate_left; decide)
    | (with_reducible apply SameOutside.after (loseBoard_same ..); rotate_left; decide)
    | (with_reducible apply SameOutside.after (onLiveAgain_same ..); rotate_left; decide)
    | (with_reducible apply SameOutside.after (onPauseEnd_same ..); rotate_left; decide)
    | dsimp only

theorem onCurrentMonitor_same (n : Slot) (st : MonState) (s : State) :
    SameOutside [.link, .co, .frame, .pic, .snd, .router, .coins] s (onCurrentMonitor n st s) := by
  unfold onCurrentMonitor
  iterate 12 all_goals try first
    | split
    | with_reducible exact SameOutside.refl _ _
    | (with_reducible apply SameOutside.after (setHold_same ..); rotate_left; decide)
    | (with_reducible apply SameOutside.after (loseBoard_same ..); rotate_left; decide)
    | (with_reducible apply SameOutside.after (startWatch_same ..); rotate_left; decide)
    | (with_reducible apply SameOutside.after (endWatch_same ..); rotate_left; decide)
    | dsimp only

theorem onCurrent_same (n : Slot) (rep : Report) (s : State) :
    SameOutside [.link, .co, .frame, .pic, .snd, .router, .coins] s (onCurrent n rep s) := by
  unfold onCurrent
  iterate 12 all_goals try first
    | split
    | with_reducible exact SameOutside.refl _ _
    | (with_reducible apply SameOutside.after (loseBoard_same ..); rotate_left; decide)
    | (with_reducible apply SameOutside.after (onCurrentState_same ..); rotate_left; decide)
    | (with_reducible apply SameOutside.after (onCurrentMonitor_same ..); rotate_left; decide)
    | dsimp only

theorem onReport_same (s : State) (rep : Report) :
    SameOutside [.link, .counters, .slots, .bus, .monitors, .co, .frame, .out, .pic, .snd, .router, .coins, .reports] s (onReport s rep) := by
  unfold onReport
  iterate 12 all_goals try first
    | split
    | with_reducible exact SameOutside.refl _ _
    | (with_reducible apply SameOutside.after (onRecord_same ..); rotate_left; decide)
    | (with_reducible apply SameOutside.after (onCurrent_same ..); rotate_left; decide)
    | dsimp only
    | with_reducible refine SameOutside.with_reports ?_ (by decide)

theorem conduct_same (s : State) :
    SameOutside [.link, .counters, .slots, .bus, .monitors, .co, .frame, .out, .pic, .snd, .router, .coins, .reports] s (conduct s) := by
  unfold conduct
  iterate 12 all_goals try first
    | split
    | with_reducible exact SameOutside.refl _ _
    | (with_reducible apply SameOutside.after (progress_same ..); rotate_left; decide)
    | dsimp only
    | with_reducible refine SameOutside.with_reports ?_ (by decide)

theorem reports_same (l : List Report) (s : State) :
    SameOutside [.link, .counters, .slots, .bus, .monitors, .co, .frame, .out, .pic, .snd, .router, .coins, .reports] s (l.foldl onReport s) := by
  induction l generalizing s with
  | nil => exact .refl _ _
  | cons r l ih => exact ((onReport_same s r).mono (by decide)).trans (ih _)

theorem settle_same (s : State) :
    SameOutside [.link, .counters, .slots, .bus, .monitors, .co, .frame, .out, .pic, .snd, .router, .coins, .reports] s (settle s) :=
  (((SameOutside.refl _ s).with_reports (by decide)).trans (reports_same ..)).trans ((conduct_same _).mono (by decide))

theorem lockLimitExpires_same (s : State) :
    SameOutside [.now, .link, .counters, .slots, .bus, .monitors, .co, .frame, .out, .pic, .snd, .router, .coins, .reports] s (lockLimitExpires s) := by
  unfold lockLimitExpires
  iterate 12 all_goals try first
    | split
    | with_reducible exact SameOutside.refl _ _
    | (with_reducible apply SameOutside.after (State.reach_same ..); rotate_left; decide)
    | (with_reducible apply SameOutside.after (fail_same ..); rotate_left; decide)
    | (with_reducible apply SameOutside.after (conduct_same ..); rotate_left; decide)
    | dsimp only

theorem watchExpires_same (s : State) :
    SameOutside [.now, .link, .counters, .slots, .bus, .monitors, .co, .frame, .out, .pic, .snd, .router, .coins, .reports] s (watchExpires s) := by
  unfold watchExpires
  iterate 12 all_goals try first
    | split
    | with_reducible exact SameOutside.refl _ _
    | (with_reducible apply SameOutside.after (State.reach_same ..); rotate_left; decide)
    | (with_reducible apply SameOutside.after (loseBoard_same ..); rotate_left; decide)
    | (with_reducible apply SameOutside.after (conduct_same ..); rotate_left; decide)
    | dsimp only

theorem selectPending_same (t : Option Slot) (tag : Byte) (r : Record) (s : State) :
    SameOutside [.co] s (selectPending t tag r s) := by
  unfold selectPending
  iterate 12 all_goals try first
    | split
    | with_reducible exact SameOutside.refl _ _
    | (with_reducible apply SameOutside.after (setRecord_same ..); rotate_left; decide)
    | (with_reducible apply SameOutside.after (setPending_same ..); rotate_left; decide)
    | dsimp only

theorem dropPending_same (r : Record) (s : State) :
    SameOutside [.co] s (dropPending r s) := by
  unfold dropPending
  iterate 12 all_goals try first
    | split
    | with_reducible exact SameOutside.refl _ _
    | (with_reducible apply SameOutside.after (setRecord_same ..); rotate_left; decide)
    | (with_reducible apply SameOutside.after (setPending_same ..); rotate_left; decide)
    | dsimp only

theorem restartController_same (s : State) :
    SameOutside [.co] s (restartController s) := by
  unfold restartController
  iterate 12 all_goals try first
    | split
    | with_reducible exact SameOutside.refl _ _
    | dsimp only
    | with_reducible refine SameOutside.with_co ?_ (by decide)

theorem setView_same (n : Slot) (v : View) (s : State) :
    SameOutside [.bus] s (setView n v s) := by
  unfold setView
  iterate 12 all_goals try first
    | split
    | with_reducible exact SameOutside.refl _ _
    | dsimp only
    | with_reducible refine SameOutside.with_bus ?_ (by decide)

theorem setMisses_same (n : Slot) (k : Nat) (s : State) :
    SameOutside [.bus] s (setMisses n k s) := by
  unfold setMisses
  iterate 12 all_goals try first
    | split
    | with_reducible exact SameOutside.refl _ _
    | dsimp only
    | with_reducible refine SameOutside.with_bus ?_ (by decide)

theorem pollMissed_same (n : Slot) (s : State) :
    SameOutside [.link, .counters, .slots, .bus, .monitors, .frame, .pic, .snd, .router, .coins, .reports] s (pollMissed n s) := by
  unfold pollMissed
  iterate 12 all_goals try first
    | split
    | with_reducible exact SameOutside.refl _ _
    | (with_reducible apply SameOutside.after (verdictAbsent_same ..); rotate_left; decide)
    | (with_reducible apply SameOutside.after (setView_same ..); rotate_left; decide)
    | (with_reducible apply SameOutside.after (setMisses_same ..); rotate_left; decide)
    | dsimp only

theorem pollKind_same (n : Slot) (v : Word16) (s : State) :
    SameOutside [.bus] s (pollKind n v s) := by
  unfold pollKind
  iterate 12 all_goals try first
    | split
    | with_reducible exact SameOutside.refl _ _
    | (with_reducible apply SameOutside.after (beginTransaction_same ..); rotate_left; decide)
    | (with_reducible apply SameOutside.after (setMisses_same ..); rotate_left; decide)
    | dsimp only

theorem giveVerdict_same (n : Slot) (kind revision : Nat) (s : State) :
    SameOutside [.link, .counters, .slots, .bus, .monitors, .co, .frame, .out, .pic, .snd, .router, .coins, .reports] s (giveVerdict n kind revision s) := by
  unfold giveVerdict
  iterate 12 all_goals try first
    | split
    | with_reducible exact SameOutside.refl _ _
    | (with_reducible apply SameOutside.after (State.setSlot_same ..); rotate_left; decide)
    | (with_reducible apply SameOutside.after (autoPowerVerdict_same ..); rotate_left; decide)
    | (with_reducible apply SameOutside.after (boardFound_same ..); rotate_left; decide)
    | (with_reducible apply SameOutside.after (verdictPresent_same ..); rotate_left; decide)
    | (with_reducible apply SameOutside.after (removeBoard_same ..); rotate_left; decide)
    | (with_reducible apply SameOutside.after (settle_same ..); rotate_left; decide)
    | (with_reducible apply SameOutside.after (setView_same ..); rotate_left; decide)
    | dsimp only

theorem pollEnds_same (t : Transaction) (res : TxResult) (s : State) :
    SameOutside [.link, .counters, .slots, .bus, .monitors, .co, .frame, .out, .pic, .snd, .router, .coins, .reports] s (pollEnds t res s) := by
  unfold pollEnds
  cases t.owner <;> rcases res with (_ | v) | _ | _ <;> first
    | exact .refl _ _
    | exact (pollKind_same ..).mono (by decide)
    | exact (pollMissed_same ..).mono (by decide)
    | exact (beginTransaction_same ..).mono (by decide)
    | exact ((giveVerdict_same ..).mono (by decide)).and (takeStatus_same ..) (by decide)

theorem endApply_same (r : ApplyRun) (matched : Bool) (s : State) :
    SameOutside [.link, .counters, .slots, .bus, .router, .coins, .reports] s (endApply r matched s) := by
  unfold endApply
  iterate 12 all_goals try first
    | split
    | with_reducible exact SameOutside.refl _ _
    | (with_reducible apply SameOutside.after (applyMatched_same ..); rotate_left; decide)
    | (with_reducible apply SameOutside.after (applyFailed_same ..); rotate_left; decide)
    | dsimp only
    | with_reducible refine SameOutside.with_bus ?_ (by decide)

theorem sequenceEnds_same (t : Transaction) (res : TxResult) (s : State) :
    SameOutside [.link, .counters, .slots, .bus, .router, .coins, .reports] s (sequenceEnds t res s) := by
  unfold sequenceEnds
  iterate 12 all_goals try first
    | split
    | with_reducible exact SameOutside.refl _ _
    | (with_reducible apply SameOutside.after (endApply_same ..); rotate_left; decide)
    | (with_reducible apply SameOutside.after (answered_same ..); rotate_left; decide)
    | dsimp only

theorem endLinkRun_same (a : Answer) (s : State) :
    SameOutside [.link, .bus] s (endLinkRun a s) := by
  unfold endLinkRun
  iterate 12 all_goals try first
    | split
    | with_reducible exact SameOutside.refl _ _
    | (with_reducible apply SameOutside.after (giveReply_same ..); rotate_left; decide)
    | dsimp only
    | with_reducible refine SameOutside.with_bus ?_ (by decide)

theorem linkEnds_same (res : TxResult) (s : State) :
    SameOutside [.link, .bus] s (linkEnds res s) := by
  unfold linkEnds
  iterate 12 all_goals try first
    | split
    | with_reducible exact SameOutside.refl _ _
    | (with_reducible apply SameOutside.after (endLinkRun_same ..); rotate_left; decide)
    | (with_reducible apply SameOutside.after (answered_same ..); rotate_left; decide)
    | dsimp only
    | with_reducible refine SameOutside.with_bus ?_ (by decide)

theorem statusRead_same (t : Transaction) (res : TxResult) (s : State) :
    SameOutside [.slots] s (statusRead t res s) := by
  unfold statusRead
  iterate 12 all_goals try first
    | split
    | with_reducible exact SameOutside.refl _ _
    | (with_reducible apply SameOutside.after (takeStatus_same ..); rotate_left; decide)
    | (with_reducible apply SameOutside.after (answered_same ..); rotate_left; decide)
    | dsimp only

theorem deliverResult_same (t : Transaction) (res : TxResult) (s : State) :
    SameOutside [.link, .counters, .slots, .bus, .monitors, .co, .frame, .out, .pic, .snd, .router, .coins, .reports] s (deliverResult t res s) := by
  unfold deliverResult
  iterate 12 all_goals try first
    | split
    | with_reducible exact SameOutside.refl _ _
    | (with_reducible apply SameOutside.after (pollEnds_same ..); rotate_left; decide)
    | (with_reducible apply SameOutside.after (sequenceEnds_same ..); rotate_left; decide)
    | (with_reducible apply SameOutside.after (linkEnds_same ..); rotate_left; decide)
    | (with_reducible apply SameOutside.after (statusRead_same ..); rotate_left; decide)
    | dsimp only

theorem endTransaction_same (t : Transaction) (moment : Nat) (a : Adapter) (res : TxResult) (s : State) :
    SameOutside [.now, .link, .counters, .slots, .adapters, .bus, .monitors, .co, .frame, .out, .pic, .snd, .router, .coins, .reports] s (endTransaction t moment a res s) := by
  unfold endTransaction
  iterate 12 all_goals try first
    | split
    | with_reducible exact SameOutside.refl _ _
    | (with_reducible apply SameOutside.after (State.reach_same ..); rotate_left; decide)
    | (with_reducible apply SameOutside.after (State.setAdapter_same ..); rotate_left; decide)
    | (with_reducible apply SameOutside.after (arbitrate_same ..); rotate_left; decide)
    | (with_reducible apply SameOutside.after (settle_same ..); rotate_left; decide)
    | (with_reducible apply SameOutside.after (deliverResult_same ..); rotate_left; decide)
    | dsimp only
    | with_reducible refine SameOutside.with_bus ?_ (by decide)

theorem answerArrives_same (x : BusAnswer) (s : State) :
    SameOutside [.now, .link, .counters, .slots, .adapters, .bus, .monitors, .co, .frame, .out, .pic, .snd, .router, .coins, .reports] s (answerArrives x s) := by
  unfold answerArrives
  iterate 12 all_goals try first
    | split
    | with_reducible exact SameOutside.refl _ _
    | (with_reducible apply SameOutside.after (endTransaction_same ..); rotate_left; decide)
    | (with_reducible apply SameOutside.after (answered_same ..); rotate_left; decide)
    | dsimp only

theorem answerExpires_same (received : Bool) (s : State) :
    SameOutside [.now, .link, .counters, .slots, .adapters, .bus, .monitors, .co, .frame, .out, .pic, .snd, .router, .coins, .reports] s (answerExpires received s) := by
  unfold answerExpires
  iterate 12 all_goals try first
    | split
    | with_reducible exact SameOutside.refl _ _
    | (with_reducible apply SameOutside.after (endTransaction_same ..); rotate_left; decide)
    | dsimp only

theorem saveEnds_same (failed : List SectionId) (s : State) :
    SameOutside [.link, .profiles, .free] s (saveEnds failed s) := by
  unfold saveEnds
  iterate 12 all_goals try first
    | split
    | with_reducible exact SameOutside.refl _ _
    | (with_reducible apply SameOutside.after (post_same ..); rotate_left; decide)
    | dsimp only
    | (refine ⟨fun b hb => ?_⟩; cases b <;> first | exact absurd (by decide) hb | (simp only [Block.same]; done))
    | with_reducible refine SameOutside.with_profiles ?_ (by decide)
    | with_reducible refine SameOutside.with_free ?_ (by decide)

theorem abandonSave_same (s : State) :
    SameOutside [.profiles, .free] s (abandonSave s) := by
  unfold abandonSave
  iterate 12 all_goals try first
    | split
    | with_reducible exact SameOutside.refl _ _
    | (with_reducible apply SameOutside.after (State.nextFree_same ..); rotate_left; decide)
    | dsimp only
    | with_reducible refine SameOutside.with_profiles ?_ (by decide)

theorem loadSections_same (answers : Bool) (failed : List SectionId) (s : State) :
    SameOutside [.link, .profiles] s (loadSections answers failed s) := by
  unfold loadSections
  iterate 12 all_goals try first
    | dsimp only
    | split
    | with_reducible exact SameOutside.refl _ _
    | (with_reducible apply SameOutside.after (post_same ..); rotate_left; decide)
    | dsimp only
    | with_reducible refine SameOutside.with_profiles ?_ (by decide)

theorem chordAfter_same (before : Cabinet) (s : State) :
    SameOutside [.router] s (chordAfter before s) := by
  unfold chordAfter
  iterate 12 all_goals try first
    | split
    | with_reducible exact SameOutside.refl _ _
    | (with_reducible apply SameOutside.after (chordRenamed_same ..); rotate_left; decide)
    | dsimp only

theorem rereadLevels_same (n : Slot) (s : State) :
    SameOutside [.slots] s (rereadLevels n s) := by
  unfold rereadLevels
  iterate 12 all_goals try first
    | split
    | with_reducible exact SameOutside.refl _ _
    | (with_reducible apply SameOutside.after (State.setSlot_same ..); rotate_left; decide)
    | dsimp only

theorem autoPowerLoaded_same (n : Slot) (s : State) :
    SameOutside [.link, .counters, .slots, .bus, .monitors, .router, .coins, .reports] s (autoPowerLoaded n s) := by
  unfold autoPowerLoaded
  iterate 12 all_goals try first
    | split
    | with_reducible exact SameOutside.refl _ _
    | (with_reducible apply SameOutside.after (autoPower_same ..); rotate_left; decide)
    | dsimp only

theorem firstLoad_same (s : State) :
    SameOutside [.link, .counters, .slots, .bus, .monitors, .frame, .out, .pic, .snd, .router, .coins, .profiles, .reports] s (firstLoad s) := by
  unfold firstLoad
  iterate 12 all_goals try first
    | split
    | with_reducible exact SameOutside.refl _ _
    | with_reducible refine SameOutside.forAll ?_ (fun _ _ => ?_)
    | (with_reducible apply SameOutside.after (judgeAllReasons_same ..); rotate_left; decide)
    | (with_reducible apply SameOutside.after (startupDecision_same ..); rotate_left; decide)
    | (with_reducible apply SameOutside.after (rereadLevels_same ..); rotate_left; decide)
    | (with_reducible apply SameOutside.after (autoPowerLoaded_same ..); rotate_left; decide)
    | dsimp only
    | (refine ⟨fun b hb => ?_⟩; cases b <;> first | exact absurd (by decide) hb | (simp only [Block.same]; done))
    | with_reducible refine SameOutside.with_coins ?_ (by decide)
    | with_reducible refine SameOutside.with_profiles ?_ (by decide)

theorem loadEnds_same (answers : Bool) (failed : List SectionId) (s : State) :
    SameOutside [.link, .counters, .slots, .bus, .monitors, .co, .frame, .out, .pic, .snd, .router, .coins, .profiles, .reports] s (loadEnds answers failed s) := by
  unfold loadEnds
  iterate 12 all_goals try first
    | split
    | with_reducible exact SameOutside.refl _ _
    | with_reducible refine SameOutside.forAll ?_ (fun _ _ => ?_)
    | (with_reducible apply SameOutside.after (judgeSettings_same ..); rotate_left; decide)
    | (with_reducible apply SameOutside.after (recomputeMismatch_same ..); rotate_left; decide)
    | (with_reducible apply SameOutside.after (settle_same ..); rotate_left; decide)
    | (with_reducible apply SameOutside.after (loadSections_same ..); rotate_left; decide)
    | (with_reducible apply SameOutside.after (chordAfter_same ..); rotate_left; decide)
    | (with_reducible apply SameOutside.after (firstLoad_same ..); rotate_left; decide)
    | dsimp only

theorem setStartReasons_same (s : State) :
    SameOutside [.coins] s (setStartReasons s) := by
  unfold setStartReasons
  iterate 12 all_goals try first
    | split
    | with_reducible exact SameOutside.refl _ _
    | dsimp only
    | with_reducible refine SameOutside.with_coins ?_ (by decide)

theorem powerUpBlocks_same (kept : Bool) (s : State) :
    SameOutside [.powered, .link, .counters, .slots, .adapters, .bus, .monitors, .co, .frame, .out, .pic, .snd, .router,
      .coins, .profiles, .reports] s (powerUpBlocks kept s) :=
  ⟨fun b hb => by cases b <;> first | rfl | exact absurd (by decide) hb⟩

theorem startUp_same (kept : Bool) (s : State) :
    SameOutside [.powered, .link, .counters, .slots, .adapters, .bus, .monitors, .co, .frame, .out, .pic, .snd, .router, .coins, .profiles, .reports] s (startUp kept s) := by
  unfold startUp
  iterate 12 all_goals try first
    | split
    | with_reducible exact SameOutside.refl _ _
    | with_reducible refine SameOutside.forAll ?_ (fun _ _ => ?_)
    | (with_reducible apply SameOutside.after (post_same ..); rotate_left; decide)
    | (with_reducible apply SameOutside.after (returnQueue_same ..); rotate_left; decide)
    | (with_reducible apply SameOutside.after (judgeMeter_same ..); rotate_left; decide)
    | (with_reducible apply SameOutside.after (setStartReasons_same ..); rotate_left; decide)
    | (with_reducible apply SameOutside.after (powerUpBlocks_same ..); rotate_left; decide)
    | dsimp only

theorem powerUp_same (retainedGood : Bool) (s : State) :
    SameOutside [.powered, .link, .counters, .slots, .adapters, .bus, .monitors, .co, .frame, .out, .pic, .snd, .router, .coins, .profiles, .free, .reports] s (powerUp retainedGood s) := by
  unfold powerUp
  iterate 12 all_goals try first
    | split
    | with_reducible exact SameOutside.refl _ _
    | (with_reducible apply SameOutside.after (abandonSave_same ..); rotate_left; decide)
    | (with_reducible apply SameOutside.after (startUp_same ..); rotate_left; decide)
    | dsimp only

theorem losePower_same (s : State) :
    SameOutside [.powered, .link, .counters, .slots, .adapters, .bus, .monitors, .co, .frame, .out, .pic, .snd, .router, .coins, .profiles, .free, .reports] s (losePower s) := by
  unfold losePower
  iterate 12 all_goals try first
    | split
    | with_reducible exact SameOutside.refl _ _
    | (with_reducible apply SameOutside.after (abandonSave_same ..); rotate_left; decide)
    | (with_reducible apply SameOutside.after (powerUpBlocks_same ..); rotate_left; decide)
    | dsimp only
    | with_reducible refine SameOutside.with_powered ?_ (by decide)

theorem restartLink_same (s : State) :
    SameOutside [.link] s (restartLink s) := by
  unfold restartLink
  iterate 12 all_goals try first
    | split
    | with_reducible exact SameOutside.refl _ _
    | (with_reducible apply SameOutside.after (post_same ..); rotate_left; decide)
    | dsimp only
    | with_reducible refine SameOutside.with_link ?_ (by decide)

theorem restartMoney_same (n : Slot) (s : State) :
    SameOutside [.link, .coins] s (restartMoney n s) := by
  unfold restartMoney
  iterate 12 all_goals try first
    | split
    | with_reducible exact SameOutside.refl _ _
    | (with_reducible apply SameOutside.after (returnQueue_same ..); rotate_left; decide)
    | (with_reducible apply SameOutside.after (cutPulse_same ..); rotate_left; decide)
    | dsimp only

theorem restartChutes_same (s : State) :
    SameOutside [.link, .coins] s (restartChutes s) := by
  unfold restartChutes
  iterate 12 all_goals try first
    | split
    | with_reducible exact SameOutside.refl _ _
    | (with_reducible apply SameOutside.after (judgeAllReasons_same ..); rotate_left; decide)
    | dsimp only
    | with_reducible refine SameOutside.with_coins ?_ (by decide)

theorem restartCoins_same (s : State) :
    SameOutside [.link, .coins] s (restartCoins s) := by
  unfold restartCoins
  iterate 12 all_goals try first
    | split
    | with_reducible exact SameOutside.refl _ _
    | with_reducible refine SameOutside.forAll ?_ (fun _ _ => ?_)
    | (with_reducible apply SameOutside.after (restartChutes_same ..); rotate_left; decide)
    | (with_reducible apply SameOutside.after (restartMoney_same ..); rotate_left; decide)
    | dsimp only
    | with_reducible refine SameOutside.with_coins ?_ (by decide)

theorem restartProfiles_same (s : State) :
    SameOutside [.profiles] s (restartProfiles s) := by
  unfold restartProfiles
  iterate 12 all_goals try first
    | split
    | with_reducible exact SameOutside.refl _ _
    | dsimp only
    | with_reducible refine SameOutside.with_profiles ?_ (by decide)

theorem restartPart_same (s : State) :
    SameOutside [.link, .counters, .slots, .bus, .monitors, .co, .frame, .out, .pic, .snd, .router, .coins, .profiles, .free, .reports] s (restartPart s) := by
  unfold restartPart
  iterate 12 all_goals try first
    | split
    | with_reducible exact SameOutside.refl _ _
    | with_reducible refine SameOutside.forAll ?_ (fun _ _ => ?_)
    | (with_reducible apply SameOutside.after (restartMonitors_same ..); rotate_left; decide)
    | (with_reducible apply SameOutside.after (restartPicture_same ..); rotate_left; decide)
    | (with_reducible apply SameOutside.after (restartRouter_same ..); rotate_left; decide)
    | (with_reducible apply SameOutside.after (restartBus_same ..); rotate_left; decide)
    | (with_reducible apply SameOutside.after (restartSlot_same ..); rotate_left; decide)
    | (with_reducible apply SameOutside.after (restartController_same ..); rotate_left; decide)
    | (with_reducible apply SameOutside.after (abandonSave_same ..); rotate_left; decide)
    | (with_reducible apply SameOutside.after (restartLink_same ..); rotate_left; decide)
    | (with_reducible apply SameOutside.after (restartCoins_same ..); rotate_left; decide)
    | (with_reducible apply SameOutside.after (restartProfiles_same ..); rotate_left; decide)
    | dsimp only

theorem frameEnds_same (s : State) :
    SameOutside [.link, .counters, .slots, .bus, .monitors, .co, .frame, .out, .pic, .snd, .router, .coins, .profiles, .free, .reports] s (frameEnds s) := by
  unfold frameEnds
  iterate 12 all_goals try first
    | split
    | with_reducible exact SameOutside.refl _ _
    | (with_reducible apply SameOutside.after (restartPart_same ..); rotate_left; decide)
    | dsimp only
    | with_reducible refine SameOutside.with_link ?_ (by decide)

theorem gapExpires_same (s : State) :
    SameOutside [.now, .link, .counters] s (gapExpires s) := by
  unfold gapExpires
  iterate 12 all_goals try first
    | split
    | with_reducible exact SameOutside.refl _ _
    | (with_reducible apply SameOutside.after (State.reach_same ..); rotate_left; decide)
    | (with_reducible apply SameOutside.after (linkError_same ..); rotate_left; decide)
    | (with_reducible apply SameOutside.after (setRx_same ..); rotate_left; decide)
    | dsimp only

theorem dispatchUnknown_same (kind tag : Byte) (payload : List Byte) (s : State) :
    SameOutside [.link, .counters] s (dispatchUnknown kind tag payload s) := by
  unfold dispatchUnknown
  iterate 12 all_goals try first
    | split
    | with_reducible exact SameOutside.refl _ _
    | (with_reducible apply SameOutside.after (offer_same ..); rotate_left; decide)
    | (with_reducible apply SameOutside.after (giveReply_same ..); rotate_left; decide)
    | dsimp only
    | with_reducible refine SameOutside.with_link ?_ (by decide)

theorem verticalSyncAt_same (src : Source) (s : State) :
    SameOutside [.link, .counters, .slots, .bus, .monitors, .co, .frame, .out, .pic, .snd, .router, .coins, .reports] s (verticalSyncAt src s) := by
  unfold verticalSyncAt
  iterate 12 all_goals try first
    | split
    | with_reducible exact SameOutside.refl _ _
    | (with_reducible apply SameOutside.after (syncCloses_same ..); rotate_left; decide)
    | (with_reducible apply SameOutside.after (syncOpens_same ..); rotate_left; decide)
    | (with_reducible apply SameOutside.after (settle_same ..); rotate_left; decide)
    | dsimp only

theorem outputFieldStarts_same (s : State) :
    SameOutside [.now, .link, .counters, .slots, .bus, .monitors, .co, .frame, .out, .pic, .snd, .router, .coins, .reports] s (outputFieldStarts s) := by
  unfold outputFieldStarts
  iterate 12 all_goals try first
    | split
    | with_reducible exact SameOutside.refl _ _
    | (with_reducible apply SameOutside.after (State.reach_same ..); rotate_left; decide)
    | (with_reducible apply SameOutside.after (fieldStart_same ..); rotate_left; decide)
    | (with_reducible apply SameOutside.after (settle_same ..); rotate_left; decide)
    | dsimp only

theorem settleExpires_same (s : State) :
    SameOutside [.now, .link, .counters, .slots, .bus, .monitors, .co, .frame, .out, .pic, .snd, .router, .coins, .reports] s (settleExpires s) := by
  unfold settleExpires
  iterate 12 all_goals try first
    | split
    | with_reducible exact SameOutside.refl _ _
    | (with_reducible apply SameOutside.after (State.reach_same ..); rotate_left; decide)
    | (with_reducible apply SameOutside.after (settleDone_same ..); rotate_left; decide)
    | (with_reducible apply SameOutside.after (settle_same ..); rotate_left; decide)
    | dsimp only

theorem stillExpires_same (s : State) :
    SameOutside [.now, .link, .counters, .pic] s (stillExpires s) := by
  unfold stillExpires
  iterate 12 all_goals try first
    | split
    | with_reducible exact SameOutside.refl _ _
    | (with_reducible apply SameOutside.after (State.reach_same ..); rotate_left; decide)
    | (with_reducible apply SameOutside.after (stillExpiry_same ..); rotate_left; decide)
    | dsimp only

theorem takeControls_same (s : State) :
    SameOutside [.link, .router, .coins] s (takeControls s) := by
  unfold takeControls
  iterate 12 all_goals try first
    | split
    | with_reducible exact SameOutside.refl _ _
    | (with_reducible apply SameOutside.after (giveLink_same ..); rotate_left; decide)
    | dsimp only
    | with_reducible refine SameOutside.with_router ?_ (by decide)

theorem clearHold_same (s : State) :
    SameOutside [.router] s (clearHold s) := by
  unfold clearHold
  iterate 12 all_goals try first
    | split
    | with_reducible exact SameOutside.refl _ _
    | dsimp only
    | with_reducible refine SameOutside.with_router ?_ (by decide)

theorem setClaim_same (n : Slot) (s : State) :
    SameOutside [.router] s (setClaim n s) := by
  unfold setClaim
  iterate 12 all_goals try first
    | split
    | with_reducible exact SameOutside.refl _ _
    | dsimp only
    | with_reducible refine SameOutside.with_router ?_ (by decide)

theorem chordTimerEnds_same (s : State) :
    SameOutside [.now, .link, .router] s (chordTimerEnds s) := by
  unfold chordTimerEnds
  iterate 12 all_goals try first
    | split
    | with_reducible exact SameOutside.refl _ _
    | (with_reducible apply SameOutside.after (State.reach_same ..); rotate_left; decide)
    | (with_reducible apply SameOutside.after (chordExpires_same ..); rotate_left; decide)
    | dsimp only

theorem playTimerEnds_same (s : State) :
    SameOutside [.now, .link, .counters, .router] s (playTimerEnds s) := by
  unfold playTimerEnds
  iterate 12 all_goals try first
    | split
    | with_reducible exact SameOutside.refl _ _
    | (with_reducible apply SameOutside.after (State.reach_same ..); rotate_left; decide)
    | (with_reducible apply SameOutside.after (playExpires_same ..); rotate_left; decide)
    | dsimp only

theorem deliver_same (n : Slot) (units : Nat) (k : CoinLine) (s : State) :
    SameOutside [.link, .counters, .coins] s (deliver n units k s) := by
  unfold deliver
  iterate 12 all_goals try first
    | split
    | with_reducible exact SameOutside.refl _ _
    | (with_reducible apply SameOutside.after (State.setQueue_same ..); rotate_left; decide)
    | (with_reducible apply SameOutside.after (judgeBankLimit_same ..); rotate_left; decide)
    | (with_reducible apply SameOutside.after (judgePulse_same ..); rotate_left; decide)
    | dsimp only
    | with_reducible refine SameOutside.with_coins ?_ (by decide)

theorem drain_same (units : Nat) (s : State) :
    SameOutside [.link, .coins] s (drain units s) := by
  unfold drain
  iterate 12 all_goals try first
    | split
    | with_reducible exact SameOutside.refl _ _
    | (with_reducible apply SameOutside.after (judgeBankLimit_same ..); rotate_left; decide)
    | dsimp only
    | with_reducible refine SameOutside.with_coins ?_ (by decide)

theorem jamExpires_same (c : Chute) (s : State) :
    SameOutside [.now, .link, .counters, .coins] s (jamExpires c s) := by
  unfold jamExpires
  iterate 12 all_goals try first
    | split
    | with_reducible exact SameOutside.refl _ _
    | (with_reducible apply SameOutside.after (State.reach_same ..); rotate_left; decide)
    | (with_reducible apply SameOutside.after (jamExpiry_same ..); rotate_left; decide)
    | dsimp only

theorem pulseOnExpires_same (n : Slot) (s : State) :
    SameOutside [.now, .coins] s (pulseOnExpires n s) := by
  unfold pulseOnExpires
  iterate 12 all_goals try first
    | split
    | with_reducible exact SameOutside.refl _ _
    | (with_reducible apply SameOutside.after (State.reach_same ..); rotate_left; decide)
    | (with_reducible apply SameOutside.after (State.setGenerator_same ..); rotate_left; decide)
    | dsimp only

theorem pulseGapExpires_same (n : Slot) (s : State) :
    SameOutside [.now, .link, .counters, .coins] s (pulseGapExpires n s) := by
  unfold pulseGapExpires
  iterate 12 all_goals try first
    | split
    | with_reducible exact SameOutside.refl _ _
    | (with_reducible apply SameOutside.after (State.reach_same ..); rotate_left; decide)
    | (with_reducible apply SameOutside.after (State.setGenerator_same ..); rotate_left; decide)
    | (with_reducible apply SameOutside.after (judgePulse_same ..); rotate_left; decide)
    | dsimp only

theorem meterOnExpires_same (m : Meter) (s : State) :
    SameOutside [.now, .coins] s (meterOnExpires m s) := by
  unfold meterOnExpires
  iterate 12 all_goals try first
    | split
    | with_reducible exact SameOutside.refl _ _
    | (with_reducible apply SameOutside.after (State.reach_same ..); rotate_left; decide)
    | (with_reducible apply SameOutside.after (State.setMeter_same ..); rotate_left; decide)
    | dsimp only

theorem meterOffExpires_same (m : Meter) (s : State) :
    SameOutside [.now, .link, .coins] s (meterOffExpires m s) := by
  unfold meterOffExpires
  iterate 12 all_goals try first
    | split
    | with_reducible exact SameOutside.refl _ _
    | (with_reducible apply SameOutside.after (State.reach_same ..); rotate_left; decide)
    | (with_reducible apply SameOutside.after (State.setMeter_same ..); rotate_left; decide)
    | (with_reducible apply SameOutside.after (judgeMeter_same ..); rotate_left; decide)
    | dsimp only

theorem putCabinet_same (c : Cabinet) (s : State) :
    SameOutside [.link, .router, .coins, .profiles] s (putCabinet c s) := by
  unfold putCabinet
  iterate 12 all_goals try first
    | split
    | with_reducible exact SameOutside.refl _ _
    | (with_reducible apply SameOutside.after (judgeSettings_same ..); rotate_left; decide)
    | (with_reducible apply SameOutside.after (chordAfter_same ..); rotate_left; decide)
    | dsimp only
    | with_reducible refine SameOutside.with_profiles ?_ (by decide)

end Sys2Proof.Machine
end

