-- ==== Sys2Proof/Laws/Requests.lean ====
section
/-! SUPPORT. What a request does: the turn it takes, the reply it is given, and the whole command once its checks and its
block are known. -/

namespace Sys2Proof.Machine

/-- An event of a part that has power always answers a next state. -/
theorem event_powered {s : State} (h : s.powered = true) (f : State → State) : event s f = .next (conclude (f s)) := by
  simp [event, whenPowered, h]

theorem serveOldest_find {kind tag : Byte} {p : List Byte} {l b : List Place}
    (h : serveOldest kind tag p l = some b) (hl : (l.any fun q => q.stage == .inService) = false) :
    b.find? (fun q => q.stage == .inService) = some ⟨kind, tag, p, .inService⟩ := by
  induction l generalizing b with
  | nil => simp [serveOldest] at h
  | cons q rest ih =>
    simp only [List.any_cons, Bool.or_eq_false_iff] at hl
    unfold serveOldest at h
    split at h
    · split at h
      · next hk =>
        cases h
        obtain ⟨rfl, rfl, rfl⟩ := hk
        simp
      · cases h
    · obtain ⟨c, hc, rfl⟩ := Option.map_eq_some_iff.mp h
      rw [List.find?_cons_of_neg (by simpa using hl.1)]
      exact ih hc hl.2

/-- The place that a turn puts in service is the request's own. -/
theorem takeTurn_find {kind tag : Byte} {p : List Byte} {l : Link} {b : List Place}
    (h : takeTurn kind tag p l = some b) :
    b.find? (fun q => q.stage == .inService) = some ⟨kind, tag, p, .inService⟩ := by
  unfold takeTurn at h
  split at h
  · cases h
  · next hs =>
    simp only [Link.serving, Bool.or_eq_true, not_or, Bool.not_eq_true] at hs
    split at h
    · exact serveOldest_find h hs.2
    · split at h
      · cases h
        rw [List.find?_append, List.find?_eq_none.mpr]
        · simp
        · simpa using hs.2
      · cases h

/-- A reply given while the buffer is the one the turn left. -/
theorem giveReply_turn {kind tag : Byte} {p : List Byte} {l : Link} {b : List Place} {s : State}
    (h : takeTurn kind tag p l = some b) (hb : s.link.buffer = b) (a : Answer) :
    giveReply a s = { s with link := s.link.replied b ⟨kind, tag, a.result, a.data⟩ } := by
  subst hb
  simp [giveReply, takeTurn_find h, Link.replied]

/-- A request whose turn has not come is offered to the receive buffer. -/
theorem request_waits {s : State} {dt : Nat} {kind tag : Byte} {p : List Byte} (hp : s.powered = true)
    (h : takeTurn kind tag p s.link = none) (check : State → List Byte → Option Result)
    (block : State → List Byte → State × Option Answer) :
    request dt kind tag p check block s = .next (conclude (offer kind tag p (s.tick dt))) := by
  simp [request, event_powered hp, dispatch, h]

/-- A request of tag 0 is refused (R7). -/
theorem request_tagZero {s : State} {dt : Nat} {kind : Byte} {p : List Byte} {b : List Place} (hp : s.powered = true)
    (h : takeTurn kind 0 p s.link = some b) (check : State → List Byte → Option Result)
    (block : State → List Byte → State × Option Answer) :
    request dt kind 0 p check block s = .next (conclude (s.justReplied dt b ⟨kind, 0, .badField 0xFF, []⟩)) := by
  simp only [request, event_powered hp, dispatch, State.tick_link, h, serve, ↓reduceIte]
  rw [giveReply_turn h rfl]
  rfl

/-- A request that its own length and field checks refuse (R7). -/
theorem request_refused {s : State} {dt : Nat} {kind tag : Byte} {p : List Byte} {b : List Place}
    (h : Turn kind tag p s b) {check : State → List Byte → Option Result} {r : Result}
    (hc : check { s.tick dt with link := { s.link with buffer := b } } p = some r)
    (block : State → List Byte → State × Option Answer) :
    request dt kind tag p check block s = .next (conclude (s.justReplied dt b ⟨kind, tag, r, []⟩)) := by
  obtain ⟨hp, ht, hb⟩ := h
  simp only [request, event_powered hp, dispatch, State.tick_link, hb, serve, ht, ↓reduceIte, hc]
  rw [giveReply_turn hb rfl]
  rfl

/-- A request that its block answers. The block is handed the state with the request in service. -/
theorem request_answered {s t : State} {dt : Nat} {kind tag : Byte} {p : List Byte} {b : List Place} {a : Answer}
    (h : Turn kind tag p s b) {check : State → List Byte → Option Result}
    {block : State → List Byte → State × Option Answer}
    (hc : check { s.tick dt with link := { s.link with buffer := b } } p = none)
    (hb : block { s.tick dt with link := { s.link with buffer := b } } p = (t, some a)) (ht : t.link.buffer = b) :
    request dt kind tag p check block s =
      .next (conclude { t with link := t.link.replied b ⟨kind, tag, a.result, a.data⟩ }) := by
  obtain ⟨hp, htag, hturn⟩ := h
  simp only [request, event_powered hp, dispatch, State.tick_link, hturn, serve, htag, ↓reduceIte, hc, hb]
  rw [giveReply_turn hturn ht]

/-- A request that its block answers without a change. -/
theorem request_quiet {s : State} {dt : Nat} {kind tag : Byte} {p : List Byte} {b : List Place} {a : Answer}
    (h : Turn kind tag p s b) {check : State → List Byte → Option Result}
    {block : State → List Byte → State × Option Answer}
    (hc : check { s.tick dt with link := { s.link with buffer := b } } p = none)
    (hb : block { s.tick dt with link := { s.link with buffer := b } } p =
      ({ s.tick dt with link := { s.link with buffer := b } }, some a)) :
    request dt kind tag p check block s = .next (conclude (s.justReplied dt b ⟨kind, tag, a.result, a.data⟩)) := by
  rw [request_answered h hc hb rfl]
  rfl

/-- A request that its block keeps in service. -/
theorem request_kept {s t : State} {dt : Nat} {kind tag : Byte} {p : List Byte} {b : List Place}
    (h : Turn kind tag p s b) {check : State → List Byte → Option Result}
    {block : State → List Byte → State × Option Answer}
    (hc : check { s.tick dt with link := { s.link with buffer := b } } p = none)
    (hb : block { s.tick dt with link := { s.link with buffer := b } } p = (t, none)) :
    request dt kind tag p check block s = .next (conclude t) := by
  obtain ⟨hp, htag, hturn⟩ := h
  simp only [request, event_powered hp, dispatch, State.tick_link, hturn, serve, htag, ↓reduceIte, hc, hb]

/-- With no changeover in flight and no report waiting, the controller has nothing to do. -/
theorem advancePhases_idle (k : Nat) {s : State} (h : s.co.record = none) : advancePhases k s = s := by
  induction k with
  | zero => rfl
  | succ k ih => simp [advancePhases, advancePhase, h, ih]

theorem conduct_idle {s : State} (h : s.co.record = none) : conduct s = { s with reports := [] } := by
  simp [conduct, progress, advancePhases_idle 16 (s := { s with reports := [] }) h]

theorem settle_settled {s : State} (h : Settled s) : settle s = s := by
  obtain ⟨h1, h2⟩ := h
  have : ({ s with reports := [] } : State) = s := by rw [← h2]
  simp only [settle, h2, List.foldl_nil, this]
  rw [conduct_idle h1, this]

/-- A slot's byte names the slot. -/
theorem payloadSlot_slotByte (n : Slot) (rest : List Byte) : payloadSlot (slotByte n :: rest) = n := by
  revert n
  simp only [payloadSlot, byteAt, List.getD_cons_zero]
  decide

theorem slotField_slotByte (n : Slot) (rest : List Byte) : slotField (slotByte n :: rest) = (0, true) := by
  revert n
  simp only [slotField, byteCheck, byteAt, List.getD_cons_zero]
  decide

end Sys2Proof.Machine
end

