-- ==== Sys2Proof/Laws/Link.lean ====
section
/-! SUPPORT. The receiver, the check byte, the notice table and the counters: what each operation can do, said once. -/

namespace Sys2Proof.Machine

/-! ### The check byte -/

theorem foldl_add_eq (l : List Byte) (a : Byte) :
    l.foldl (· + ·) a = a + BitVec.ofNat 8 ((l.map BitVec.toNat).sum) := by
  induction l generalizing a with
  | nil => simp
  | cons x l ih =>
    rw [List.foldl_cons, ih, List.map_cons, List.sum_cons]
    apply BitVec.eq_of_toNat_eq
    simp only [BitVec.toNat_add, BitVec.toNat_ofNat]
    omega

/-- A byte is the check byte exactly when it makes LEN + KIND + TAG + payload + CHECK equal 0 modulo 256 (R3). -/
theorem checkByte_iff (k t b : Byte) (p : List Byte) :
    b = checkByte k t p ↔ (p.length + k.toNat + t.toNat + (p.map BitVec.toNat).sum + b.toNat) % 256 = 0 := by
  rw [checkByte, foldl_add_eq, ← BitVec.toNat_inj]
  simp only [byteOf, BitVec.zero_add, BitVec.ofNat_eq_ofNat, BitVec.zero_sub, BitVec.toNat_neg, BitVec.toNat_add,
    BitVec.toNat_ofNat]
  have := b.isLt
  omega

/-- The bytes built for a kind, a tag and a payload are one frame of them (R8, R13). -/
theorem frameBytes_isFrame (k t : Byte) (p : List Byte) : IsFrame k t p (frameBytes k t p) :=
  ⟨checkByte k t p, by simp [frameBytes, byteOf], (checkByte_iff ..).1 rfl⟩

/-! ### The receiver -/

/-- A character that ends no frame. -/
theorem receiveChar_goes {c : LineChar} {s : State} {rx : RxState} (h : receive s.link.rx c = (rx, .none)) :
    receiveChar c s = setRx rx s := by
  simp [receiveChar, h]

/-- A character that ends a frame in an error. -/
theorem receiveChar_error {c : LineChar} {s : State} {rx : RxState} {e : LinkCause}
    (h : receive s.link.rx c = (rx, .error e)) : receiveChar c s = linkError e (setRx rx s) := by
  simp [receiveChar, h]

/-- A character that ends a well-formed request. -/
theorem receiveChar_request {c : LineChar} {s : State} {rx : RxState} {k t : Byte} {p : List Byte}
    (h : receive s.link.rx c = (rx, .request k t p)) : receiveChar c s = offer k t p (setRx rx s) := by
  simp [receiveChar, h]

/-! ### The notice table -/

theorem tableWith_new {n : Notice} {l : List Entry} (h : ∀ e ∈ l, e.notice.key ≠ n.key) :
    tableWith n l = l ++ [⟨1, n⟩] := by
  induction l with
  | nil => rfl
  | cons e l ih =>
    simp only [tableWith, h e (by simp), ↓reduceIte, List.cons_append]
    rw [ih fun x hx => h x (by simp [hx])]

theorem tableWith_old {n : Notice} {before after : List Entry} {e : Entry} (he : e.notice.key = n.key)
    (h : ∀ x ∈ before, x.notice.key ≠ n.key) :
    tableWith n (before ++ e :: after) = before ++ ⟨min 255 (e.count + 1), coalesce e.notice n⟩ :: after := by
  induction before with
  | nil => simp [tableWith, he]
  | cons x l ih =>
    simp only [List.cons_append, tableWith, h x (by simp), ↓reduceIte]
    rw [ih fun y hy => h y (by simp [hy])]

/-- An event keeps the kind and subject of the entry it coalesces into. -/
theorem coalesce_key {a b : Notice} (h : a.key = b.key) : (coalesce a b).key = b.key := by
  unfold coalesce
  split
  · rfl
  · rfl
  · rfl

/-- The keys of the table after an event: the same, or one more at the tail. -/
theorem tableWith_keys (n : Notice) (l : List Entry) :
    (tableWith n l).map (fun e => e.notice.key) = l.map (fun e => e.notice.key) ∨
      (n.key ∉ l.map (fun e => e.notice.key) ∧
        (tableWith n l).map (fun e => e.notice.key) = l.map (fun e => e.notice.key) ++ [n.key]) := by
  induction l with
  | nil => exact Or.inr ⟨by simp, rfl⟩
  | cons e l ih =>
    by_cases hk : e.notice.key = n.key
    · left
      simp [tableWith, hk, coalesce_key hk]
    · simp only [tableWith, hk, ↓reduceIte, List.map_cons, List.mem_cons, not_or, List.cons_append, List.cons.injEq,
        true_and]
      rcases ih with h | ⟨h1, h2⟩
      · exact Or.inl h
      · exact Or.inr ⟨⟨fun h => hk h.symm, h1⟩, h2⟩

/-- Every entry of the table after an event was there before, or has the event's key. -/
theorem mem_tableWith {n : Notice} {l : List Entry} {e : Entry} (h : e ∈ tableWith n l) : e ∈ l ∨ e.notice.key = n.key := by
  induction l with
  | nil =>
    simp only [tableWith, List.mem_singleton] at h
    exact Or.inr (by rw [h])
  | cons x l ih =>
    unfold tableWith at h
    split at h
    · next hk =>
      rcases List.mem_cons.mp h with rfl | h
      · exact Or.inr (coalesce_key hk)
      · exact Or.inl (by simp [h])
    · rcases List.mem_cons.mp h with rfl | h
      · exact Or.inl (by simp)
      · rcases ih h with h | h
        · exact Or.inl (by simp [h])
        · exact Or.inr h

/-- An event whose contents replace the entry's stands in the table afterwards. -/
theorem exists_tableWith {n : Notice} (hn : ∀ m, coalesce m n = n) (l : List Entry) :
    ∃ e ∈ tableWith n l, e.notice = n ∧ 1 ≤ e.count := by
  induction l with
  | nil => exact ⟨⟨1, n⟩, by simp [tableWith], rfl, le_refl _⟩
  | cons x l ih =>
    unfold tableWith
    split
    · exact ⟨⟨min 255 (x.count + 1), coalesce x.notice n⟩, List.mem_cons_self, hn _, by simp⟩
    · obtain ⟨e, he, h⟩ := ih
      exact ⟨e, by simp [he], h⟩

/-- A posted event, when its kind is not masked, is what its key's entry holds. -/
theorem exists_post {n : Notice} (hn : ∀ m, coalesce m n = n) {s : State} (h : s.link.mask.at n.kind = true) :
    ∃ e ∈ (post n s).link.notices, e.notice = n ∧ 1 ≤ e.count := by
  simpa [post, h] using exists_tableWith hn s.link.notices

/-- An event whose key is not of the kind leaves that kind's entries as they are. -/
theorem mem_post {n : Notice} {s : State} {e : Entry} (h : e ∈ (post n s).link.notices) :
    e ∈ s.link.notices ∨ (s.link.mask.at n.kind = true ∧ e.notice.key = n.key) := by
  unfold post at h
  split at h
  · next hm =>
    rcases mem_tableWith h with h | h
    · exact Or.inl h
    · exact Or.inr ⟨hm, h⟩
  · exact Or.inl h

/-- A posted event changes only the notices of the link. -/
theorem post_link (n : Notice) (s : State) : (post n s).link = { s.link with notices := (post n s).link.notices } := by
  unfold post
  split <;> rfl

@[simp] theorem post_mask (n : Notice) (s : State) : (post n s).link.mask = s.link.mask := by rw [post_link]
@[simp] theorem post_buffer (n : Notice) (s : State) : (post n s).link.buffer = s.link.buffer := by rw [post_link]
@[simp] theorem post_replies (n : Notice) (s : State) : (post n s).link.replies = s.link.replies := by rw [post_link]

/-! ### Increments -/

/-- The counters after an increment (R177). -/
theorem increment_counters (i : CounterId) (s : State) :
    (increment i s).counters = if s.counters.freeze then s.counters else
      { s.counters with table := s.counters.table.put i ((s.counter i).bump s.counters.saturate) } := by
  unfold increment
  split
  · rfl
  · dsimp only
    split
    · exact (post_same ..).same .counters (by decide)
    · rfl

/-- An increment posts nothing but COUNTER. -/
theorem increment_link (i : CounterId) (s : State) :
    (increment i s).link = { s.link with notices := (increment i s).link.notices } := by
  unfold increment
  split
  · rfl
  · dsimp only
    split
    · rw [post_link]
      rfl
    · rfl

@[simp] theorem increment_mask (i : CounterId) (s : State) : (increment i s).link.mask = s.link.mask := by
  rw [increment_link]

/-- An entry of another kind is not touched by an increment. -/
theorem mem_increment {i : CounterId} {s : State} {e : Entry} (h : e ∈ (increment i s).link.notices)
    (hk : e.notice.kind ≠ 6) : e ∈ s.link.notices := by
  unfold increment at h
  split at h
  · exact h
  · dsimp only at h
    split at h
    · rcases mem_post h with h | ⟨_, h⟩
      · exact h
      · exact absurd (congrArg Prod.fst h) hk
    · exact h

end Sys2Proof.Machine
end

