-- ==== Sys2Proof/Laws/PerInstr.lean ====
section
/-! SUPPORT. A statement for every command as syntax, one lemma per constructor: a well-formed command that is a request
can be laid out as a frame of the link chapter. -/

namespace Sys2Proof.Laws

/-- A well-formed request has a KIND of the catalogue, 01h to 1Ch, and a payload that LEN can give, 200 bytes at most
(link chapter, Frame and Request catalogue). A command that is an event has no frame. -/
def Encoding.Statement (i : Instr) : Prop :=
  i.wellFormed = true → ∀ dt kind tag p, Machine.requestOf i = some (dt, kind, tag, p) →
    1 ≤ kind.toNat ∧ kind.toNat ≤ 0x1C ∧ p.length ≤ 200

theorem Encoding.of_event {i : Instr} (h : Machine.requestOf i = none) : Encoding.Statement i := by
  intro _ _ _ _ _ hr
  cases h.symm.trans hr

theorem Encoding.of_request {i : Instr} {dt : Nat} {kind tag : Byte} {p : List Byte}
    (h : Machine.requestOf i = some (dt, kind, tag, p)) (hk : 1 ≤ kind.toNat ∧ kind.toNat ≤ 0x1C)
    (hp : i.wellFormed = true → payloadFits p = true) : Encoding.Statement i := by
  intro hw _ _ _ _ hr
  cases h.symm.trans hr
  exact ⟨hk.1, hk.2, by simpa [payloadFits] using hp hw⟩

theorem Encoding.characterReceived (dt : Nat) (c : LineChar) : Encoding.Statement (.characterReceived dt c) :=
  Encoding.of_event rfl

theorem Encoding.gapTimeout : Encoding.Statement .gapTimeout := Encoding.of_event rfl

theorem Encoding.frameSent (dt : Nat) : Encoding.Statement (.frameSent dt) := Encoding.of_event rfl

theorem Encoding.unknownKind (dt : Nat) (kind tag : Byte) (payload : List Byte) : Encoding.Statement (.unknownKind dt kind tag payload) :=
  Encoding.of_event rfl

theorem Encoding.ident (dt : Nat) (tag : Byte) (payload : List Byte) : Encoding.Statement (.ident dt tag payload) :=
  Encoding.of_request rfl (by decide) id

theorem Encoding.state (dt : Nat) (tag : Byte) (payload : List Byte) : Encoding.Statement (.state dt tag payload) :=
  Encoding.of_request rfl (by decide) id

theorem Encoding.slotInfo (dt : Nat) (tag : Byte) (payload : List Byte) : Encoding.Statement (.slotInfo dt tag payload) :=
  Encoding.of_request rfl (by decide) id

theorem Encoding.slotPowerOn (dt : Nat) (tag : Byte) (payload : List Byte) : Encoding.Statement (.slotPowerOn dt tag payload) :=
  Encoding.of_request rfl (by decide) (by simp only [Instr.wellFormed, Bool.and_eq_true]; exact And.left)

theorem Encoding.slotPowerOff (dt : Nat) (tag : Byte) (payload : List Byte) : Encoding.Statement (.slotPowerOff dt tag payload) :=
  Encoding.of_request rfl (by decide) (by simp only [Instr.wellFormed, Bool.and_eq_true]; exact And.left)

theorem Encoding.slotRestart (dt : Nat) (tag : Byte) (payload : List Byte) : Encoding.Statement (.slotRestart dt tag payload) :=
  Encoding.of_request rfl (by decide) id

theorem Encoding.select (dt : Nat) (tag : Byte) (payload : List Byte) : Encoding.Statement (.select dt tag payload) :=
  Encoding.of_request rfl (by decide) id

theorem Encoding.abort (dt : Nat) (tag : Byte) (payload : List Byte) : Encoding.Statement (.abort dt tag payload) :=
  Encoding.of_request rfl (by decide) id

theorem Encoding.timing (dt : Nat) (tag : Byte) (payload : List Byte) : Encoding.Statement (.timing dt tag payload) :=
  Encoding.of_request rfl (by decide) id

theorem Encoding.profileGet (dt : Nat) (tag : Byte) (payload : List Byte) : Encoding.Statement (.profileGet dt tag payload) :=
  Encoding.of_request rfl (by decide) id

theorem Encoding.profilePut (dt : Nat) (tag : Byte) (payload : List Byte) : Encoding.Statement (.profilePut dt tag payload) :=
  Encoding.of_request rfl (by decide) id

theorem Encoding.cabinetGet (dt : Nat) (tag : Byte) (payload : List Byte) : Encoding.Statement (.cabinetGet dt tag payload) :=
  Encoding.of_request rfl (by decide) id

theorem Encoding.cabinetPut (dt : Nat) (tag : Byte) (payload : List Byte) : Encoding.Statement (.cabinetPut dt tag payload) :=
  Encoding.of_request rfl (by decide) id

theorem Encoding.storeSave (dt : Nat) (tag : Byte) (payload : List Byte) (answers : Bool) : Encoding.Statement (.storeSave dt tag payload answers) :=
  Encoding.of_request rfl (by decide) id

theorem Encoding.storeLoad (dt : Nat) (tag : Byte) (payload : List Byte) (answers : Bool) : Encoding.Statement (.storeLoad dt tag payload answers) :=
  Encoding.of_request rfl (by decide) id

theorem Encoding.controlsTake (dt : Nat) (tag : Byte) (payload : List Byte) : Encoding.Statement (.controlsTake dt tag payload) :=
  Encoding.of_request rfl (by decide) id

theorem Encoding.controlsGive (dt : Nat) (tag : Byte) (payload : List Byte) : Encoding.Statement (.controlsGive dt tag payload) :=
  Encoding.of_request rfl (by decide) id

theorem Encoding.coinState (dt : Nat) (tag : Byte) (payload : List Byte) : Encoding.Statement (.coinState dt tag payload) :=
  Encoding.of_request rfl (by decide) id

theorem Encoding.coinDeliver (dt : Nat) (tag : Byte) (payload : List Byte) : Encoding.Statement (.coinDeliver dt tag payload) :=
  Encoding.of_request rfl (by decide) id

theorem Encoding.coinDrain (dt : Nat) (tag : Byte) (payload : List Byte) : Encoding.Statement (.coinDrain dt tag payload) :=
  Encoding.of_request rfl (by decide) id

theorem Encoding.coinLock (dt : Nat) (tag : Byte) (payload : List Byte) : Encoding.Statement (.coinLock dt tag payload) :=
  Encoding.of_request rfl (by decide) id

theorem Encoding.coinTotalsClear (dt : Nat) (tag : Byte) (payload : List Byte) : Encoding.Statement (.coinTotalsClear dt tag payload) :=
  Encoding.of_request rfl (by decide) id

theorem Encoding.countersRead (dt : Nat) (tag : Byte) (payload : List Byte) : Encoding.Statement (.countersRead dt tag payload) :=
  Encoding.of_request rfl (by decide) id

theorem Encoding.countersMode (dt : Nat) (tag : Byte) (payload : List Byte) : Encoding.Statement (.countersMode dt tag payload) :=
  Encoding.of_request rfl (by decide) id

theorem Encoding.adapterRead (dt : Nat) (tag : Byte) (payload : List Byte) : Encoding.Statement (.adapterRead dt tag payload) :=
  Encoding.of_request rfl (by decide) id

theorem Encoding.adapterWrite (dt : Nat) (tag : Byte) (payload : List Byte) : Encoding.Statement (.adapterWrite dt tag payload) :=
  Encoding.of_request rfl (by decide) id

theorem Encoding.noticeMask (dt : Nat) (tag : Byte) (payload : List Byte) : Encoding.Statement (.noticeMask dt tag payload) :=
  Encoding.of_request rfl (by decide) id

theorem Encoding.restart (dt : Nat) (tag : Byte) (payload : List Byte) : Encoding.Statement (.restart dt tag payload) :=
  Encoding.of_request rfl (by decide) id

theorem Encoding.overlay (dt : Nat) (tag : Byte) (payload : List Byte) : Encoding.Statement (.overlay dt tag payload) :=
  Encoding.of_request rfl (by decide) id

theorem Encoding.restartEffect (dt : Nat) : Encoding.Statement (.restartEffect dt) := Encoding.of_event rfl

theorem Encoding.powerUpReset (dt : Nat) (retainedGood : Bool) : Encoding.Statement (.powerUpReset dt retainedGood) :=
  Encoding.of_event rfl

theorem Encoding.powerLoss (dt : Nat) : Encoding.Statement (.powerLoss dt) := Encoding.of_event rfl

theorem Encoding.powerGoodRise (dt : Nat) (n : Slot) : Encoding.Statement (.powerGoodRise dt n) :=
  Encoding.of_event rfl

theorem Encoding.powerGoodFall (dt : Nat) (n : Slot) : Encoding.Statement (.powerGoodFall dt n) :=
  Encoding.of_event rfl

theorem Encoding.powerGoodWindowExpiry (n : Slot) : Encoding.Statement (.powerGoodWindowExpiry n) :=
  Encoding.of_event rfl

theorem Encoding.bootWindowExpiry (n : Slot) : Encoding.Statement (.bootWindowExpiry n) := Encoding.of_event rfl

theorem Encoding.transactionAnswered (a : BusAnswer) : Encoding.Statement (.transactionAnswered a) :=
  Encoding.of_event rfl

theorem Encoding.answerWindowExpiry (received : Bool) : Encoding.Statement (.answerWindowExpiry received) :=
  Encoding.of_event rfl

theorem Encoding.pollTimerExpiry : Encoding.Statement .pollTimerExpiry := Encoding.of_event rfl

theorem Encoding.verticalSync (dt : Nat) (src : Source) : Encoding.Statement (.verticalSync dt src) :=
  Encoding.of_event rfl

theorem Encoding.lineSync (dt : Nat) (src : Source) (video : List (Nat × RGB)) : Encoding.Statement (.lineSync dt src video) :=
  Encoding.of_event rfl

theorem Encoding.fieldTimeout (src : Source) : Encoding.Statement (.fieldTimeout src) := Encoding.of_event rfl

theorem Encoding.syncTimerExpiry (src : Source) : Encoding.Statement (.syncTimerExpiry src) := Encoding.of_event rfl

theorem Encoding.lockLimitExpiry : Encoding.Statement .lockLimitExpiry := Encoding.of_event rfl

theorem Encoding.recoveryWatchExpiry : Encoding.Statement .recoveryWatchExpiry := Encoding.of_event rfl

theorem Encoding.outputFieldStart : Encoding.Statement .outputFieldStart := Encoding.of_event rfl

theorem Encoding.settleExpiry : Encoding.Statement .settleExpiry := Encoding.of_event rfl

theorem Encoding.audioFadeStep : Encoding.Statement .audioFadeStep := Encoding.of_event rfl

theorem Encoding.stillTimerExpiry : Encoding.Statement .stillTimerExpiry := Encoding.of_event rfl

theorem Encoding.rawInputChange (dt : Nat) (i : Input) (closed : Bool) : Encoding.Statement (.rawInputChange dt i closed) :=
  Encoding.of_event rfl

theorem Encoding.debounceExpiry (i : Input) : Encoding.Statement (.debounceExpiry i) := Encoding.of_event rfl

theorem Encoding.chordTimerExpiry : Encoding.Statement .chordTimerExpiry := Encoding.of_event rfl

theorem Encoding.playTimerExpiry : Encoding.Statement .playTimerExpiry := Encoding.of_event rfl

theorem Encoding.jamTimerExpiry (c : Chute) : Encoding.Statement (.jamTimerExpiry c) := Encoding.of_event rfl

theorem Encoding.pulseOnExpiry (n : Slot) : Encoding.Statement (.pulseOnExpiry n) := Encoding.of_event rfl

theorem Encoding.pulseGapExpiry (n : Slot) : Encoding.Statement (.pulseGapExpiry n) := Encoding.of_event rfl

theorem Encoding.meterOnExpiry (m : Meter) : Encoding.Statement (.meterOnExpiry m) := Encoding.of_event rfl

theorem Encoding.meterOffExpiry (m : Meter) : Encoding.Statement (.meterOffExpiry m) := Encoding.of_event rfl

theorem Encoding.storeSaveEnd (dt : Nat) (failed : List SectionId) : Encoding.Statement (.storeSaveEnd dt failed) :=
  Encoding.of_event rfl

theorem Encoding.profileLoadEnd (dt : Nat) (answers : Bool) (failed : List SectionId) : Encoding.Statement (.profileLoadEnd dt answers failed) :=
  Encoding.of_event rfl

theorem Encoding.adapterPluggedIn (dt : Nat) (n : Slot) (own : List (Fin 256 × Word16)) : Encoding.Statement (.adapterPluggedIn dt n own) :=
  Encoding.of_event rfl

end Sys2Proof.Laws
end

