-- ==== Sys2Proof/Tests/Slice0.lean ====
section
/-! SUPPORT. The model's own tests: ill-formed commands refused, worked figures of the manual, and for every statement
with hypotheses a concrete state and operands that meet them, clause by clause. -/

namespace Sys2Proof.Tests

open Sys2Proof.Machine

/-! ### Helpers -/

/-- The state after reset. -/
abbrev r0 : State := State.reset

/-- The state a command answers. -/
def ran (c : Instr) (s : State) : Option State :=
  match exec c s with
  | .next t => some t
  | _ => none

/-- Slot `n` in a state, its lines at that state's levels. -/
def inState (n : Slot) (st : SlotState) (s : State) : State := s.setSlot n { s.slot n with state := st, lines := st.lines }

/-- A current slot. -/
def withCurrent (n : Option Slot) (s : State) : State := { s with co := { s.co with current := n } }

/-- A record in a phase. -/
def recordOf (src tgt : Option Slot) (p : Phase) : Record where
  tag := 0x20
  source := src
  target := tgt
  phase := p
  reason := none
  isReturn := false
  superseded := ⟨[], false⟩
  resume := .notChecked
  wokenFrozen := false
  lockSeen := false
  lockLimit := some 100
  holdStyle := false
  checkApplies := false
  holdUntilReady := false
  sawSeeking := false

/-- A changeover in flight. -/
def inFlight (r : Record) (s : State) : State := { s with co := { s.co with record := some r } }

/-- The controls with an owner. -/
def ownedBy (o : Owner) (s : State) : State := { s with router := { s.router with owner := o } }

/-- The cabinet link changed. -/
def withLink (f : Link → Link) (s : State) : State := { s with link := f s.link }

/-- The coin unit changed. -/
def withCoins (f : Coins → Coins) (s : State) : State := { s with coins := f s.coins }

/-- The slot bus controller changed. -/
def withBus (f : Bus → Bus) (s : State) : State := { s with bus := f s.bus }

/-- The frame store changed. -/
def withFrame (f : FrameStore → FrameStore) (s : State) : State := { s with frame := f s.frame }

/-- The cabinet settings changed. -/
def withCabinet (f : Cabinet → Cabinet) (s : State) : State :=
  { s with profiles := { s.profiles with working := { s.profiles.working with cabinet := f s.cabinet } } }

/-- A slot's general profile section changed. -/
def withGeneral (n : Slot) (f : General → General) (s : State) : State :=
  s.setProfile n { s.profile n with general := f (s.profile n).general }

/-- The sound can fade: its gain is above 0 and the cabinet names a fade time. -/
def soundOn (s : State) : State := withCabinet (fun c => { c with audioFade := 300 }) s

/-- The buffer with one request in service. -/
def served (kind tag : Byte) (p : List Byte) : List Place := [⟨kind, tag, p, .inService⟩]

/-- A request is dispatched on any state whose link is the one after reset. -/
theorem turn_reset {kind tag : Byte} {p : List Byte} {s : State} (hp : s.powered = true) (ht : tag ≠ 0)
    (hl : s.link = r0.link) : Turn kind tag p s (served kind tag p) := by
  refine ⟨hp, ht, ?_⟩
  rw [hl]
  rfl

/-! ### Ill-formed commands are refused -/

theorem test_payload_of_201_bytes_refused {p : List Byte} (h : p.length = 201) : (Instr.ident 0 1 p).wellFormed = false := by
  simp [Instr.wellFormed, payloadFits, h]
theorem test_payload_of_200_bytes_fits {p : List Byte} (h : p.length = 200) : (Instr.ident 0 1 p).wellFormed = true := by
  simp [Instr.wellFormed, payloadFits, h]
theorem test_catalogue_kind_is_not_unknown : (Instr.unknownKind 0 0x1C 1 []).wellFormed = false := by decide
theorem test_kind_80h_is_no_request : (Instr.unknownKind 0 0x80 1 []).wellFormed = false := by decide
theorem test_kind_1Dh_is_unknown : (Instr.unknownKind 0 0x1D 1 []).wellFormed = true := by decide
theorem test_slot_power_on_with_byte_0_refused : (Instr.slotPowerOn 0 1 [1, 0]).wellFormed = false := by decide
theorem test_slot_power_off_with_byte_1_refused : (Instr.slotPowerOff 0 1 [1, 1]).wellFormed = false := by decide
theorem test_line_of_1025_changes_refused {v : List (Nat × RGB)} (h : v.length = 1025) : (Instr.lineSync 0 0 v).wellFormed = false := by
  simp [Instr.wellFormed, videoFits, h]
theorem test_section_named_twice_refused : (Instr.storeSaveEnd 0 [3, 3]).wellFormed = false := by decide
theorem test_loaded_section_named_twice_refused : (Instr.profileLoadEnd 0 true [0, 0]).wellFormed = false := by decide
theorem test_adapter_own_dip_cell_refused : (Instr.adapterPluggedIn 0 0 [(3, 1)]).wellFormed = false := by decide
theorem test_adapter_own_cell_twice_refused : (Instr.adapterPluggedIn 0 0 [(0, 1), (0, 2)]).wellFormed = false := by
  decide
theorem test_table_words_spell_no_command : decodeTableWord 8 0x41 = none := rfl

/-! ### Figures the manual works out -/

/-- Link chapter, Frame: SELECT of slot 5 with tag 17h has check byte DDh. -/
theorem test_select_frame_check : (0x01 + 0x06 + 0x17 + 0x05 + 0xDD) % 256 = 0 := by decide

/-- The reply to that SELECT, as the spec writes it out (SELECT layout). -/
theorem test_select_reply_frame :
    Reply.bytes ⟨0x06, 0x17, .accepted, [2, 5, 0xFF]⟩ = [0xA5, 0x04, 0x86, 0x17, 0x01, 0x02, 0x05, 0xFF, 0x58] := by
  decide

/-- The request's check character completes it: the request joins the receive buffer. -/
theorem test_select_frame_is_buffered :
    (ran (.characterReceived 0 (.whole 0xDD)) (withLink (fun l => { l with rx := .check 0x06 0x17 [0x05] }) r0)).map
      (fun t => t.link.buffer) = some [⟨0x06, 0x17, [0x05], .waiting⟩] := by decide

/-- R65: a difference of −95 ticks moves the reference by −5. -/
theorem test_reference_moves_by_minus_five : trackRef 456192 (456192 - 95) = 456192 - 5 := by decide

/-- R61: the tolerance at 456,192 ticks is 1,782. -/
theorem test_steady_up_to_1782_ticks :
    steady .low (456192 + 1782) 456192 = true ∧ steady .low (456192 + 1783) 456192 = false := by decide

/-- R177: the half flag is set on the step from 2,147,483,647 alone. -/
theorem test_half_flag_on_the_step_to_2_31 :
    (ran .playTimerExpiry (ownedBy (.slot 0) { r0 with
      router := { r0.router with playTimer := some 5 }
      counters := { r0.counters with table := r0.counters.table.put (playSeconds 0) ⟨2147483647, false, false⟩ } })).map
      (fun t => t.counter (playSeconds 0)) = some ⟨2147483648, true, false⟩ := by decide

/-- R16: READY after a power-up with memory lost is the frame being sent at reset; its bytes sum to 0. -/
theorem test_ready_frame_sums_to_0 : ((readyLostFrame.drop 1).map BitVec.toNat).sum % 256 = 0 := by decide

/-- R43: the pointer goes on from 255 to 16. -/
theorem test_pointer_wraps_to_16 : ((Adapter.mk (Tab.all 256 0) 255 []).perform .readOn).pointer = 16 := by decide

/-! ### Witnesses: concrete states and operands that meet a statement's hypotheses, clause by clause -/

/-- A command waits; none waits. -/
theorem witness_StepRunsFrontCommand :
    ({ r0 with pending := [.gapTimeout] } : State).pending = .gapTimeout :: [] ∧ r0.pending = [] := by decide

/-- A receiver in the assembly state given. -/
def receiving (rx : RxState) : State := withLink (fun l => { l with rx := rx }) r0

/-- `k` requests answered and not yet sent. -/
def answered (k : Nat) : List Place := List.replicate k ⟨0x02, 1, [], .answered⟩

theorem witness_ReceiverTakesCharacters :
    r0.powered = true ∧ r0.link.rx = .hunt ∧ (receiving .length).link.rx ≠ .hunt ∧ (receiving .length).link.rx = .length ∧
      (200 : Byte).toNat ≤ 200 ∧ 200 < (201 : Byte).toNat ∧ (receiving (.header 0 none)).link.rx = .header 0 none ∧
      (receiving (.header 0 (some 1))).link.rx = .header 0 (some 1) ∧
      (receiving (.payload 2 1 1 [7])).link.rx = .payload 2 1 1 [7] ∧
      (receiving (.check 1 1 [])).link.rx = .check 1 1 [] ∧
      (0 + (1 : Byte).toNat + (1 : Byte).toNat + 0 + (253 : Byte).toNat) % 256 ≠ 0 ∧
      (0 + (127 : Byte).toNat + (1 : Byte).toNat + 0 + (128 : Byte).toNat) % 256 = 0 ∧ (127 : Byte).toNat < 128 ∧
      (0 + (128 : Byte).toNat + (1 : Byte).toNat + 0 + (127 : Byte).toNat) % 256 = 0 ∧ 128 ≤ (128 : Byte).toNat ∧
      (answered 3).length < 4 ∧ 4 ≤ (answered 4).length := by decide

/-- A frame of the longest payload, its characters just within 20 ms, and a free place: 200 + 127 + 1 + 200·0 + 184 is
512. -/
theorem witness_ReceiverAssemblesEveryRequestFrame :
    539999 < 540000 ∧ r0.powered = true ∧ r0.link.rx = .hunt ∧ r0.link.buffer.length < 4 ∧ (List.replicate 200 (0 : Byte)).length ≤ 200 ∧
      (127 : Byte).toNat < 128 ∧
      ((List.replicate 200 (0 : Byte)).length + (127 : Byte).toNat + (1 : Byte).toNat
        + ((List.replicate 200 (0 : Byte)).map BitVec.toNat).sum + (184 : Byte).toNat) % 256 = 0 :=
  ⟨by decide, by decide, by decide, by decide, Nat.le_of_eq List.length_replicate, by decide, by
    rw [List.length_replicate, List.map_replicate, List.sum_replicate]; decide⟩

theorem witness_LinkErrorsAndTheGapTimeout :
    r0.link.mask.at 9 = true ∧ (withLink (fun l => { l with mask := Tab.all 11 false }) r0).link.mask.at 9 = false ∧
      (withLink (fun l => { l with gap := some 0 }) r0).link.gap = some 0 ∧ r0.link.gap = none ∧ r0.powered = true := by
  decide

/-- The transmitter idle, with the replies, notices and buffer given. -/
def idleLink (replies : List Reply) (notices : List Entry) (buffer : List Place) : State :=
  withLink (fun l => { l with sending := none, replies := replies, notices := notices, buffer := buffer }) r0

theorem witness_TransmitterTakesTurns :
    r0.link.sending = some (.notice readyLostFrame) ∧ (idleLink [⟨2, 1, .ok, []⟩] [] []).link.sending = none ∧
      (idleLink [⟨2, 1, .ok, []⟩] [] []).link.replies = [⟨2, 1, .ok, []⟩] ∧ (idleLink [] [⟨1, .menuCall true⟩] []).link.replies = [] ∧
      (idleLink [] [⟨1, .menuCall true⟩] []).link.notices = [⟨1, .menuCall true⟩] ∧ (idleLink [] [] []).link.notices = [] ∧
      (withLink (fun l => { l with sending := some (.reply [] false), buffer := answered 1 }) r0).link.sending =
        some (.reply [] false) ∧
      answered 1 = [] ++ ⟨0x02, 1, [], .answered⟩ :: [] ∧ r0.powered = true := by decide

/-- A request's turn has not come while a RESTART holds the link; the buffer then has a free place, or none. -/
theorem witness_RequestOutOfTurnIsBuffered :
    requestOf (.ident 0 1 []) = some (0, 0x01, 1, []) ∧ r0.powered = true ∧
      takeTurn 0x01 1 [] (withLink (fun l => { l with restartHeld := true, buffer := answered 3 }) r0).link = none ∧
      (answered 3).length < 4 ∧
      takeTurn 0x01 1 [] (withLink (fun l => { l with restartHeld := true, buffer := answered 4 }) r0).link = none ∧
      4 ≤ (answered 4).length := by decide

theorem witness_RequestsAreChecked :
    r0.powered = true ∧ takeTurn 0x7F 0 [] r0.link = some (served 0x7F 0 []) ∧ 0x1C < (0x1D : Byte).toNat ∧
      (0x7F : Byte).toNat < 0x80 ∧ requestOf (.ident 0 0 []) = some (0, 0x01, 0, []) ∧
      takeTurn 0x01 0 [] r0.link = some (served 0x01 0 []) ∧ requestLength 0x0C = some 47 ∧
      (List.replicate 46 (0 : Byte)).length ≠ 47 ∧
      takeTurn 0x0C 1 (List.replicate 46 0) r0.link = some (served 0x0C 1 (List.replicate 46 0)) := by decide

theorem witness_EventsCoalesceByKey :
    (withLink (fun l => { l with mask := Tab.all 11 false }) r0).link.mask.at (Notice.menuCall true).kind = false ∧
      r0.link.mask.at (Notice.menuCall true).kind = true ∧
      (∀ e ∈ r0.link.notices, e.notice.key ≠ (Notice.menuCall true).key) ∧
      (idleLink [] [⟨255, .menuCall false⟩] []).link.notices = [] ++ ⟨255, .menuCall false⟩ :: [] ∧
      (Notice.menuCall false).key = (Notice.menuCall true).key ∧
      (Notice.menuCall true).kind ≠ 0 ∧ (Notice.menuCall true).kind ≠ 6 ∧
      (([⟨3, true, false⟩, ⟨66, false, true⟩] : List FlagEntry).map FlagEntry.counter).Pairwise (· < ·) := by decide

/-- R10: the lists of two COUNTER events merge in counter index order, with both events' flags. -/
theorem test_counter_events_merge :
    coalesce (.counter [⟨3, true, false⟩, ⟨66, false, true⟩]) (.counter [⟨0, false, true⟩, ⟨3, false, true⟩]) =
      .counter [⟨0, false, true⟩, ⟨3, true, true⟩, ⟨66, false, true⟩] := by decide

theorem witness_NoticeMaskIsSet :
    Turn 0x1A 1 ((Tab.all 11 true).toList.map boolByte ++ [boolByte true]) r0
        (served 0x1A 1 ((Tab.all 11 true).toList.map boolByte ++ [boolByte true])) ∧
      Turn 0x1A 1 ((Tab.all 11 false).toList.map boolByte ++ [boolByte false]) r0
        (served 0x1A 1 ((Tab.all 11 false).toList.map boolByte ++ [boolByte false])) ∧
      (Tab.all 11 true).at 10 = true ∧ (Tab.all 11 false).at 10 = false :=
  ⟨turn_reset rfl (by decide) rfl, turn_reset rfl (by decide) rfl, by decide, by decide⟩

theorem witness_IdentAnswersTheIdentity : Turn 0x01 255 [] r0 (served 0x01 255 []) := turn_reset rfl (by decide) rfl

theorem witness_StateAnswersTheSnapshot : Turn 0x02 255 [] r0 (served 0x02 255 []) := turn_reset rfl (by decide) rfl

theorem witness_RestartStartsThePartAfresh :
    Turn 0x1B 1 [] r0 (served 0x1B 1 []) ∧
      (withLink (fun l => { l with sending := some (.reply [] true) }) r0).link.sending = some (.reply [] true) ∧
      r0.link.maskDefault.at 10 = true :=
  ⟨turn_reset rfl (by decide) rfl, by decide, by decide⟩

/-! #### Slots -/

theorem witness_SlotInfoAnswersTheRecord :
    Turn 0x03 1 [slotByte 7] r0 (served 0x03 1 [slotByte 7]) ∧ Turn 0x03 1 [9] r0 (served 0x03 1 [9]) ∧
      8 < (9 : Byte).toNat ∧ Turn 0x03 1 [0] r0 (served 0x03 1 [0]) :=
  ⟨turn_reset rfl (by decide) rfl, turn_reset rfl (by decide) rfl, by decide, turn_reset rfl (by decide) rfl⟩

theorem settled_reset (s : State) (h : s.co.record = none) (h' : s.reports = []) : Settled s := ⟨h, h'⟩

theorem apart_reset (n : Slot) (s : State) (h : s.router.owner = .link) (h' : s.router.claim = none) : Apart n s := by
  simp [Apart, h, h']

/-- The slot OFF with and without power-good, with and without a DIP apply set, and in the other states. -/
theorem witness_SlotPowerOnPowersTheSlot :
    (∀ st : SlotState, Turn 0x04 1 [slotByte 0, 1] (inState 0 st r0) (served 0x04 1 [slotByte 0, 1]) ∧
        Settled (inState 0 st r0) ∧ Apart 0 (inState 0 st r0)) ∧
      ((inState 0 .off r0).slot 0).state = .off ∧ ((inState 0 .off r0).slot 0).mismatch = false ∧
      ((inState 0 .empty r0).slot 0).state = .empty ∧ ((inState 0 .live r0).slot 0).state.supplied = true ∧
      (let s := inState 0 .off r0;
        ((s.setSlot 0 { s.slot 0 with mismatch := true }).slot 0).mismatch = true ∧
        ((s.setSlot 0 { s.slot 0 with powerGood := true }).slot 0).powerGood = true) ∧
      (((inState 0 .off r0).profile 0).dips.apply = false) :=
  ⟨fun st => ⟨turn_reset rfl (by decide) rfl, settled_reset _ rfl rfl, apart_reset _ _ rfl rfl⟩, by decide⟩

/-- The slot in every state, current, in the changeover, or apart from both. -/
theorem witness_SlotPowerOffAndRestart :
    (∀ st : SlotState, Turn 0x04 1 [slotByte 0, 0] (inState 0 st r0) (served 0x04 1 [slotByte 0, 0]) ∧
        Turn 0x05 1 [slotByte 0] (inState 0 st r0) (served 0x05 1 [slotByte 0]) ∧
        Settled (inState 0 st r0) ∧ Apart 0 (inState 0 st r0) ∧ (inState 0 st r0).co.current ≠ some 0 ∧
        ((inState 0 st r0).slot 0).state = st) ∧
      (withCurrent (some 0) (inState 0 .live r0)).co.current = some 0 ∧
      (∃ r, (inFlight (recordOf none (some 0) .wake) (inState 0 .booting r0)).co.record = some r ∧
        (r.source = some 0 ∨ r.target = some 0)) :=
  ⟨fun st => ⟨turn_reset rfl (by decide) rfl, turn_reset rfl (by decide) rfl, settled_reset _ rfl rfl,
    apart_reset _ _ rfl rfl, by cases st <;> decide, by cases st <;> decide⟩, by decide, ⟨_, rfl, by decide⟩⟩

/-- Slot 1 current and playing. -/
def playing (st : SlotState) : State := ownedBy (.slot 0) (withCurrent (some 0) (inState 0 st r0))

theorem witness_RestartOfTheCurrentBoardHoldsThePicture :
    (∀ st : SlotState, Turn 0x05 1 [slotByte 0] (playing st) (served 0x05 1 [slotByte 0]) ∧ Settled (playing st)) ∧
      (playing .live).co.current = some 0 ∧ ((playing .live).slot 0).state = .live ∧
      ((playing .frozen).slot 0).state = .frozen ∧ (playing .live).router.owner = .slot 0 :=
  ⟨fun st => ⟨turn_reset rfl (by decide) rfl, settled_reset _ rfl rfl⟩, by decide⟩

/-- A slot with its two windows running. -/
def windowed (st : SlotState) : State :=
  let s := inState 0 st r0
  s.setSlot 0 { s.slot 0 with pgWindow := some 5, bootWindow := some 5, runUp := true }

theorem witness_PowerGoodAndWindows :
    (∀ st : SlotState, Settled (windowed st) ∧ Apart 0 (windowed st) ∧ (windowed st).powered = true ∧
        ((windowed st).slot 0).state = st ∧ (windowed st).co.current ≠ some 0 ∧
        ((windowed st).slot 0).pgWindow = some 5 ∧ ((windowed st).slot 0).bootWindow = some 5) ∧
      (r0.slot 0).pgWindow = none ∧ (r0.slot 0).bootWindow = none ∧ ((windowed .powering).slot 0).runUp = true ∧
      ((windowed .powering).profile 0).dips.apply = false ∧ r0.link.mask.at 1 = true ∧
      ({ r0 with powered := false } : State).powered = false :=
  ⟨fun st => ⟨settled_reset _ rfl rfl, apart_reset _ _ rfl rfl, rfl, by cases st <;> decide, by cases st <;> decide,
    by cases st <;> decide, by cases st <;> decide⟩, by decide⟩

/-- The moves of R19, and a DIP apply that follows power-good. -/
theorem witness_PowerGoodAndWindows_moves :
    (∀ st : SlotState, ((inState 0 st r0).slot 0).lines = ((inState 0 st r0).slot 0).state.lines ∧
        ((inState 0 st r0).slot 0).state = st) ∧
      SlotState.off.supplied = false ∧ SlotState.live.supplied = true ∧
      (let s := (windowed .powering).setProfile 0 { (windowed .powering).profile 0 with dips := ⟨true, Tab.all 4 255⟩ };
        (s.slot 0).runUp = true ∧ (s.profile 0).dips.apply = true) :=
  ⟨fun st => by cases st <;> decide, by decide⟩

/-- R19: from FROZEN to HELD reset is asserted before clock-hold is released. -/
theorem test_frozen_to_held_asserts_reset_first :
    ((ran (.slotRestart 0 1 [1]) ((inState 0 .frozen r0).setProfile 0 { r0.profile 0 with dips := ⟨true, Tab.all 4 0⟩ })).map
      fun t => (t.slot 0).moves) = some [.reset .asserted, .clockHold .released] := by decide

/-! #### The bus -/

theorem witness_AdapterCellsAndPointer :
    (2 : Fin 256).val ≤ 2 ∧ 3 ≤ (3 : Fin 256).val ∧ (6 : Fin 256).val ≤ 6 ∧ 7 ≤ (7 : Fin 256).val ∧
      16 ≤ Adapter.blank.pointer.val ∧ (Adapter.mk (Tab.all 256 0) 255 []).pointer.val = 255 ∧
      ownCellsFit [(0, 9), (1, 3), (7, 1)] = true ∧ r0.powered = true := by decide

theorem witness_PassThroughRunsBegin :
    1 ≤ 1 ∧ 32 ≤ 32 ∧ (List.replicate 32 (7 : Word16)).length = 32 ∧ 16 ≤ (16 : Byte).toNat ∧ (15 : Byte).toNat + 1 ≤ 16 ∧
      (r0.bus.current = none → r0.bus.sequence = []) ∧ (r0.slot 0).state = .empty ∧
      ((inState 0 .off r0).slot 0).state ≠ .empty ∧ 3 ≤ (15 : Byte).toNat ∧
      takeTurn 0x18 1 [slotByte 0, 16, 32] r0.link = some (served 0x18 1 [slotByte 0, 16, 32]) ∧
      takeTurn 0x19 1 [slotByte 0, 15, 1, 7, 0] (inState 0 .off r0).link = some (served 0x19 1 [slotByte 0, 15, 1, 7, 0]) := by
  decide

/-- A pass-through run with one transaction to do. -/
def passThroughRun (begun : Bool) : LinkRun := ⟨0, [.readOn], 0, begun, [], true⟩

/-- What waits for the bus, in each of the arbiter's cases. -/
def awaiting (sequence : List ApplyRun) (run : Option LinkRun) (poll : Option Slot) : State :=
  withBus (fun b => { b with sequence := sequence, linkRun := run, waitingPoll := poll }) r0

theorem witness_PassThroughRunsBegin_arbiter :
    (passThroughRun false).todo = [.readOn] ∧ (passThroughRun true).begun = true ∧ (passThroughRun false).begun = false ∧
      (withBus (fun b => { b with current := some ⟨0, .readOn, .link, 0, false⟩ }) r0).bus.current ≠ none ∧
      (let s := awaiting [⟨0, [.read 3], Tab.all 4 0⟩] (some (passThroughRun true)) (some 7);
        s.bus.current = none ∧ s.bus.sequence = [⟨0, [.read 3], Tab.all 4 0⟩]) ∧
      (let s := awaiting [] (some (passThroughRun true)) (some 7);
        s.bus.current = none ∧ s.bus.sequence = [] ∧ s.bus.waitingPoll = some 7 ∧
        s.bus.linkRun = some (passThroughRun true)) ∧
      (let s := awaiting [] none (some 7); s.bus.waitingPoll = some 7 ∧ s.bus.linkRun = none) ∧
      (awaiting [] none none).bus.waitingPoll = none := by decide

/-- R46: a begun run lets a waiting poll through, one that has not begun goes before it. -/
theorem test_poll_inside_a_begun_run :
    (arbitrate (awaiting [] (some (passThroughRun true)) (some 7))).bus.current = some ⟨7, .read 0, .poll, 0, false⟩ ∧
      (arbitrate (awaiting [] (some (passThroughRun false)) (some 7))).bus.current = some ⟨0, .readOn, .link, 0, false⟩ := by
  decide

/-- A pass-through transaction in progress, the request in service behind an answered one. -/
def passThrough (todo : List BusOp) : State :=
  withLink (fun l => { l with buffer := answered 1 ++ [⟨0x18, 1, [1, 20, 2], .inService⟩] }) (withBus (fun b => { b with
    current := some ⟨0, .readOn, .link, 0, false⟩, linkRun := some ⟨0, todo, 1, true, [], true⟩ }) r0)

theorem witness_PassThroughTransactionsEnd :
    Settled (passThrough [.readOn]) ∧ Settled (passThrough []) ∧ (passThrough []).powered = true ∧
      (passThrough []).bus.current = some ⟨0, .readOn, .link, 0, false⟩ ∧
      (passThrough [.readOn]).bus.linkRun = some ⟨0, [.readOn], 1, true, [], true⟩ ∧ (passThrough []).bus.sequence = [] ∧
      (passThrough []).bus.waitingPoll = none ∧ BusOp.readOn ≠ .read 2 ∧
      (passThrough []).link.buffer.find? (fun x => x.stage == .inService) = some ⟨0x18, 1, [1, 20, 2], .inService⟩ :=
  ⟨settled_reset _ rfl rfl, settled_reset _ rfl rfl, by decide⟩

/-- A poll's transaction in progress. -/
def polling (t : Option Transaction) (misses : Nat) (s : State) : State :=
  withBus (fun b => { b with current := t, misses := b.misses.put 0 misses }) s

theorem witness_PollsJudgePresence :
    Settled r0 ∧ Apart 0 r0 ∧ Settled (polling (some ⟨0, .read 0, .poll, 0, false⟩) 1 (inState 0 .off r0)) ∧
      Apart 0 (polling (some ⟨0, .read 0, .poll, 0, false⟩) 1 (inState 0 .off r0)) ∧
      r0.powered = true ∧ r0.bus.sequence = [] ∧ r0.bus.linkRun = none ∧ r0.bus.waitingPoll = none ∧
      r0.bus.pollTimer = some 337500 ∧ r0.bus.current = none ∧
      (polling (some ⟨0, .read 0, .poll, 0, false⟩) 0 r0).bus.misses.at 0 = 0 ∧
      (let s := polling (some ⟨0, .read 0, .poll, 0, false⟩) 1 (inState 0 .off r0);
        1 ≤ s.bus.misses.at 0 ∧ s.bus.views.at 0 ≠ .absent ∧ (s.slot 0).state = .off ∧ s.co.current ≠ some 0 ∧
        s.queue 0 = []) ∧
      (let s := r0.setSlot 0 { r0.slot 0 with autoPending := false };
        (s.slot 0).state = .empty ∧ (s.slot 0).autoPending = false) :=
  ⟨settled_reset _ rfl rfl, apart_reset _ _ rfl rfl, settled_reset _ rfl rfl, apart_reset _ _ rfl rfl, by decide⟩

/-- Slot 1's adapter with values in cells 0, 1 and 2. -/
def holding (kind revision status : Word16) (s : State) : State :=
  s.setAdapter 0 { s.adapter 0 with cells := (((s.adapter 0).cells.put 0 kind).put 1 revision).put 2 status }

/-- A poll in its last read, having read kind 5, with the slot's record given. -/
def identifying (st : SlotState) (kind : Nat) (loaded : Bool) : State :=
  let s := polling (some ⟨0, .read 2, .pollStatus 5 1, 0, false⟩) 0 (inState 0 st r0)
  let s := { s with profiles := { s.profiles with loaded := loaded } }
  s.setSlot 0 { s.slot 0 with kind := kind }

/-- Cell 0 at 0, 1, 255 and 256; a routine poll; a miss of a slot told ABSENT and of an EMPTY one never told; the later
reads; a kind change, a confirmation, and auto power with power-good low and high, the profile's flag set and clear. -/
theorem witness_PollsJudgePresence_reads :
    (let t : Transaction := ⟨0, .read 0, .poll, 0, false⟩;
      (∀ v : Word16, (polling (some t) 1 (holding v 1 2 r0)).bus.current = some t ∧
        Settled (polling (some t) 1 (holding v 1 2 r0))) ∧
      (((polling (some t) 1 (holding 256 1 2 r0)).adapter 0).cells.at 0).toNat = 256 ∧
      (let s := withBus (fun b => { b with views := b.views.put 0 .answering })
          (polling (some t) 1 (holding 1 1 2 ((inState 0 .off r0).setSlot 0 { (inState 0 .off r0).slot 0 with kind := 1 })));
        s.bus.views.at 0 = .answering ∧ (s.slot 0).state ≠ .empty ∧ ((s.adapter 0).cells.at 0).toNat = (s.slot 0).kind) ∧
      (let s := polling (some t) 1 r0;
        1 ≤ s.bus.misses.at 0 ∧ s.bus.views.at 0 = .unconfirmed ∧ (s.slot 0).state = .empty) ∧
      (withBus (fun b => { b with views := b.views.put 0 .absent }) (polling (some t) 2 r0)).bus.views.at 0 = .absent) ∧
      (polling (some ⟨0, .read 1, .pollRevision 5, 0, false⟩) 0 r0).bus.current =
        some ⟨0, .read 1, .pollRevision 5, 0, false⟩ ∧
      (∀ st k l, Settled (identifying st k l) ∧ Apart 0 (identifying st k l) ∧ (identifying st k l).co.current ≠ some 0 ∧
        (identifying st k l).bus.current = some ⟨0, .read 2, .pollStatus 5 1, 0, false⟩) ∧
      (((identifying .live 3 true).slot 0).state ≠ .empty ∧ 5 ≠ ((identifying .live 3 true).slot 0).kind ∧
        ((identifying .live 3 true).slot 0).state.supplied = true) ∧
      (((identifying .off 5 true).slot 0).kind = 5 ∧ (identifying .off 5 true).bus.views.at 0 = .unconfirmed ∧
        ((identifying .off 5 true).slot 0).autoPending = true ∧ (identifying .off 5 false).profiles.loaded = false ∧
        ((identifying .off 5 true).slot 0).mismatch = false ∧ ((identifying .off 5 true).slot 0).powerGood = false ∧
        ((identifying .off 5 true).profile 0).general.expectedKind = 0 ∧
        ((identifying .off 5 true).profile 0).general.autoPower = false ∧
        (withGeneral 0 (fun g => { g with autoPower := true }) (identifying .off 5 true) |>.profile 0).general.autoPower =
          true) := by
  refine ⟨⟨fun v => ⟨rfl, settled_reset _ rfl rfl⟩, by decide, by decide, by decide, by decide⟩, by decide,
    fun _ _ _ => ⟨settled_reset _ rfl rfl, apart_reset _ _ rfl rfl,
      fun h => (nomatch (show (none : Option Slot) = some 0 from h)), rfl⟩,
    by decide, by decide⟩

/-- R32: a first PRESENT after a load powers a slot whose profile has auto power. -/
theorem test_auto_power_at_the_first_verdict :
    (ran (.transactionAnswered (.good none))
      (withGeneral 0 (fun g => { g with autoPower := true }) (holding 5 1 9 (identifying .empty 0 true)))).map
        (fun t => ((t.slot 0).state, (t.slot 0).kind, (t.slot 0).status)) = some (.powering, 5, 9) := by decide

/-- The last transaction of a DIP apply in progress; cell 6 of the adapter holds 0. -/
def applyEnding (d : Byte) : State :=
  withBus (fun b => { b with current := some ⟨0, .read 6, .sequence, 0, false⟩, sequence := [⟨0, [], Tab.all 4 d⟩] })
    (inState 0 .held r0)

theorem witness_DipApplyEnds :
    Settled (applyEnding 0) ∧ Apart 0 (applyEnding 0) ∧ (applyEnding 0).powered = true ∧
      (applyEnding 0).bus.current = some ⟨0, .read 6, .sequence, 0, false⟩ ∧
      (applyEnding 0).bus.sequence = [⟨0, [], Tab.all 4 0⟩] ∧ (applyEnding 0).bus.linkRun = none ∧
      (applyEnding 0).bus.waitingPoll = none ∧ ((applyEnding 0).slot 0).state = .held ∧
      (applyEnding 0).co.current ≠ some 0 ∧
      ((applyEnding 0).adapter 0).cells.at 6 = ((Tab.all 4 (0 : Byte)).at 3).setWidth 16 ∧
      ((applyEnding 1).adapter 0).cells.at 6 ≠ ((Tab.all 4 (1 : Byte)).at 3).setWidth 16 :=
  ⟨settled_reset _ rfl rfl, apart_reset _ _ rfl rfl, by decide⟩

/-- A DIP apply of banks 7 with a transaction on the bus, the adapter's DIP cells at 7 in the low byte. -/
def applying (op : BusOp) (todo : List BusOp) (v : Word16) : State :=
  let s := withBus (fun b => { b with
    current := some ⟨0, op, .sequence, 0, false⟩, sequence := [⟨0, todo, Tab.all 4 7⟩] }) (inState 0 .held r0)
  s.setAdapter 0 { s.adapter 0 with cells := (s.adapter 0).cells.put 3 v }

/-- A hand-over on an idle bus and on a busy one; a write and a read answered well, and a read that differs. -/
theorem witness_DipApplyEnds_run :
    (∀ (op : BusOp) (todo : List BusOp) (v : Word16), Settled (applying op todo v) ∧ Apart 0 (applying op todo v) ∧
        (applying op todo v).bus.sequence = [⟨0, todo, Tab.all 4 7⟩] ∧
        (applying op todo v).bus.current = some ⟨0, op, .sequence, 0, false⟩ ∧
        (applying op todo v).bus.linkRun = none ∧ (applying op todo v).bus.waitingPoll = none ∧
        (applying op todo v).powered = true) ∧
      r0.bus.current = none ∧ r0.bus.sequence.filter (fun r => r.slot != 0) = [] ∧
      (let s := applying (.read 3) [.read 4] 7;
        (s.adapter 0).cells.at 3 = ((Tab.all 4 (7 : Byte)).at 0).setWidth 16 ∧ (s.slot 0).state = .held ∧
        s.co.current ≠ some 0 ∧ s.link.mask.at 1 = true) ∧
      ((applying (.read 3) [.read 4] 0x0107).adapter 0).cells.at 3 ≠ ((Tab.all 4 (7 : Byte)).at 0).setWidth 16 :=
  ⟨fun _ _ _ => ⟨settled_reset _ rfl rfl, apart_reset _ _ rfl rfl, rfl, rfl, rfl, rfl, rfl⟩, by decide, by decide,
    by decide, by decide⟩

/-! #### Sync monitors -/

theorem witness_TimingAnswersTheRecord :
    Turn 0x08 1 [BitVec.ofNat 8 ((8 : Source).val + 1)] r0 (served 0x08 1 [BitVec.ofNat 8 ((8 : Source).val + 1)]) ∧
      Turn 0x08 1 [10] r0 (served 0x08 1 [10]) ∧ 9 < (10 : Byte).toNat ∧ Turn 0x08 1 [0] r0 (served 0x08 1 [0]) :=
  ⟨turn_reset rfl (by decide) rfl, turn_reset rfl (by decide) rfl, by decide, turn_reset rfl (by decide) rfl⟩

theorem witness_MonitorFiguresFollowTheRules :
    0 < 337500 ∧ GoodPeriod 337500 ∧ GoodPeriod 675000 ∧ classOf 14500 = .low ∧ classOf 26500 = .medium ∧
      classOf 32500 = .high ∧ classOf 32501 = .outOfClass := by
  refine ⟨by decide, ⟨by decide, by decide⟩, ⟨by decide, by decide⟩, by decide, by decide, by decide, by decide⟩

/-- Slot 1's monitor as given, the part at the moment 1,000,000. -/
def monitored (f : Monitor → Monitor) : State :=
  let s := { r0 with now := 1000000 }
  s.setMonitor 0 (f { s.monitor 0 with taking := true })

/-- A field of 262 lines open since 449,592 ticks before. -/
def openField : Option OpenField := some ⟨1000000 - 449592, 262⟩

theorem witness_VerticalSyncJudgesTheField :
    Settled r0 ∧ r0.powered = true ∧ r0.co.current ≠ some 0 ∧ r0.frame.writer ≠ some 0 ∧
      (∀ b, (r0.buffer b).state = .filling → (r0.buffer b).source ≠ some 0) ∧ (r0.monitor 0).taking = false ∧
      ((monitored id).monitor 0).taking = true ∧ ((monitored id).monitor 0).field = none ∧
      fieldAccepted 449592 262 = true ∧ fieldAccepted 337499 262 = false ∧ fieldAccepted 337500 200 = true ∧
      fieldAccepted 675000 700 = true ∧ fieldAccepted 675000 701 = false ∧ r0.link.mask.at 2 = true ∧
      ((monitored fun m => { m with field := openField }).monitor 0).field = some ⟨1000000 - 449592, 262⟩ ∧
      classOf (lineRateOf 449592 262) = .low ∧ steady .low 449592 449592 = true ∧
      (let m := (monitored fun m => { m with
          field := openField, state := .seeking, run := 3, runSum := 1348776, reference := some 449592, cls := .low }).monitor 0;
        m.state = .seeking ∧ m.run = 3 ∧ m.cls = .low ∧ m.reference.getD 0 = 449592) ∧
      (let m := (monitored fun m => { m with
          field := openField, state := .locked, fref := some 449592, lref := some 262, cls := .low }).monitor 0;
        m.state = .locked ∧ m.cls = .low ∧ m.fref = some 449592) ∧
      (let m := (monitored fun m => { m with
          field := openField, state := .weak, fref := some 460000, lref := some 262, cls := .low, unsteady := 2 }).monitor 0;
        m.state = .weak ∧ m.fref = some 460000 ∧ steady .low 449592 460000 = false ∧ 2 ≤ m.unsteady) ∧
      (let m := (monitored fun m => { m with
          field := openField, state := .locked, fref := some 449592, lref := some 416, cls := .medium }).monitor 0;
        m.state = .locked ∧ m.unsteady < 2 ∧ m.cls ≠ classOf (lineRateOf 449592 262)) ∧
      (let m := (monitored fun m => { m with
          field := openField, state := .seeking, run := 2, reference := some 460000, cls := .low }).monitor 0;
        m.state = .seeking ∧ m.run < 3 ∧ steady .low 449592 (m.reference.getD 0) = false) ∧
      (∀ n : Slot, n.source ≠ 8) ∧ (r0.monitor 8).taking = true :=
  ⟨settled_reset _ rfl rfl, by decide⟩

/-- Buffer 1 filling from slot 1 under a window of two lines from line 16. -/
def filling (s : State) : State :=
  s.setBuffer 0 { s.buffer 0 with state := .filling, source := some 0, window := ⟨432, 16, 2, 0, 2⟩ }

theorem witness_LineSyncCountsAndCaptures :
    (r0.monitor 0).taking = false ∧
      (let s := filling (monitored fun m => { m with field := some ⟨5, 16⟩ });
        s.powered = true ∧ (s.monitor 0).taking = true ∧ (s.monitor 0).field = some ⟨5, 16⟩ ∧
        (s.buffer 0).state = .filling ∧ (∀ c, (s.buffer c).state = .filling → c = 0) ∧
        (s.buffer 0).source.map Slot.source = some 0 ∧ (s.buffer 0).window.firstLine ≤ 16) ∧
      (let s := monitored fun m => { m with field := some ⟨5, 701⟩ };
        ∀ b, (s.buffer b).state = .filling → (s.buffer b).source.map Slot.source ≠ some 0) := by decide

/-- Buffers in the states given, slot 1's, with sequence numbers 65,535, 0 and 1, and the writer on slot 1. -/
def buffered (a b c : BufState) : State :=
  let put (i : Fin 3) (st : BufState) (q : Word16) (s : State) : State :=
    s.setBuffer i { s.buffer i with state := st, source := some 0, seq := some q }
  put 0 a 65535 (put 1 b 0 (put 2 c 1
    (withFrame (fun f => { f with writer := some 0, window := some ⟨432, 16, 2, 0, 2⟩ }) r0)))

/-- An opening with a FREE buffer, with none, and with one FILLING; a closing, abandoned and not; a slot not current. -/
theorem witness_LineSyncCountsAndCaptures_capture :
    (let s := buffered .showing .free .ready;
      s.frame.writer = some 0 ∧ s.frame.window = some ⟨432, 16, 2, 0, 2⟩ ∧ (∀ b, (s.buffer b).state ≠ .filling) ∧
      (s.buffer 1).state = .free ∧ ∀ c : Fin 3, c < 1 → (s.buffer c).state ≠ .free) ∧
      (let s := buffered .ready .showing .ready;
        (∀ c, (s.buffer c).state ≠ .free) ∧ (s.buffer 0).state = .ready ∧ (s.buffer 0).seq = some 65535 ∧
        (s.buffer 2).seq = some 1 ∧ 1 ≤ ((1 : Word16) - 65535).toNat ∧ ((1 : Word16) - 65535).toNat ≤ 32767) ∧
      (let s := buffered .filling .free .ready;
        (s.buffer 0).state = .filling ∧ (∀ c, (s.buffer c).state = .filling → c = 0) ∧ (s.buffer 0).source = some 0 ∧
        (s.buffer 0).abandoned = false ∧
        ((s.setBuffer 0 { s.buffer 0 with abandoned := true }).buffer 0).abandoned = true) ∧
      (let s := monitored fun m => { m with field := openField };
        s.powered = true ∧ s.co.current ≠ some 0 ∧ (s.monitor (0 : Slot).source).taking = true ∧ s.reports = [] ∧
        s.co.record = none) := by decide

/-- R104: the signature is the CRC-16 with generator 1021h from FFFFh without inversion, whose known value over the nine
bytes "123456789" is 29B1h. -/
theorem test_signature_of_the_check_string :
    signatureOf [[⟨0x31, 0x32, 0x33⟩, ⟨0x34, 0x35, 0x36⟩, ⟨0x37, 0x38, 0x39⟩]] = 0x29B1 := by decide +kernel

/-- R105: a line of 432 parts of H = 1,716 ticks, two samples from position 1: they are taken at 1,716/432 = 3 + 420/432
and 3,432/432 = 7 + 408/432 ticks, 4,067.5… and 8,135.1… in 1,024ths, so a change at 4,067 counts for the first and one
at 4,068 for the second alone. -/
theorem test_samples_are_taken_at_p_H_over_S :
    captureSamples ⟨432, 16, 2, 1, 2⟩ (some 1716) [(4067, ⟨1, 1, 1⟩), (4068, ⟨2, 2, 2⟩)] = [⟨1, 1, 1⟩, ⟨2, 2, 2⟩] ∧
      captureSamples ⟨432, 16, 2, 431, 2⟩ (some 1716) [(0, ⟨1, 1, 1⟩)] = [⟨1, 1, 1⟩, ⟨0, 0, 0⟩] ∧
      captureSamples ⟨432, 16, 2, 1, 2⟩ none [(0, ⟨1, 1, 1⟩)] = [⟨0, 0, 0⟩, ⟨0, 0, 0⟩] := by decide

theorem witness_MonitorTimersExpire :
    Settled r0 ∧ r0.powered = true ∧ r0.co.current ≠ some 0 ∧ (r0.monitor 0).field = none ∧ (r0.monitor 0).timer = none ∧
      r0.link.mask.at 2 = true ∧
      (let s := filling (monitored fun m => { m with
          field := some ⟨5, 16⟩, state := .locked, timer := some ⟨.first, 0, 7⟩ });
        (s.monitor 0).field = some ⟨5, 16⟩ ∧ (s.monitor 0).timer = some ⟨.first, 0, 7⟩ ∧ (s.monitor 0).state = .locked ∧
        (s.buffer 0).source = some 0) ∧
      (let m := (monitored fun m => { m with state := .seeking, timer := some ⟨.seek, 0, 7⟩ }).monitor 0;
        m.timer = some ⟨.seek, 0, 7⟩ ∧ m.state ≠ .dark) ∧
      (let m := (monitored fun m => { m with state := .weak, timer := some ⟨.second, 0, 7⟩ }).monitor 0;
        m.timer = some ⟨.second, 0, 7⟩ ∧ m.state ≠ .dark) ∧
      (let m := (monitored fun m => { m with state := .weak, timer := some ⟨.first, 0, 7⟩ }).monitor 0;
        m.timer = some ⟨.first, 0, 7⟩ ∧ m.state = .weak) ∧ (∀ n : Slot, n.source ≠ 8) :=
  ⟨settled_reset _ rfl rfl, by decide⟩

/-! #### Changeover -/

/-- Slot 1 current with its sound up. -/
def sounding : State := soundOn (withCurrent (some 0) (inState 0 .live r0))

theorem witness_ChangeoverStartsInQuiesce :
    sounding.co.current = some 0 ∧ sounding.cabinet.audioFade ≠ 0 ∧ sounding.snd.gain ≠ 0 ∧
      sounding.cabinet.videoFade ≠ 0 ∧ sounding.pic.level ≠ 0 ∧ sounding.cabinet.holdStyle = false ∧
      r0.co.current = none ∧ (withCabinet (fun c => { c with holdStyle := true }) r0).cabinet.holdStyle = true := by decide

/-- No load in flight. -/
def loadDone (s : State) : State := { s with profiles := { s.profiles with loading := false } }

theorem witness_SelectStartsOrQueuesAChangeover :
    (∀ (n : Option Slot) (s : State), s.powered = true → s.link = r0.link →
        Turn 0x06 1 [slotCode n] s (served 0x06 1 [slotCode n])) ∧
      r0.profiles.loading = true ∧ (loadDone sounding).profiles.loading = false ∧ (loadDone r0).co.record = none ∧
      ((loadDone r0).slot 1).state = .empty ∧
      (let s := withGeneral 1 (fun g => { g with expectedKind := 7 }) (loadDone (inState 1 .off sounding));
        (s.slot 1).state ≠ .empty ∧ (s.slot 1).state ≠ .fault ∧ (s.profile 1).general.expectedKind ≠ 0 ∧
        (s.profile 1).general.expectedKind ≠ (s.slot 1).kind) ∧
      (loadDone (inState 1 .off sounding)).co.current = some 0 ∧
      ((loadDone (inState 1 .off sounding)).profile 1).general.expectedKind = 0 ∧
      (loadDone (inFlight (recordOf (some 0) (some 1) .wake) sounding)).co.record = some (recordOf (some 0) (some 1) .wake) ∧
      (let s := loadDone (inState 0 .off r0);
        s.co.record = none ∧ s.co.pending = none ∧ s.co.current = none ∧ (s.slot 0).state = .off ∧
        (s.slot 0).mismatch = false ∧ (s.slot 0).powerGood = false ∧ (s.profile 0).general.expectedKind = 0) ∧
      (let s := loadDone (inState 0 .live r0);
        (s.slot 0).state = .live ∧ (s.monitor (0 : Slot).source).state ≠ .locked) ∧ 8 < (9 : Byte).toNat ∧
      Turn 0x06 1 [9] r0 (served 0x06 1 [9]) :=
  ⟨fun _ _ hp hl => turn_reset hp (by decide) hl, by decide, by decide, by decide, by decide, by decide, by decide,
    by decide, by decide, by decide, by decide, by decide, turn_reset rfl (by decide) rfl⟩

/-- R79: a seventh tag discards the oldest; with five there is room. -/
theorem witness_SelectStartsOrQueuesAChangeover_tags :
    (9 : Byte) ≠ 0 ∧ (TagList.mk [1, 2, 3, 4, 5] false).tags.length < 6 ∧
      (TagList.mk [1, 2, 3, 4, 5, 6] false).tags.length = 6 := by decide

theorem witness_AbortGoesToStandby :
    (∀ p : Phase, Turn 0x07 1 [] (inFlight (recordOf (some 0) (some 1) p) sounding) (served 0x07 1 [])) ∧
      r0.co.record = none ∧ Turn 0x07 1 [] r0 (served 0x07 1 []) ∧ sounding.co.current ≠ none ∧
      sounding.cabinet.audioFade ≠ 0 ∧ sounding.snd.gain ≠ 0 ∧ sounding.link.mask.at 0 = true ∧
      (∀ e ∈ sounding.link.notices, e.notice.kind ≠ 0) ∧ sounding.link.mask.at 1 = true ∧
      ((park 0 (withGeneral 0 (fun g => { g with standing := .hold }) sounding)).slot 0).state ≠ (sounding.slot 0).state ∧
      ((park 0 (withGeneral 0 (fun g => { g with standing := .run }) sounding)).slot 0).state = (sounding.slot 0).state ∧
      (∀ st : SlotState, ((inState 0 st r0).slot 0).state = st) ∧ (r0.slot 0).applying = false ∧
      (r0.slot 0).mismatch = false ∧ (r0.slot 0).powerGood = false ∧ (r0.profile 0).dips.apply = false :=
  ⟨fun _ => turn_reset rfl (by decide) rfl, by decide, turn_reset rfl (by decide) rfl, by decide, by decide, by decide,
    by decide, by decide, by decide, by decide, by decide, fun st => by cases st <;> decide, by decide⟩

theorem witness_FailureStartsTheNextChangeover :
    (let s := inFlight (recordOf (some 0) (some 1) .wake) sounding;
      s.co.record = some (recordOf (some 0) (some 1) .wake) ∧ s.counters.freeze = false ∧ s.link.mask.at 0 = true ∧
      s.co.pending = none) ∧
      OwnerSound (inFlight (recordOf (some 0) (some 1) .wake) sounding) ∧
      ({ sounding with co := { sounding.co with pending := some ⟨none, 3⟩ } } : State).co.pending = some ⟨none, 3⟩ := by
  exact ⟨by decide, ⟨fun n h => (nomatch (show Owner.link = .slot n from h)),
    fun n h => (nomatch (show (none : Option Slot) = some n from h))⟩, by decide⟩

/-- Slot 2's monitor LOCKED at the home class, with the lock limit of the record given. -/
def lockedOn (s : State) : State :=
  s.setMonitor 1 { s.monitor 1 with state := .locked, cls := .low, fref := some 449592, lref := some 262 }

/-- The phases' ends: an acceptable and an unacceptable signal, the check, the tie at the limit's moment, a pending
target, fades running and ended, a settle, a READY buffer, and each way a recovery limit and the owner may stand. -/
theorem witness_FailureStartsTheNextChangeover_phases :
    (sounding.co.pending = none ∧ (sounding.monitor (1 : Slot).source).state ≠ .locked ∧ decision 1 sounding = none) ∧
      ((decision 1 (lockedOn sounding)).isSome = true ∧ (recordOf none none .lock).lockLimit = some 100 ∧
        sounding.now < 100 ∧ ¬({ sounding with now := 100 } : State).now < 100 ∧
        (recordOf none none .lock).checkApplies = false ∧
        ({ recordOf none none .lock with checkApplies := true } : Record).checkApplies = true) ∧
      (∀ p : Phase, (inFlight (recordOf (some 0) (some 1) p) sounding).co.record = some (recordOf (some 0) (some 1) p) ∧
        (recordOf (some 0) (some 1) p).phase = p) ∧
      (sounding.snd.fade = none ∧ sounding.pic.fade = none ∧
        ({ sounding.snd with fade := some ⟨false, 300, 256, 0, 0⟩ } : Mixer).fade ≠ none) ∧
      (sounding.out.settle = none ∧ ({ sounding.out with settle := some 5 } : Output).settle ≠ none ∧
        (let s := sounding.setBuffer 0 { sounding.buffer 0 with state := .ready, source := some 1 };
          (s.buffer 0).state = .ready ∧ (s.buffer 0).source = some 1)) ∧
      ((sounding.slot 1).state ≠ .live ∧ (sounding.slot 1).state ≠ .frozen) ∧
      (decisionFor none sounding = some ⟨false, .low, none, false⟩ ∧
        needsRetime ⟨false, .low, none, false⟩ sounding = false ∧
        needsRetime ⟨false, .high, none, false⟩ sounding = true ∧ sounding.pic.dimmed = false ∧
        sounding.link.mask.at 8 = true) ∧
      (decisionFor (some 1) (lockedOn (withCabinet (fun c => { c with
          multisync := true, followMin := 4000, followMax := 8000 }) (sounding.setProfile 1 { sounding.profile 1 with
            picture := { (sounding.profile 1).picture with follow := true } }))) = some ⟨true, .low, some 1, false⟩) ∧
      ((sounding.monitor (1 : Slot).source).state = .dark ∧ (lockedOn sounding |>.monitor (1 : Slot).source).state = .locked ∧
        (withGeneral 1 (fun g => { g with recoveryLimit := 0 }) sounding |>.profile 1).general.recoveryLimit = 0 ∧
        (withGeneral 1 (fun g => { g with recoveryLimit := 1 }) sounding |>.profile 1).general.recoveryLimit ≠ 0 ∧
        sounding.router.linkHold = false ∧ ({ sounding.router with linkHold := true } : Router).linkHold = true ∧
        ((inState 1 .live sounding).slot 1).state = .live) := by
  refine ⟨by decide, by decide, fun p => by cases p <;> decide, by decide, by decide, by decide, by decide, by decide,
    by decide⟩

/-- The end of QUIESCE with a pulse in ON and without one, the bank below its top and at it, a target pending or not. -/
theorem witness_FailureStartsTheNextChangeover_quiesce :
    (let s := sounding.setGenerator 0 (.on 2 900 54);
      s.generator 0 = .on 2 900 54 ∧ s.coins.bank < 65535 ∧ s.co.pending = none ∧
      (recordOf (some 0) (some 1) .quiesce).source = some 0) ∧
      65535 ≤ (withCoins (fun c => { c with bank := 65535 }) sounding).coins.bank ∧ sounding.generator 0 = .idle ∧
      (recordOf (some 0) (some 1) .quiesce).holdStyle = false ∧
      ({ recordOf (some 0) (some 1) .quiesce with holdStyle := true } : Record).holdStyle = true := by decide

/-- R84: a lock taken first at the limit's own moment stops the timer; one taken before it lets the timer run. -/
theorem test_lock_at_the_limits_moment_stops_the_timer :
    limitAfterLock (recordOf none none .lock) { r0 with now := 100 } = none ∧
      limitAfterLock (recordOf none none .lock) { r0 with now := 99 } = some 100 := by decide

theorem witness_LockLimitAndRecoveryWatchExpire :
    (let s := inFlight (recordOf (some 0) (some 1) .lock) sounding;
      s.powered = true ∧ s.co.record = some (recordOf (some 0) (some 1) .lock) ∧
      (recordOf (some 0) (some 1) .lock).lockLimit = some 100) ∧
      ({ recordOf none none .retime with lockLimit := none } : Record).lockLimit = none ∧
      (let s := { sounding with co := { sounding.co with watch := .running 9 } };
        s.co.record = none ∧ s.co.watch = .running 9 ∧ s.co.current = some 0 ∧ s.cabinet.audioFade ≠ 0 ∧ s.snd.gain ≠ 0) ∧
      r0.co.watch = .stopped := by decide

/-- Slot 1 current and FROZEN by a pause, the host holding the controls. -/
def paused : State :=
  let s := withCurrent (some 0) (inState 0 .frozen r0)
  s.setSlot 0 { s.slot 0 with paused := true }

/-- The paused slot's monitor LOCKED on a signal that fits the present output. -/
def pausedFitting : State :=
  paused.setMonitor 0 { paused.monitor 0 with state := .locked, cls := .low, fref := some 449592, lref := some 262 }

/-- Reports of `to` in each phase, and of the current board running, paused, lost and back. -/
theorem witness_LockLimitAndRecoveryWatchExpire_reports :
    (∀ p : Phase, (inFlight (recordOf (some 0) (some 1) p) sounding).co.record = some (recordOf (some 0) (some 1) p) ∧
        (recordOf (some 0) (some 1) p).target = some 1 ∧ (recordOf (some 0) (some 1) p).phase = p) ∧
      (recordOf none none .lock).lockSeen = false ∧ (recordOf none none .reveal).sawSeeking = false ∧
      (let r := { recordOf (some 0) (some 1) .lock with checkApplies := true, lockSeen := true };
        let s := inFlight r (withFrame (fun f => { f with writer := some 1 }) (lockedOn sounding));
        s.co.record = some r ∧ r.checkApplies = true ∧ r.lockSeen = true ∧ s.frame.writer = some 1 ∧ s.co.pending = none ∧
        (decision 1 s).isSome = true ∧ (s.slot 1).parkedSig ≠ some 7) ∧
      (fits 1 (lockedOn sounding) = true ∧ fits 1 sounding = false) ∧
      (sounding.co.record = none ∧ sounding.co.current = some 0 ∧ isPaused 0 sounding = false ∧
        isPaused 0 paused = true ∧ paused.co.current = some 0 ∧ sounding.co.watch = .stopped) ∧
      (withGeneral 0 (fun g => { g with recoveryLimit := 0 }) sounding |>.profile 0).general.recoveryLimit = 0 ∧
      (withGeneral 0 (fun g => { g with recoveryLimit := 30000 }) sounding |>.profile 0).general.recoveryLimit ≠ 0 ∧
      lockedAndFits 0 pausedFitting = true ∧ lockedAndFits 0 sounding = false := by
  refine ⟨fun p => by cases p <;> decide, by decide, by decide, by decide, by decide, by decide, by decide, by decide,
    by decide, by decide⟩

/-! #### Frame store, picture, sound -/

/-- Buffer 1 SHOWING sequence number 65,535 of slot 1, buffer 2 READY with the next. -/
def showing (s : State) : State :=
  (s.setBuffer 0 { s.buffer 0 with state := .showing, source := some 0, seq := some 65535 }).setBuffer 1
    { s.buffer 1 with state := .ready, source := some 0, seq := some 0 }

theorem witness_OutputFieldStartFixesTheField :
    Settled r0 ∧ r0.powered = true ∧ r0.out.pass = false ∧ r0.frame.blank = true ∧ r0.pic.fade = none ∧
      (let s := showing (withFrame (fun f => { f with blank := false, hold := true }) r0);
        s.frame.blank = false ∧ s.frame.hold = true ∧ (s.buffer 0).state = .showing ∧
        (∀ c, (s.buffer c).state = .showing → c = 0) ∧ (s.buffer 0).source = some 0 ∧ (s.buffer 0).seq = some 65535) ∧
      (let s := withFrame (fun f => { f with blank := false, hold := true }) r0;
        s.frame.hold = true ∧ ∀ b, (s.buffer b).state ≠ .showing) ∧
      (let s := withFrame (fun f => { f with blank := false }) r0;
        s.frame.blank = false ∧ s.frame.hold = false ∧ s.frame.reader = none) ∧
      ({ r0 with pic := { r0.pic with fade := some ⟨true, 300, 0, 0, 0⟩ } } : State).pic.fade = some ⟨true, 300, 0, 0, 0⟩ :=
  ⟨settled_reset _ rfl rfl, by decide⟩

/-- Slot 2's monitor LOCKED on a class at 449,592 ticks, with a home class and a display that follows 5,900 to 6,005. -/
def deciding (cls : SigClass) (home : OutClass) (follow : Bool) : State :=
  let s := withCabinet (fun c => { c with
    homeClass := home, multisync := true, followMin := 5900, followMax := 6005 }) (lockedOn sounding)
  let s := s.setProfile 1 { s.profile 1 with picture := { (s.profile 1).picture with follow := follow } }
  s.setMonitor 1 { s.monitor 1 with cls := cls }

/-- The cases of the output decision: no lock, another class expected, follow at the range's end, pace, line doubling
and a mismatch; a retime for a period 3,513 ticks off, and none at 3,512 = floor(449,592/128). -/
theorem witness_OutputFieldStartFixesTheField_decision :
    (sounding.monitor (1 : Slot).source).state = .dark ∧
      (let s := deciding .low .high true;
        (s.monitor (1 : Slot).source).state = .locked ∧ (s.monitor (1 : Slot).source).fref = some 449592 ∧
        (s.profile 1).general.expectedClass = none ∧ s.cabinet.followMin ≤ (2700000000 + 449592 / 2) / 449592 ∧
        (2700000000 + 449592 / 2) / 449592 ≤ s.cabinet.followMax ∧ decision 1 s = some ⟨true, .low, some 1, false⟩) ∧
      (withGeneral 1 (fun g => { g with expectedClass := some .high }) (deciding .low .high true)
        |>.profile 1).general.expectedClass ≠ some .low ∧
      decision 1 (deciding .low .low false) = some ⟨false, .low, none, false⟩ ∧
      decision 1 (deciding .low .high false) = some ⟨false, .high, none, true⟩ ∧
      decision 1 (deciding .medium .high false) = none ∧
      (let s := { deciding .low .low true with out := { r0.out with pass := true, fout := 449592 } };
        449592 / 128 = 3512 ∧ needsRetime ⟨true, .low, some 1, false⟩ s = false ∧
        needsRetime ⟨true, .low, some 1, false⟩ (s.setMonitor 1 { s.monitor 1 with fref := some (449592 + 3512) }) = false ∧
        needsRetime ⟨true, .low, some 1, false⟩ (s.setMonitor 1 { s.monitor 1 with fref := some (449592 + 3513) }) = true) := by
  decide

/-- Slot 1 revealed and paced, with the accumulator given and an input field of 450,000 ticks. -/
def paced (acc : Nat) (s : State) : State :=
  let s := withFrame (fun f => { f with blank := false, reader := some 0, writer := some 0, acc := acc }) s
  s.setMonitor 0 { s.monitor 0 with fref := some 450000 }

theorem witness_PacingFollowsTheAccumulator :
    Settled (paced 0 (showing r0)) ∧
      (let s := paced 0 (showing r0);
        s.powered = true ∧ s.out.pass = false ∧ s.frame.blank = false ∧ s.frame.hold = false ∧ s.frame.reader = some 0 ∧
        s.frame.writer = some 0 ∧ s.frame.firstTake = false ∧ (s.monitor 0).fref = some 450000 ∧
        (s.buffer 0).state = .showing ∧ (∀ d, (s.buffer d).state = .showing → d = 0) ∧ (s.buffer 0).seq = some 65535 ∧
        s.frame.acc + s.out.fout < 450000) ∧
      (let s := paced 408 (showing r0);
        450000 ≤ s.frame.acc + s.out.fout ∧ s.frame.acc + s.out.fout < 2 * 450000 ∧ (s.buffer 1).state = .ready ∧
        (s.buffer 1).source = some 0 ∧ (s.buffer 1).seq = some ((65535 : Word16) + 1) ∧
        ∀ d, (s.buffer d).state = .ready → (s.buffer d).seq = some ((65535 : Word16) + 1) → d = 1) ∧
      (let s := (showing r0).setBuffer 1 .free;
        ∀ b, (s.buffer b).state ≠ .ready) ∧
      (let s := paced 450408 (showing r0);
        (s.frame.acc + s.out.fout) / 450000 = 2 ∧ (s.buffer 1).seq = some 0 ∧
        (∀ d, d ≠ 1 → (s.buffer d).state ≠ .ready) ∧
        1 ≤ ((0 : Word16) - 65535).toNat ∧ ((0 : Word16) - 65535).toNat ≤ 32767 ∧
        ∀ d, (s.buffer d).state = .ready → (s.buffer d).source = some 0 →
          (s.buffer d).seq ≠ some ((65535 : Word16) + BitVec.ofNat 16 2)) ∧
      (0 : Word16) = 65535 + BitVec.ofNat 16 1 ∧
      (let s := paced 0 (showing { r0 with out := { r0.out with pass := true, slaved := some 0 } });
        s.out.pass = true ∧ s.out.slaved = some 0 ∧ (s.monitor 0).fref = some 450000 ∧ s.frame.reader = some 0 ∧
        s.frame.writer = some 0 ∧ (s.buffer 1).state = .ready) ∧
      Settled (paced 0 (showing { r0 with out := { r0.out with pass := true, slaved := some 0 } })) :=
  ⟨settled_reset _ rfl rfl, by decide, by decide, by decide, by decide, by decide, by decide, settled_reset _ rfl rfl⟩

/-- The reader with its first take to come and a READY buffer, with none, coasting, and before the REVEAL of a return. -/
theorem witness_PacingFollowsTheAccumulator_takes :
    (let s := withFrame (fun f => { f with firstTake := true }) (paced 0 (showing r0));
      s.powered = true ∧ s.frame.blank = false ∧ s.frame.hold = false ∧ s.frame.reader = some 0 ∧
      s.frame.firstTake = true ∧ (s.buffer 1).state = .ready ∧ (s.buffer 1).source = some 0 ∧ (s.buffer 1).seq = some 0 ∧
      (∀ d, d ≠ 1 → (s.buffer d).state ≠ .ready) ∧ s.co.record = none ∧ s.reports = []) ∧
      (∀ b, ((paced 0 r0).buffer b).state = .ready → ((paced 0 r0).buffer b).source ≠ some 0) ∧
      (let s := withFrame (fun f => { f with writer := none }) (paced 0 (showing r0));
        s.frame.firstTake = false ∧ s.frame.writer ≠ some 0) ∧
      (∀ p : Phase, (let s := inFlight (recordOf (some 0) (some 0) p) (paced 0 (showing r0));
        s.powered = true ∧ s.reports = [] ∧ s.co.record = some (recordOf (some 0) (some 0) p) ∧
        (recordOf (some 0) (some 0) p).target = some 0 ∧ s.frame.reader = some 0 ∧
        (s.monitor (0 : Slot).source).state ≠ .locked)) := by
  refine ⟨by decide, by decide, by decide, fun p => by cases p <;> decide⟩

/-- R85 and R87: in a return to `from` the reader takes no buffer before REVEAL, though the writer is on its source. -/
theorem test_return_takes_no_buffer_before_reveal :
    (readerStart (inFlight (recordOf (some 0) (some 0) .retime) (paced 408 (showing r0)))).frame.buffers =
        (showing r0).frame.buffers ∧
      ((readerStart (inFlight (recordOf (some 0) (some 0) .reveal) (paced 408 (showing r0)))).buffer 1).state = .showing := by
  decide

theorem witness_PictureAndSoundTimersExpire :
    Settled r0 ∧ r0.powered = true ∧ r0.out.settle = none ∧ r0.snd.fade = none ∧ r0.pic.stillTimer = none ∧
      ({ r0.out with settle := some 3 } : Output).settle = some 3 ∧
      ({ r0.snd with fade := some ⟨false, 300, 256, 0, 0⟩ } : Mixer).fade = some ⟨false, 300, 256, 0, 0⟩ ∧
      ({ r0.pic with stillTimer := some 3, watched := some 0 } : Conditioner).stillTimer = some 3 ∧
      r0.pic.watched = none ∧ r0.link.mask.at 8 = true ∧
      (let s := withCabinet (fun c => { c with menuAudio := 0 }) { r0 with snd := { r0.snd with source := some 0 } };
        s.snd.source ≠ none ∧ s.snd.gain = 256 ∧ s.snd.ducked = false ∧ s.cabinet.menuAudio = 0 ∧
        speakerSample s (-32768) 32767 = -32768 ∧ speakerSample s 32767 5 = 32767) :=
  ⟨settled_reset _ rfl rfl, by decide⟩

theorem witness_OverlayIsReplaced :
    Turn 0x1C 1 [1, 0, 0, 0, 0, 0, 0, 0, 0, 0, 0, 1] r0 (served 0x1C 1 [1, 0, 0, 0, 0, 0, 0, 0, 0, 0, 0, 1]) ∧
      Turn 0x1C 1 [1, 0, 0, 0, 0, 0, 0, 0, 0, 0, 1, 1] r0 (served 0x1C 1 [1, 0, 0, 0, 0, 0, 0, 0, 0, 0, 1, 1]) ∧
      Turn 0x1C 1 [2, 0, 0, 0, 0, 0, 0, 0, 0, 0, 0, 0] r0 (served 0x1C 1 [2, 0, 0, 0, 0, 0, 0, 0, 0, 0, 0, 0]) ∧
      (1 : Byte).toNat ≤ 1 ∧ (0 : Byte).toNat + 256 * (1 : Byte).toNat ≤ 256 ∧
      256 < (1 : Byte).toNat + 256 * (1 : Byte).toNat ∧ 1 < (2 : Byte).toNat :=
  ⟨turn_reset rfl (by decide) rfl, turn_reset rfl (by decide) rfl, turn_reset rfl (by decide) rfl, by decide⟩

theorem witness_PixelsStayInRange :
    r0.pic.field.fade ≤ 256 ∧ r0.pic.field.dim ≤ 256 ∧ r0.pic.field.overlay.alpha ≤ 256 ∧ r0.pic.field.shown = .black ∧
      (224 : Byte).toNat ≤ 224 := by decide

/-! #### Control routing -/

/-- An input's debounce timer runs toward active. -/
def debouncing (i : Input) (s : State) : State :=
  { s with router := { s.router with timers := s.router.timers.put i (some ⟨5, true⟩) } }

theorem witness_InputsAreDebounced :
    r0.powered = true ∧ ({ r0 with powered := false } : State).powered = false ∧ r0.router.raw.at 0 = false ∧
      r0.router.timers.at 0 = none ∧ (debouncing 59 r0).router.timers.at 59 = some ⟨5, true⟩ ∧
      (debouncing 12 (ownedBy (.slot 0) r0)).router.timers.at 12 = some ⟨5, true⟩ ∧ (12 : Input).val % 13 = 12 ∧
      (ownedBy (.slot 0) r0).router.owner = .slot 0 ∧ r0.router.owner = .link ∧ r0.link.mask.at 3 = true ∧
      r0.link.mask.at 4 = true ∧ (debouncing 58 r0).router.timers.at 58 = some ⟨5, true⟩ ∧
      (58 : Input).val = 55 + (3 : Chute).val ∧ (r0.chute 3).state = .ready := by decide

/-- Chute 1's switch released at the moment 5 after a pulse of 5 ticks, on a direct coin path into slot 1. -/
def releasing (low high : Nat) : State :=
  let s := withCabinet (fun c => { c with chuteMin := Tab.all 4 low, chuteMax := Tab.all 4 high }) (playing .live)
  let s := s.setProfile 0 { s.profile 0 with
    coins := { (s.profile 0).coins with direct := true, chuteMap := Tab.all 4 (some 3) } }
  { s.setChute 0 { s.chute 0 with state := .inPulse 0 } with
    router := { s.router with timers := s.router.timers.put 55 (some ⟨5, false⟩) } }

/-- The release of a coin input: too short, too long, and a coin accepted, on a direct path and to the bank. -/
theorem witness_InputsAreDebounced_release :
    ((releasing 1 10).router.timers.at 55 = some ⟨5, false⟩ ∧ (55 : Input).val = 55 + (0 : Chute).val ∧
      ((releasing 1 10).chute 0).state = .inPulse 0) ∧
      5 < 27000 * (releasing 1 10).cabinet.chuteMin.at 0 ∧
      (27000 * (releasing 0 0).cabinet.chuteMin.at 0 ≤ 5 ∧ 27000 * (releasing 0 0).cabinet.chuteMax.at 0 < 5) ∧
      (let s := releasing 0 10;
        27000 * s.cabinet.chuteMin.at 0 ≤ 5 ∧ 5 ≤ 27000 * s.cabinet.chuteMax.at 0 ∧ s.coins.bank ≤ 65535 ∧
        s.co.record = none ∧ s.co.current = some 0 ∧ s.router.owner = .slot 0 ∧ (s.profile 0).coins.direct = true ∧
        (s.profile 0).coins.chuteMap.at 0 = some 3 ∧ s.generator 0 = .idle ∧ s.counters.freeze = false) ∧
      (ownedBy .link (releasing 0 10)).router.owner ≠ .slot 0 ∧
      ((r0.setMeter 0 ⟨255, .idle⟩).meter 0).owed = 255 ∧ ((r0.setMeter 0 ⟨254, .idle⟩).meter 0).owed < 255 := by decide

/-- Input `i` bouncing toward a level, the other of two chord inputs at its own, and the chord armed or not. -/
def chording (i other : Input) (target active armed : Bool) : State :=
  let s := withCabinet (fun c => { c with chord := some (0, 7) }) r0
  { s with router := { s.router with
    debounced := (s.router.debounced.put i !target).put other active
    timers := s.router.timers.put i (some ⟨5, target⟩)
    chordArmed := armed } }

/-- A direction, an input that is none, a chord held, half held, disarmed, released and not named, and a JAMMED chute. -/
theorem witness_InputsAreDebounced_orders :
    ((0 : Input).val = 13 * (0 : Player).val + 0 ∧ (42 : Input).val = 13 * (3 : Player).val + 3 ∧ 4 ≤ (12 : Input).val % 13 ∧
      52 ≤ (52 : Input).val) ∧
      r0.cabinet.chord = none ∧ (chording 0 7 true true true).cabinet.chord = some (0, 7) ∧
      (chording 0 7 true true true).router.timers.at 0 = some ⟨5, true⟩ ∧
      (let u := (chording 0 7 true true true).router.debounced.put 0 true; ∀ j : Input, j.val = 0 ∨ j.val = 7 → u.at j = true) ∧
      (chording 0 7 true true true).router.chordArmed = true ∧
      ((chording 0 7 true false true).router.debounced.put 0 true).at 7 = false ∧
      (chording 0 7 true true false).router.chordArmed = false ∧
      (chording 7 0 false true true).router.timers.at 7 = some ⟨5, false⟩ ∧
      (12 : Input).val ≠ (0 : Line).val ∧ (12 : Input).val ≠ (7 : Line).val ∧
      ((r0.setChute 3 { r0.chute 3 with state := .jammed }).chute 3).state = .jammed := by decide

theorem witness_ChordAndPlayTimersExpire :
    r0.powered = true ∧ r0.router.chordTimer = none ∧ r0.router.playTimer = none ∧ r0.link.mask.at 4 = true ∧
      ({ r0.router with chordTimer := some 5 } : Router).chordTimer = some 5 ∧
      ({ (ownedBy (.slot 0) r0).router with playTimer := some 5 } : Router).playTimer = some 5 ∧
      (ownedBy (.slot 0) r0).router.owner = .slot 0 := by decide

theorem witness_ControlsTakeGivesTheHostTheControls :
    (∀ x : Byte, Turn 0x0F 1 [x] (playing .live) (served 0x0F 1 [x]) ∧ Turn 0x0F 1 [x] paused (served 0x0F 1 [x]) ∧
        Turn 0x0F 1 [x] r0 (served 0x0F 1 [x])) ∧
      (playing .live).router.owner ≠ .link ∧ (playing .live).co.record = none ∧ (playing .live).co.current = some 0 ∧
      ((playing .live).slot 0).state = .live ∧ (playing .live).reports = [] ∧
      (paused.slot 0).state = .frozen ∧ (paused.slot 0).paused = true ∧ paused.co.current = some 0 ∧
      ((playing .held).slot 0).state ≠ .live ∧ r0.co.current = none ∧
      ({ r0.router with linkHold := true } : Router).linkHold = true ∧ r0.router.owner = .link ∧ r0.router.linkHold = false ∧
      r0.link.mask.at 3 = true ∧ 1 < (2 : Byte).toNat ∧ (playing .live).quiescing 0 = false :=
  ⟨fun _ => ⟨turn_reset rfl (by decide) rfl, turn_reset rfl (by decide) rfl, turn_reset rfl (by decide) rfl⟩, by decide⟩

theorem witness_ControlsGiveReturnsTheControls :
    (∀ s : State, s.powered = true → s.link = r0.link → Turn 0x10 1 [] s (served 0x10 1 [])) ∧
      (inFlight (recordOf none (some 0) .wake) r0).co.record ≠ none ∧
      (ownedBy .none r0).router.owner = .none ∧ r0.router.linkHold = false ∧ r0.co.record = none ∧ r0.co.current = none ∧
      (playing .live).router.owner = .slot 0 ∧
      (let s := ownedBy .link (playing .live);
        s.router.owner ≠ .slot 0 ∧ (s.slot 0).state = .live ∧ s.co.current = some 0) ∧
      (pausedFitting.router.owner ≠ .slot 0 ∧ (pausedFitting.slot 0).state = .frozen ∧
        (pausedFitting.slot 0).paused = true ∧ pausedFitting.reports = [] ∧ lockedAndFits 0 pausedFitting = true) ∧
      (let s := ownedBy .link (playing .held);
        s.router.owner ≠ .slot 0 ∧ (s.slot 0).state ≠ .live ∧ (s.slot 0).state ≠ .frozen) ∧
      ((r0.slot 0).state.supplied = false ∧ ((playing .live).slot 0).state.supplied = true) ∧
      (4 ≤ (4 : Input).val % 13 ∧ 52 ≤ (59 : Input).val) ∧
      (r0.router.fourWay.at 3 = false ∧ (Tab.all 4 true).at 3 = true) :=
  ⟨fun _ hp hl => turn_reset hp (by decide) hl, by decide⟩

/-- R150: of two directions held the newest passes; an opposite held stops it. -/
theorem test_four_way_passes_the_newest_direction :
    (let s := { r0 with router := { r0.router with fourWay := Tab.all 4 true, order := Tab.all 4 [.up, .left] } };
      passes s 2 = true ∧ passes s 0 = false) ∧
      (let s := { r0 with router := { r0.router with fourWay := Tab.all 4 true, order := Tab.all 4 [.right, .left] } };
        passes s 2 = false ∧ passes s 3 = false) := by decide

/-! #### Coins -/

theorem witness_CoinStateAnswersTheCoinUnit : Turn 0x11 1 [] r0 (served 0x11 1 []) := turn_reset rfl (by decide) rfl

/-- A bank of `k` units. -/
def banked (k : Nat) (s : State) : State := withCoins (fun c => { c with bank := k }) s

theorem witness_CreditIsDeliveredAndDrained :
    (∀ (x y : Byte) (s : State), s.powered = true → s.link = r0.link →
        Turn 0x12 1 [x, y] s (served 0x12 1 [x, y]) ∧ Turn 0x13 1 [x, y] s (served 0x13 1 [x, y])) ∧
      (0 : Byte).toNat = 0 ∧ 32 < (33 : Byte).toNat ∧ (32 : Byte).toNat ≤ 32 ∧ 4 < (5 : Byte).toNat ∧ (4 : Byte).toNat ≤ 4 ∧
      r0.co.current = none ∧ (playing .live).co.record = none ∧ (playing .live).co.current = some 0 ∧
      (banked 31 (playing .live)).coins.bank < 32 ∧ 32 ≤ (banked 32 (playing .live)).coins.bank ∧
      ((playing .live).queue 0).length + 32 ≤ 32 ∧ (playing .live).queue 0 = [] ∧ (playing .live).generator 0 = .idle ∧
      (playing .live).router.owner = .slot 0 ∧
      (let s := (playing .live).setQueue 0 [0];
        32 < (s.queue 0).length + 32 ∧ (s.queue 0).length ≤ 32) ∧
      (ownedBy .link (playing .live)).router.owner ≠ .slot 0 ∧ r0.coins.bank < 1 ∧ 1 ≤ (banked 1 r0).coins.bank :=
  ⟨fun _ _ _ hp hl => ⟨turn_reset hp (by decide) hl, turn_reset hp (by decide) hl⟩, by decide⟩

theorem witness_ChutesLockAndTotalsClear :
    (∀ x y : Byte, Turn 0x14 1 [x, y] r0 (served 0x14 1 [x, y])) ∧ Turn 0x15 1 [] r0 (served 0x15 1 []) ∧
      Turn 0x15 1 [] (banked 1 r0) (served 0x15 1 []) ∧ r0.link.mask.at 5 = true ∧ (r0.chute 3).reasons.link ≠ true ∧
      4 < (5 : Byte).toNat ∧ (4 : Byte).toNat ≤ 4 ∧ 1 < (2 : Byte).toNat ∧
      (r0.coins.bank = 0 ∧ ∀ n, r0.queue n = [] ∧ (r0.generator n).isOn = false) ∧ (banked 1 r0).coins.bank ≠ 0 :=
  ⟨fun _ _ => turn_reset rfl (by decide) rfl, turn_reset rfl (by decide) rfl, turn_reset rfl (by decide) rfl, by decide⟩

theorem witness_CoinTimersExpire :
    r0.powered = true ∧ (r0.chute 0).jamTimer = none ∧
      (let s := r0.setChute 0 { r0.chute 0 with state := .inPulse 0, jamTimer := some 5 };
        (s.chute 0).jamTimer = some 5 ∧ (s.chute 0).state = .inPulse 0) ∧
      (let s := r0.setChute 0 { r0.chute 0 with state := .jammed, jamTimer := some 5 };
        (s.chute 0).jamTimer = some 5 ∧ (s.chute 0).state = .jammed) ∧
      (r0.setGenerator 0 (.on 1 5 7)).generator 0 = .on 1 5 7 ∧
      (let s := ((playing .live).setGenerator 0 (.gap 5)).setQueue 0 [3];
        s.generator 0 = .gap 5 ∧ s.queue 0 = [3] ∧ s.co.current = some 0 ∧ s.router.owner = .slot 0) ∧
      ((r0.setMeter 0 ⟨0, .on 5⟩).meter 0).driver = .on 5 ∧ ((r0.setMeter 0 ⟨0, .off 5⟩).meter 0).owed = 0 ∧
      ((r0.setMeter 0 ⟨255, .off 5⟩).meter 0).driver = .off 5 ∧ ((r0.setMeter 0 ⟨255, .off 5⟩).meter 0).owed = 254 + 1 ∧
      (r0.slot 0).state.supplied = false ∧
      (let s := (playing .live).setGenerator 0 (.on 1 5 7);
        (s.slot 0).state.supplied = true ∧ coinLine s 0 1 = some ((s.coins.lineHigh.at 0).at 1) ∧
        coinLine s 0 0 = some (!(s.coins.lineHigh.at 0).at 0)) := by
  decide

/-- R174, R175: at RESTART the STARTUP lockout stands before the queues are returned, so the bank's notice carries it. -/
theorem test_returns_at_restart_carry_startup :
    (restartCoins (withCoins (fun c => { c with startup := false }) (r0.setQueue 0 [1]))).link.notices.filterMap
      (fun e => match e.notice with
        | .bank _ _ _ startup => some startup
        | _ => none) = [true] := by decide

/-! #### Counters -/

theorem witness_IncrementFollowsTheCounterMode :
    r0.counters.freeze = false ∧ ({ r0.counters with freeze := true } : Counters).freeze = true ∧
      (4294967294 : Word32).toNat < 4294967295 ∧ (4294967295 : Word32).toNat = 4294967295 ∧
      (2147483647 : Word32).toNat = 2147483647 ∧ r0.counters.saturate = false ∧
      ({ r0.counters with saturate := true } : Counters).saturate = true := by decide

theorem witness_CountersAreReadAndSet :
    (∀ p : List Byte, Turn 0x17 1 p r0 (served 0x17 1 p) ∧ Turn 0x16 1 p r0 (served 0x16 1 p)) ∧
      (1 : Byte).toNat ≤ 1 ∧ 1 < (2 : Byte).toNat ∧ (2 : Byte).toNat ≤ 2 ∧ 2 < (3 : Byte).toNat ∧ 66 < (67 : Byte).toNat ∧
      (66 : Byte).toNat ≤ 66 ∧ 67 < (66 : Byte).toNat + (2 : Byte).toNat ∧ (66 : Byte).toNat + (1 : Byte).toNat ≤ 67 ∧
      38 < (39 : Byte).toNat ∧ (29 : Byte).toNat + (38 : Byte).toNat ≤ 67 :=
  ⟨fun _ => ⟨turn_reset rfl (by decide) rfl, turn_reset rfl (by decide) rfl⟩, by decide⟩

/-! #### Profiles, retained memory and start-up -/

/-- A COINS section's contents within range. -/
def coinsContents : List Byte := writeCoins factoryCoins

theorem witness_ProfilePutThenGetReturnsTheContents :
    Turn 0x0A 1 ([slotByte 7, 3, 0] ++ coinsContents) r0 (served 0x0A 1 ([slotByte 7, 3, 0] ++ coinsContents)) ∧
      profilePutCheck r0 ([slotByte 7, 3, 0] ++ coinsContents) = none ∧ r0.profiles.loading = true ∧
      (loadDone r0).profiles.loading = false ∧
      profilePutCheck (loadDone r0) ([slotByte 7, 3, 0] ++ coinsContents) = none ∧
      takeTurn 0x0A 1 ([slotByte 7, 3, 0] ++ coinsContents) (loadDone r0).link =
        some (served 0x0A 1 ([slotByte 7, 3, 0] ++ coinsContents)) ∧
      (∀ x sec page : Byte, Turn 0x09 1 [x, sec, page] r0 (served 0x09 1 [x, sec, page]) ∧
        Turn 0x09 1 [x, sec, page] (loadDone r0) (served 0x09 1 [x, sec, page])) ∧
      ((0 : Byte).toNat = 0 ∧ 8 < (9 : Byte).toNat ∧ (8 : Byte) = slotByte 7 ∧ 4 < (5 : Byte).toNat ∧ (4 : Byte).toNat ≤ 4 ∧
        (3 : Byte).toNat ≤ 3 ∧ ¬((4 : Byte) = 0 ∨ ((2 : Byte) = 2 ∧ (4 : Byte).toNat ≤ 3))) :=
  ⟨turn_reset rfl (by decide) rfl, by decide, by decide, by decide, by decide, by decide,
    fun _ _ _ => ⟨turn_reset rfl (by decide) rfl, turn_reset rfl (by decide) rfl⟩, by decide⟩

theorem witness_CabinetPutThenGetReturnsTheSettings :
    Turn 0x0C 1 (writeCabinet factoryCabinet) r0 (served 0x0C 1 (writeCabinet factoryCabinet)) ∧
      (writeCabinet factoryCabinet).length = 47 ∧ firstBad (checkCabinet (writeCabinet factoryCabinet)) = none ∧
      r0.profiles.loading = true ∧ (loadDone r0).profiles.loading = false ∧
      takeTurn 0x0C 1 (writeCabinet factoryCabinet) (loadDone r0).link =
        some (served 0x0C 1 (writeCabinet factoryCabinet)) ∧
      Turn 0x0B 1 [] r0 (served 0x0B 1 []) ∧ Turn 0x0B 1 [] (loadDone r0) (served 0x0B 1 []) :=
  ⟨turn_reset rfl (by decide) rfl, by decide, by decide, by decide, by decide, by decide, turn_reset rfl (by decide) rfl,
    turn_reset rfl (by decide) rfl⟩

/-- A save in flight. -/
def savingState (s : State) : State := { s with profiles := { s.profiles with saving := some factoryWorking } }

theorem witness_SavesAndLoadsKeepTheWorkingCopies :
    (∀ s : State, s.powered = true → s.link = r0.link →
        Turn 0x0D 1 [] s (served 0x0D 1 []) ∧ Turn 0x0E 1 [] s (served 0x0E 1 [])) ∧
      r0.profiles.loading = true ∧ (savingState r0).profiles.saving = some factoryWorking ∧
      (loadDone r0).profiles.saving = none ∧ (loadDone r0).profiles.loading = false ∧ (loadDone r0).co.record = none ∧
      (inFlight (recordOf none (some 0) .wake) (loadDone r0)).co.record ≠ none ∧ r0.link.mask.at 7 = true ∧
      r0.powered = true :=
  ⟨fun _ hp hl => ⟨turn_reset hp (by decide) hl, turn_reset hp (by decide) hl⟩, by decide⟩

theorem witness_PowerUpKeepsTheRetainedItems :
    r0.powered = true ∧ ({ r0 with powered := false } : State).powered = false ∧ r0.coins.bank + queuedUnits r0 ≤ 65535 ∧
      r0.profiles.saving = none ∧ (r0.meter 0).owed = 0 ∧ ((r0.setMeter 0 ⟨255, .idle⟩).meter 0).owed = 254 + 1 ∧
      r0.link.mask.at 10 = true ∧ requestOf (.ident 0 1 []) = some (0, 0x01, 1, []) ∧
      ownCellsFit (r0.adapter 0).own = true ∧
      (let a := pluggedAdapter [(0, 9), (7, 1)]; a.own = [(0, 9), (7, 1)] ∧ ownCellsFit a.own = true) := by decide

/-- R42: power-up reset starts an adapter afresh: a cell the host has written reads its own value again. -/
theorem test_power_up_starts_adapters_afresh :
    (ran (.powerUpReset 0 true) (r0.setAdapter 0 ((pluggedAdapter [(7, 1)]).perform (.write 7 9)))).map
      (fun t => (t.adapter 0).cells.at 7) = some 1 := by decide

/-! #### The whole part -/

/-- `step` answers a next state. -/
def steps (s : State) : Bool :=
  match step s with
  | .next _ => true
  | _ => false

theorem witness_CommandsKeepQueueTimeAndPower :
    (ran (.gapTimeout) r0).isSome = true ∧ r0.reports = [] := by decide

/-- A command waits at reset's state, and is executed. -/
def waiting : State := { r0 with pending := [.ident 0 1 []] }

theorem witness_EveryStepConservesTheMoney : Conserved waiting ∧ CoinsBounded waiting ∧ steps waiting = true := by
  refine ⟨?_, ⟨?_, ?_, ?_⟩, ?_⟩
  · unfold Conserved; decide
  all_goals decide

theorem witness_EveryStepKeepsTheLinesAtTheirState : LinesMatch waiting ∧ PowerSound waiting ∧ steps waiting = true := by
  refine ⟨?_, ⟨?_, ?_, ?_, ?_, ?_⟩, ?_⟩
  · unfold LinesMatch; decide
  all_goals decide

theorem witness_EveryStepKeepsTheLinkBounded :
    KeysDistinct waiting ∧ BufferBounded waiting ∧ steps waiting = true := by
  refine ⟨?_, ?_, ?_⟩
  · unfold KeysDistinct; decide
  · unfold BufferBounded; decide
  · decide

theorem witness_EveryStepKeepsOneBufferEach : OneEach waiting ∧ steps waiting = true := by
  refine ⟨?_, ?_⟩
  · unfold OneEach; decide
  · decide

theorem witness_EveryStepKeepsTheControlsWithTheCurrentBoard :
    OwnerSound waiting ∧ waiting.reports = [] ∧ steps waiting = true := by
  exact ⟨⟨fun n h => (nomatch (show Owner.link = .slot n from h)),
    fun n h => (nomatch (show (none : Option Slot) = some n from h))⟩, by decide, by decide⟩

theorem witness_EveryStepKeepsTheMonitorsSound : MonitorsSound waiting ∧ steps waiting = true := by
  refine ⟨fun src => ⟨fun h => ?_, fun _ => ?_, fun h => ?_⟩, by decide⟩
  · exact absurd h (by revert src; decide)
  · revert src; decide
  · exact absurd h (by revert src; decide)

end Sys2Proof.Tests
end

/-! ### IDENT and STATE: the records they answer (R14, R15) -/

namespace Sys2Proof.Machine

theorem exec_ident (dt : Nat) (tag : Byte) (p : List Byte) (s : State) :
    exec (.ident dt tag p) s = request dt 0x01 tag p noPayload identBlock s := rfl

theorem exec_state (dt : Nat) (tag : Byte) (p : List Byte) (s : State) :
    exec (.state dt tag p) s = request dt 0x02 tag p noPayload stateBlock s := rfl

/-- A request whose LEN is 0 passes the checks of a kind that carries no payload (R7). -/
theorem noPayload_nil (s : State) : noPayload s [] = none := rfl

/-- The identity byte by byte: the product code goes low byte first. -/
theorem identData_bytes :
    identData = [0x08, 0x5A, Config.firmwareMajor, Config.firmwareMinor, 8, 200, 4, 30] := rfl

/-- The snapshot is of the blocks other than the link: neither the passing of time nor the link's buffer shows in it. -/
theorem stateData_tick_link (s : State) (dt : Nat) (l : Link) :
    stateData { s.tick dt with link := l } = stateData s := rfl

/-- STATE's block answers the snapshot of the state it is handed, and leaves that state as it is. -/
theorem stateBlock_answers (s : State) (dt : Nat) (l : Link) (p : List Byte) :
    stateBlock { s.tick dt with link := l } p = ({ s.tick dt with link := l }, some ⟨.ok, stateData s⟩) := by
  rw [stateBlock, stateData_tick_link]

/-- The snapshot's byte for the pending changeover is FFh without one, and otherwise its target's slot code. -/
theorem slotCodeOr_pendingTarget (q : Option Pending) :
    slotCodeOr (q.map Pending.target) =
      match q with
      | none => 0xFF
      | some q => slotCode q.target := by
  cases q with
  | none => rfl
  | some q => rfl

/-- The snapshot's byte for the owner of the controls is 0 for NONE, the slot's number, and 9 for LINK. -/
theorem ownerCode_eq (o : Owner) :
    o.code =
      match o with
      | .none => 0
      | .slot n => slotByte n
      | .link => 9 := by
  cases o with
  | none => rfl
  | link => rfl
  | slot n => rfl

/-- Settles O10: IDENT passes its checks with no payload, and its block answers the identity without a change. -/
theorem identAnswersTheIdentity : Obligations.IdentAnswersTheIdentity := by
  intro dt tag s b hturn
  rw [exec_ident, request_quiet hturn (noPayload_nil _) rfl, identData_bytes]

/-- Settles O11: STATE's block answers the snapshot without a change, and the snapshot's layout is the table's in each
case of the record of a changeover. -/
theorem stateAnswersTheSnapshot : Obligations.StateAnswersTheSnapshot := by
  intro dt tag s b hturn
  rw [exec_state, request_quiet hturn (noPayload_nil _) (stateBlock_answers ..), stateData, recordData,
    slotCodeOr_pendingTarget, ownerCode_eq]
  cases s.co.record with
  | none => rfl
  | some r => rfl

end Sys2Proof.Machine

/-! ### SLOT_INFO: the slot record it answers (R40) -/

namespace Sys2Proof.Machine

theorem exec_slotInfo (dt : Nat) (tag : Byte) (p : List Byte) (s : State) :
    exec (.slotInfo dt tag p) s = request dt 0x03 tag p (fixedLayout 1 fun p => [slotField p]) slotInfoBlock s := rfl

/-- A payload of one slot's number passes the checks of a request that carries a slot alone (R7). -/
theorem slotLayout_slotByte (n : Slot) (s : State) :
    fixedLayout 1 (fun p => [slotField p]) s [slotByte n] = none := by
  simp [fixedLayout, slotField_slotByte, firstBad]

/-- The slot field is refused, at offset 0, for every number outside 1 to 8. -/
theorem slotField_outside {x : Byte} (h : x = 0 ∨ 8 < x.toNat) (rest : List Byte) : slotField (x :: rest) = (0, false) := by
  have hout : ¬(1 ≤ x.toNat ∧ x.toNat ≤ 8) := by
    rcases h with rfl | h
    · decide
    · omega
  simpa [slotField, byteCheck, byteAt] using hout

/-- A number outside 1 to 8 fails the checks of a request that carries a slot alone: BAD_FIELD 0 (R7). -/
theorem slotLayout_outside {x : Byte} (h : x = 0 ∨ 8 < x.toNat) (s : State) :
    fixedLayout 1 (fun p => [slotField p]) s [x] = some (.badField 0) := by
  simp [fixedLayout, slotField_outside h, firstBad]

/-- A word goes into a payload as its low byte and its high byte. -/
theorem le2_toNat (v : Word16) : le2 v.toNat = [v.setWidth 8, (v >>> 8).setWidth 8] := by
  have hlow : byteOf v.toNat = v.setWidth 8 := BitVec.ofNat_toNat ..
  have hhigh : byteOf (v.toNat / 256) = (v >>> 8).setWidth 8 := by
    rw [show v.toNat / 256 = (v >>> 8).toNat by simp [Nat.shiftRight_eq_div_pow]]
    exact BitVec.ofNat_toNat ..
  rw [le2, hlow, hhigh]

/-- The record's parked signature is 0 without one. -/
theorem le2_parkedSig (q : Option Word16) :
    le2 (q.getD 0).toNat =
      match q with
      | none => [0, 0]
      | some v => [v.setWidth 8, (v >>> 8).setWidth 8] := by
  cases q with
  | none => rfl
  | some v => exact le2_toNat v

/-- The record is of the blocks other than the link: neither the passing of time nor the link's buffer shows in it. -/
theorem slotInfoData_tick_link (n : Slot) (s : State) (dt : Nat) (l : Link) :
    slotInfoData n { s.tick dt with link := l } = slotInfoData n s := rfl

/-- SLOT_INFO's block answers the named slot's record of the state it is handed, and leaves that state as it is. -/
theorem slotInfoBlock_answers (n : Slot) (s : State) (dt : Nat) (l : Link) :
    slotInfoBlock { s.tick dt with link := l } [slotByte n] =
      ({ s.tick dt with link := l }, some ⟨.ok, slotInfoData n s⟩) := by
  rw [slotInfoBlock, payloadSlot_slotByte, slotInfoData_tick_link]

/-- Settles O13: for a slot in 1 to 8 the checks pass and the block answers the record without a change, laid out as the
table gives it with and without a parked signature; any other number is refused by the slot field's check. -/
theorem slotInfoAnswersTheRecord : Obligations.SlotInfoAnswersTheRecord := by
  refine ⟨fun dt tag n s b hturn => ?_, fun dt tag x s b hturn hout => ?_⟩
  · rw [exec_slotInfo, request_quiet hturn (slotLayout_slotByte n _) (slotInfoBlock_answers n ..), slotInfoData,
      le2_parkedSig, le2_toNat, List.append_assoc]
    rfl
  · rw [exec_slotInfo, request_refused hturn (slotLayout_outside hout _)]

end Sys2Proof.Machine

/-! ### The monitors' figures: class, acceptance, rates, steadiness and tracking (R58 to R61, R65) -/

namespace Sys2Proof.Machine

/-- R60's table: a line rate lies in one band and has its class, or lies outside all three and is OUT_OF_CLASS. -/
theorem classOf_cases (rate : Nat) :
    (14500 ≤ rate ∧ rate ≤ 16500) ∧ classOf rate = .low ∨
    (23500 ≤ rate ∧ rate ≤ 26500) ∧ classOf rate = .medium ∨
    (30000 ≤ rate ∧ rate ≤ 32500) ∧ classOf rate = .high ∨
    ¬((14500 ≤ rate ∧ rate ≤ 16500) ∨ (23500 ≤ rate ∧ rate ≤ 26500) ∨ (30000 ≤ rate ∧ rate ≤ 32500)) ∧
      classOf rate = .outOfClass := by
  unfold classOf
  split_ifs with hlow hmedium hhigh
  · exact .inl ⟨hlow, rfl⟩
  · exact .inr (.inl ⟨hmedium, rfl⟩)
  · exact .inr (.inr (.inl ⟨hhigh, rfl⟩))
  · exact .inr (.inr (.inr ⟨by simp [hlow, hmedium, hhigh], rfl⟩))

theorem fieldAccepted_iff (f l : Nat) :
    fieldAccepted f l = true ↔ (337500 ≤ f ∧ f ≤ 675000) ∧ 200 ≤ l ∧ l ≤ 700 := by
  simp only [fieldAccepted, Bool.and_eq_true, decide_eq_true_eq, and_assoc]

/-- The quotient of `n + f / 2` by `f` is `n / f` rounded to nearest: it is off by half a unit at most. -/
theorem roundedQuotient_bounds {f : Nat} (n : Nat) (hf : 0 < f) :
    2 * (f * ((n + f / 2) / f)) ≤ 2 * n + f ∧ 2 * n < 2 * (f * ((n + f / 2) / f)) + f + 1 := by
  have hdiv := Nat.div_add_mod (n + f / 2) f
  have hmod := Nat.mod_lt (n + f / 2) hf
  omega

theorem absDiff_eq_natAbs (a b : Nat) : absDiff a b = ((a : Int) - b).natAbs := by
  unfold absDiff
  omega

theorem steady_iff (c : SigClass) (f r : Nat) :
    steady c f r = true ↔ c ≠ .outOfClass ∧ ((f : Int) - r).natAbs ≤ r / 256 := by
  simp only [steady, absDiff_eq_natAbs, Bool.and_eq_true, bne_iff_ne, decide_eq_true_eq]

/-- A field no shorter than the reference moves it up. -/
theorem trackRef_of_le {r f : Nat} (h : r ≤ f) : trackRef r f = r + (f - r) / 16 := by
  rw [trackRef, Int.tdiv_eq_ediv_of_nonneg (by omega)]
  omega

/-- A field no longer than the reference moves it down. The step is truncated toward zero, not toward the field. -/
theorem trackRef_of_ge {r f : Nat} (h : f ≤ r) : trackRef r f = r - (r - f) / 16 := by
  rw [trackRef, show (f : Int) - r = -((r : Int) - f) by omega, Int.neg_tdiv, Int.tdiv_eq_ediv_of_nonneg (by omega)]
  omega

/-- The reference moves toward the field and not past it (R65). -/
theorem trackRef_between (r f : Nat) : min r f ≤ trackRef r f ∧ trackRef r f ≤ max r f := by
  rcases Nat.le_total r f with h | h
  · rw [trackRef_of_le h]
    omega
  · rw [trackRef_of_ge h]
    omega

theorem goodPeriod_trackRef {r f : Nat} (hr : GoodPeriod r) (hf : GoodPeriod f) : GoodPeriod (trackRef r f) := by
  obtain ⟨hlow, hhigh⟩ := trackRef_between r f
  exact ⟨(le_min hr.1 hf.1).trans hlow, hhigh.trans (max_le hr.2 hf.2)⟩

/-- Settles O24: the class bands exclude each other; both rates are one quotient rounded to nearest; and the reference
stays between its old value and the field's period, so within the accepted periods. -/
theorem monitorFiguresFollowTheRules : Obligations.MonitorFiguresFollowTheRules := by
  refine ⟨fun rate => ?_, fieldAccepted_iff, fun f l hf => ?_, fun f hf => ?_, steady_iff,
    fun r f => ⟨trackRef_of_le, trackRef_of_ge⟩, fun r f => goodPeriod_trackRef⟩
  · rcases classOf_cases rate with ⟨hband, hc⟩ | ⟨hband, hc⟩ | ⟨hband, hc⟩ | ⟨hband, hc⟩ <;>
      simp only [hc, reduceCtorEq, true_iff, false_iff] <;> omega
  · rw [lineRateOf, Nat.mul_assoc 2 f, Nat.mul_assoc 2 27000000]
    exact roundedQuotient_bounds (27000000 * l) hf
  · rw [fieldRateOf, Nat.mul_assoc 2 f]
    exact roundedQuotient_bounds 2700000000 hf

end Sys2Proof.Machine

/-! ### TIMING: the monitor's record it answers (R74) -/

namespace Sys2Proof.Machine

theorem exec_timing (dt : Nat) (tag : Byte) (p : List Byte) (s : State) :
    exec (.timing dt tag p) s =
      request dt 0x08 tag p (fixedLayout 1 fun p => [byteCheck 0 0 1 9 p]) timingBlock s := rfl

/-- A source's number, 1 to 8 for a slot and 9 for source M, names the source. -/
theorem payloadSource_sourceNumber (src : Source) : payloadSource [BitVec.ofNat 8 (src.val + 1)] = src := by
  revert src
  simp only [payloadSource, byteAt, List.getD_cons_zero]
  decide

/-- A payload of one byte that is in its range passes the checks of a request that carries that byte alone (R7). -/
theorem byteLayout_inside {x : Byte} {lo hi : Nat} (h : lo ≤ x.toNat ∧ x.toNat ≤ hi) (s : State) :
    fixedLayout 1 (fun p => [byteCheck 0 0 lo hi p]) s [x] = none := by
  simp [fixedLayout, byteCheck, byteAt, firstBad, h]

/-- One that is out of its range fails them: BAD_FIELD 0 (R7). -/
theorem byteLayout_outside {x : Byte} {lo hi : Nat} (h : ¬(lo ≤ x.toNat ∧ x.toNat ≤ hi)) (s : State) :
    fixedLayout 1 (fun p => [byteCheck 0 0 lo hi p]) s [x] = some (.badField 0) := by
  simp only [fixedLayout, byteCheck, byteAt, firstBad, List.getD_cons_zero, h, decide_false]
  rfl

theorem sourceNumber_inside (src : Source) :
    1 ≤ (BitVec.ofNat 8 (src.val + 1)).toNat ∧ (BitVec.ofNat 8 (src.val + 1)).toNat ≤ 9 := by
  revert src
  decide

/-- TIMING's block answers the named monitor's record of the state it is handed, and leaves that state as it is. -/
theorem timingBlock_answers (src : Source) (s : State) (dt : Nat) (l : Link) :
    timingBlock { s.tick dt with link := l } [BitVec.ofNat 8 (src.val + 1)] =
      ({ s.tick dt with link := l }, some ⟨.ok, timingData src (s.monitor src)⟩) := by
  rw [timingBlock, payloadSource_sourceNumber]
  rfl

/-- Settles O23: for a source in 1 to 9 the check passes and the block answers the record without a change, laid out as
the table gives it; any other number is refused by the source field's check. -/
theorem timingAnswersTheRecord : Obligations.TimingAnswersTheRecord := by
  refine ⟨fun dt tag src s b => ?_, fun dt tag x s b hturn hout => ?_⟩
  · intro p m four two hturn
    rw [exec_timing, request_quiet hturn (byteLayout_inside (sourceNumber_inside src) _)
      (timingBlock_answers src ..), timingData]
    rfl
  · have hrange : ¬(1 ≤ x.toNat ∧ x.toNat ≤ 9) := by
      rcases hout with rfl | hout
      · decide
      · omega
    rw [exec_timing, request_refused hturn (byteLayout_outside hrange _)]

end Sys2Proof.Machine

/-! ### COIN_STATE: the coin unit's state it answers (R172) -/

namespace Sys2Proof.Machine

theorem exec_coinState (dt : Nat) (tag : Byte) (p : List Byte) (s : State) :
    exec (.coinState dt tag p) s = request dt 0x11 tag p noPayload coinStateBlock s := rfl

/-- A double word goes into a payload as its four bytes, the least significant first. -/
theorem le4_toNat (v : Word32) :
    le4 v.toNat = [v.setWidth 8, (v >>> 8).setWidth 8, (v >>> 16).setWidth 8, (v >>> 24).setWidth 8] := by
  have hbyte (k : Nat) : byteOf (v.toNat / 2 ^ k) = (v >>> k).setWidth 8 := by
    rw [← Nat.shiftRight_eq_div_pow, ← BitVec.toNat_ushiftRight]
    exact BitVec.ofNat_toNat ..
  have hlow : byteOf v.toNat = v.setWidth 8 := BitVec.ofNat_toNat ..
  rw [← hlow, ← hbyte 8, ← hbyte 16, ← hbyte 24]
  rfl

/-- A chute's state as its byte of the report. -/
theorem byteOf_chuteCode (c : ChuteState) :
    byteOf c.code =
      match c with
      | .ready => 0
      | .inPulse _ => 1
      | .jammed => 2 := by
  cases c with
  | ready => rfl
  | inPulse start => rfl
  | jammed => rfl

/-- The reason set byte is the sum of its members' bits. -/
theorem Reasons.code_eq (r : Reasons) :
    r.code = BitVec.ofNat 8 ((if r.link then 1 else 0) + (if r.jam then 2 else 0) + (if r.bankLimit then 4 else 0)
      + (if r.meterFull then 8 else 0) + (if r.startup then 16 else 0)) := by
  simp only [Reasons.code, byteOf, Bool.toNat, Bool.cond_eq_ite, mul_ite, mul_one, mul_zero]

/-- The report is of the blocks other than the link: neither the passing of time nor the link's buffer shows in it. -/
theorem coinStateData_tick_link (s : State) (dt : Nat) (l : Link) :
    coinStateData { s.tick dt with link := l } = coinStateData s := rfl

/-- COIN_STATE's block answers the report of the state it is handed, and leaves that state as it is. -/
theorem coinStateBlock_answers (s : State) (dt : Nat) (l : Link) (p : List Byte) :
    coinStateBlock { s.tick dt with link := l } p = ({ s.tick dt with link := l }, some ⟨.ok, coinStateData s⟩) := by
  rw [coinStateBlock, coinStateData_tick_link]

/-- Settles O42: COIN_STATE's block answers the report without a change, and the report's layout is the table's, part by
part: the bank, the three totals, the slots, the chutes and the meters. -/
theorem coinStateAnswersTheCoinUnit : Obligations.CoinStateAnswersTheCoinUnit := by
  intro dt tag s b
  dsimp only
  intro hturn
  rw [exec_coinState, request_quiet hturn (noPayload_nil _) (coinStateBlock_answers ..), coinStateData]
  simp only [le4_toNat, byteOf_chuteCode, Reasons.code_eq]
  rfl

end Sys2Proof.Machine

/-! ### The coin unit's shared operations: reasons, the bank limit and a pulse's start (R160, R166, R174) -/

namespace Sys2Proof.Machine

/-- The link stands as it was, but for its notices. -/
def LinkKept (s t : State) : Prop := t.link = { s.link with notices := t.link.notices }

theorem LinkKept.refl (s : State) : LinkKept s s := rfl

theorem LinkKept.of_eq {s t : State} (h : t.link = s.link) : LinkKept s t := by
  rw [LinkKept, h]

theorem LinkKept.trans {s t u : State} (h : LinkKept s t) (h' : LinkKept t u) : LinkKept s u := by
  unfold LinkKept at *
  rw [h', h]

theorem LinkKept.forAll {α : Type} {f : α → State → State} (hf : ∀ a u, LinkKept u (f a u)) (l : List α) (s : State) :
    LinkKept s (forAll l f s) := by
  induction l generalizing s with
  | nil => exact .refl s
  | cons a l ih => exact (hf a s).trans (ih (f a s))

theorem post_linkKept (n : Notice) (s : State) : LinkKept s (post n s) := post_link n s

theorem increment_linkKept (i : CounterId) (s : State) : LinkKept s (increment i s) := increment_link i s

/-- An increment reads nothing but the counters. -/
theorem increment_counters_congr (i : CounterId) {s t : State} (h : t.counters = s.counters) :
    (increment i t).counters = (increment i s).counters := by
  simp only [increment_counters, State.counter, h]

theorem Tab.put_put {α : Type} {n : Nat} (v : Tab α n) (i : Fin n) (x y : α) : (v.put i x).put i y = v.put i y := by
  refine Tab.ext_at fun j => ?_
  simp only [Tab.at_put]
  split <;> rfl

theorem Tab.put_at {α : Type} {n : Nat} (v : Tab α n) (i : Fin n) : v.put i (v.at i) = v := by
  refine Tab.ext_at fun j => ?_
  rw [Tab.at_put]
  split
  · next h => rw [h]
  · rfl

/-! #### A set of reasons -/

theorem setReasons_linkKept (c : Chute) (r : Reasons) (s : State) : LinkKept s (setReasons c r s) := by
  unfold setReasons
  split
  · exact .refl s
  · exact (LinkKept.of_eq (State.setChute_link ..)).trans (post_linkKept ..)

/-- A chute's set of reasons is the one judged, whether or not it changed. -/
theorem setReasons_coins (c : Chute) (r : Reasons) (s : State) :
    (setReasons c r s).coins =
      { s.coins with chutes := s.coins.chutes.put c { s.chute c with reasons := r } } := by
  unfold setReasons
  split
  · next h =>
    rw [h]
    exact congrArg (fun v => { s.coins with chutes := v }) (Tab.put_at s.coins.chutes c).symm
  · exact (postChute_same ..).same .coins (by decide)

/-- A changed set of reasons posts LOCKOUT with the set as it now is (R174). -/
theorem setReasons_posts {c : Chute} {r : Reasons} {s : State} (hr : r ≠ (s.chute c).reasons)
    (hm : s.link.mask.at 5 = true) :
    ∃ e ∈ (setReasons c r s).link.notices, e.notice = .chute c (s.chute c).state.code .lockout r := by
  obtain ⟨e, he, hn, -⟩ := exists_post (n := .chute c (s.chute c).state.code .lockout r)
    (s := s.setChute c { s.chute c with reasons := r }) (fun m => by cases m <;> rfl) hm
  refine ⟨e, ?_, hn⟩
  simpa [setReasons, hr, postChute, State.chute_setChute] using he

theorem setReasons_chute (c d : Chute) (r : Reasons) (s : State) :
    (setReasons c r s).chute d = if d = c then { s.chute c with reasons := r } else s.chute d := by
  rw [State.chute, setReasons_coins]
  exact Tab.at_put ..

/-! #### BANK_LIMIT judged for every chute -/

/-- A chute as BANK_LIMIT judged leaves it: the reason stands exactly while the bank is at the limit. -/
def limitJudged (s : State) (c : Chute) : ChuteRecord :=
  { s.chute c with reasons := { (s.chute c).reasons with bankLimit := bankAtLimit s } }

theorem bankAtLimit_setReasons (c : Chute) (r : Reasons) (s : State) :
    bankAtLimit (setReasons c r s) = bankAtLimit s := by
  have hprofiles : (setReasons c r s).profiles = s.profiles := (setReasons_same c r s).same .profiles (by decide)
  rw [bankAtLimit, bankAtLimit, State.cabinet, State.cabinet, setReasons_coins, hprofiles]

/-- One chute's judgement leaves what is judged of every chute as it was. -/
theorem limitJudged_setReasons (c d : Chute) (s : State) :
    limitJudged (setReasons c (limitJudged s c).reasons s) d = limitJudged s d := by
  rw [limitJudged, bankAtLimit_setReasons, setReasons_chute]
  split
  · next h =>
    subst h
    rfl
  · rfl

/-- BANK_LIMIT judged for a list of chutes touches the chutes of the list alone. -/
theorem judgeLimits_coins (l : List Chute) (s : State) :
    (forAll l (fun c s => setReasons c (limitJudged s c).reasons s) s).coins =
      { s.coins with chutes := Vector.ofFn fun c => if c ∈ l then limitJudged s c else s.chute c } := by
  induction l generalizing s with
  | nil =>
    refine congrArg (fun v => { s.coins with chutes := v }) (Tab.ext_at fun c => ?_)
    simp [forAll, State.chute]
  | cons c l ih =>
    rw [forAll, List.foldl_cons]
    refine (ih _).trans ?_
    rw [setReasons_coins]
    refine congrArg (fun v => { s.coins with chutes := v }) (Tab.ext_at fun d => ?_)
    simp only [Tab.at_ofFn, limitJudged_setReasons, setReasons_chute, List.mem_cons]
    by_cases hd : d = c
    · subst hd
      simp [limitJudged]
    · simp [hd]

theorem judgeBankLimit_linkKept (s : State) : LinkKept s (judgeBankLimit s) := by
  unfold judgeBankLimit judgeTogether
  have hjudged := LinkKept.forAll (f := fun c s => setReasons c (limitJudged s c).reasons s)
    (fun c u => setReasons_linkKept ..) allFour s
  dsimp only
  split
  · exact hjudged.trans (post_linkKept ..)
  · exact hjudged

/-- BANK_LIMIT judged is judged for all four chutes, and changes nothing else of the coin unit. -/
theorem judgeBankLimit_coins (s : State) :
    (judgeBankLimit s).coins = { s.coins with chutes := Vector.ofFn (limitJudged s) } := by
  have hall : ∀ c : Chute, c ∈ allFour := by decide
  have hjudged := judgeLimits_coins allFour s
  simp only [hall, ↓reduceIte] at hjudged
  unfold judgeBankLimit judgeTogether
  dsimp only
  split
  · exact ((postBank_same ..).same .coins (by decide)).trans hjudged
  · exact hjudged

/-! #### The start of a pulse -/

theorem mayPulse_iff (n : Slot) (s : State) :
    mayPulse n s = true ↔
      s.generator n = .idle ∧ s.queue n ≠ [] ∧ s.co.current = some n ∧ s.router.owner = .slot n := by
  simp [mayPulse, and_assoc]

theorem judgePulse_waits {n : Slot} {s : State} (h : s.generator n ≠ .idle ∨ s.router.owner ≠ .slot n) :
    judgePulse n s = s := by
  have hno : ¬mayPulse n s = true := by
    rw [mayPulse_iff]
    tauto
  rw [judgePulse, if_neg hno]

/-- The coin unit with the unit at the head of a slot's queue played: the total counts it, and the generator holds the
line with the times and levels of the slot's working COINS section (R166). -/
def pulseStarted (n : Slot) (line : CoinLine) (rest : List CoinLine) (s : State) : Coins :=
  { s.coins with
    queues := s.coins.queues.put n rest
    delivered := s.coins.delivered + 1
    lineHigh := s.coins.lineHigh.put n (s.profile n).coins.lineHigh
    generators := s.coins.generators.put n
      (.on line (s.now + ms (s.profile n).coins.pulseOn) (ms (s.profile n).coins.pulseGap)) }

/-- The state in which a pulse's start counts the unit: the unit has left the queue and joined the delivered total. -/
def unitTaken (n : Slot) (rest : List CoinLine) (s : State) : State :=
  { s.setQueue n rest with coins := { (s.setQueue n rest).coins with delivered := s.coins.delivered + 1 } }

theorem judgePulse_eq {n : Slot} {line : CoinLine} {rest : List CoinLine} {s : State} (hm : mayPulse n s = true)
    (hq : s.queue n = line :: rest) :
    judgePulse n s =
      (readCoinLevels n (increment (coinsDelivered n) (unitTaken n rest s))).setGenerator n
        (.on line ((increment (coinsDelivered n) (unitTaken n rest s)).now + ms (s.profile n).coins.pulseOn)
          (ms (s.profile n).coins.pulseGap)) := by
  rw [judgePulse, if_pos hm, hq]
  rfl

/-- What the start of a pulse does (R166). -/
theorem judgePulse_starts {n : Slot} {line : CoinLine} {rest : List CoinLine} {s : State} (hm : mayPulse n s = true)
    (hq : s.queue n = line :: rest) :
    LinkKept s (judgePulse n s) ∧ (judgePulse n s).coins = pulseStarted n line rest s ∧
      (judgePulse n s).counters = (increment (coinsDelivered n) s).counters := by
  have hsame := increment_same (coinsDelivered n) (unitTaken n rest s)
  have hnow := hsame.same .now (by decide)
  have hcoins := hsame.same .coins (by decide)
  have hprofiles := hsame.same .profiles (by decide)
  simp only [Block.same] at hnow hcoins hprofiles
  rw [judgePulse_eq hm hq]
  refine ⟨increment_linkKept (coinsDelivered n) (unitTaken n rest s), ?_, increment_counters_congr _ rfl⟩
  simp only [State.setGenerator, readCoinLevels, State.profile, hnow, hcoins, hprofiles]
  rfl

/-- A generator that judges lets everything stand, or starts a pulse with the unit at its queue's head. -/
theorem judgePulse_cases (n : Slot) (s : State) :
    judgePulse n s = s ∨ ∃ line rest, mayPulse n s = true ∧ s.queue n = line :: rest := by
  by_cases hm : mayPulse n s = true
  · obtain ⟨-, hne, -⟩ := (mayPulse_iff n s).1 hm
    obtain ⟨line, rest, hq⟩ := List.exists_cons_of_ne_nil hne
    exact .inr ⟨line, rest, hm, hq⟩
  · exact .inl (if_neg hm)

theorem judgePulse_linkKept (n : Slot) (s : State) : LinkKept s (judgePulse n s) := by
  rcases judgePulse_cases n s with h | ⟨line, rest, hm, hq⟩
  · rw [h]
    exact .refl s
  · exact (judgePulse_starts hm hq).1

/-- What a judgement of a slot's generator leaves of the coin unit: the bank, the totals of coins in and drained, the
chutes, the meters and every other slot's queue and generator. -/
theorem judgePulse_keeps (n : Slot) (s : State) :
    (judgePulse n s).coins.bank = s.coins.bank ∧ (judgePulse n s).coins.accepted = s.coins.accepted ∧
      (judgePulse n s).coins.drained = s.coins.drained ∧ (∀ c, (judgePulse n s).chute c = s.chute c) ∧
      ∀ m, m ≠ n → (judgePulse n s).queue m = s.queue m ∧ (judgePulse n s).generator m = s.generator m := by
  rcases judgePulse_cases n s with h | ⟨line, rest, hm, hq⟩
  · simp [h]
  · obtain ⟨-, hcoins, -⟩ := judgePulse_starts hm hq
    refine ⟨by rw [hcoins]; rfl, by rw [hcoins]; rfl, by rw [hcoins]; rfl, fun c => by rw [State.chute, hcoins]; rfl,
      fun m hne => ?_⟩
    simp [State.queue, State.generator, hcoins, pulseStarted, Tab.at_put, hne]

/-! #### A request that its block answers with a change -/

/-- The state a block is handed: `dt` ticks have passed, and the request is in service in the buffer `b`. -/
def State.inService (s : State) (dt : Nat) (b : List Place) : State :=
  { s.tick dt with link := { s.link with buffer := b } }

/-- The state with the reply to a request given to the link as the block left it. -/
def State.replying (t : State) (b : List Place) (r : Reply) : State := { t with link := t.link.replied b r }

/-- A request that its block answers with OK after a change that leaves the link's buffer and replies alone. -/
theorem request_done {s t : State} {dt : Nat} {kind tag : Byte} {p : List Byte} {b : List Place}
    (h : Turn kind tag p s b) {check : State → List Byte → Option Result}
    {block : State → List Byte → State × Option Answer} (hc : check (s.inService dt b) p = none)
    (hb : block (s.inService dt b) p = unchanged .ok t) (hl : LinkKept (s.inService dt b) t) :
    request dt kind tag p check block s = .next (conclude (t.replying b ⟨kind, tag, .ok, []⟩)) :=
  request_answered h hc hb (by rw [hl]; rfl)

theorem replying_link {s t : State} {dt : Nat} {b : List Place} (hl : LinkKept (s.inService dt b) t) (r : Reply) :
    (t.replying b r).link = { s.link.replied b r with notices := (t.replying b r).link.notices } := by
  unfold LinkKept at hl
  simp only [State.replying, Link.replied]
  rw [hl]
  rfl

theorem replying_now {l : List Block} {s t : State} {dt : Nat} {b : List Place} (h : SameOutside l (s.inService dt b) t)
    (hnow : Block.now ∉ l) (r : Reply) : (t.replying b r).now = s.now + dt :=
  h.same .now hnow

/-- What a block changes, and time and the link, are what its request changes. -/
theorem replying_same {l L : List Block} {s t : State} {dt : Nat} {b : List Place}
    (h : SameOutside l (s.inService dt b) t) (hl : l ⊆ L) (hnow : Block.now ∈ L) (hlink : Block.link ∈ L) (r : Reply) :
    SameOutside L s (t.replying b r) :=
  ((((SameOutside.refl L s).with_now hnow).with_link hlink).and h hl).with_link hlink

/-! #### The checks of a payload of two bytes (R7) -/

/-- Two bytes, each with its range: the first is judged first. -/
theorem twoByteLayout (x y : Byte) (lo hi lo' hi' : Nat) (s : State) :
    fixedLayout 2 (fun p => [byteCheck 0 0 lo hi p, byteCheck 0 1 lo' hi' p]) s [x, y] =
      if lo ≤ x.toNat ∧ x.toNat ≤ hi then
        if lo' ≤ y.toNat ∧ y.toNat ≤ hi' then none else some (.badField 1)
      else some (.badField 0) := by
  rw [fixedLayout, if_neg (by simp)]
  simp only [byteCheck, byteAt, firstBad, List.getD_cons_zero, List.getD_cons_succ, decide_eq_true_eq]
  split_ifs <;> rfl

/-- A boolean field is a byte of range 0 to 1. -/
theorem boolCheck_eq_byteCheck (base i : Nat) (p : List Byte) : boolCheck base i p = byteCheck base i 0 1 p := by
  simp [boolCheck, byteCheck]

end Sys2Proof.Machine

/-! ### COIN_LOCK and COIN_TOTALS_CLEAR (R160, R170, R171) -/

namespace Sys2Proof.Machine

theorem exec_coinLock (dt : Nat) (tag : Byte) (p : List Byte) (s : State) :
    exec (.coinLock dt tag p) s =
      request dt 0x14 tag p (fixedLayout 2 fun p => [byteCheck 0 0 1 4 p, boolCheck 0 1 p]) coinLockBlock s := rfl

theorem exec_coinTotalsClear (dt : Nat) (tag : Byte) (p : List Byte) (s : State) :
    exec (.coinTotalsClear dt tag p) s = request dt 0x15 tag p noPayload coinTotalsClearBlock s := rfl

/-! #### A chute's host lock -/

theorem coinLockLayout (x y : Byte) (s : State) :
    fixedLayout 2 (fun p => [byteCheck 0 0 1 4 p, boolCheck 0 1 p]) s [x, y] =
      if 1 ≤ x.toNat ∧ x.toNat ≤ 4 then if y.toNat ≤ 1 then none else some (.badField 1)
      else some (.badField 0) := by
  simpa only [boolCheck_eq_byteCheck, Nat.zero_le, true_and] using twoByteLayout x y 1 4 0 1 s

theorem coinLockLayout_passes (c : Chute) (lock : Bool) (s : State) :
    fixedLayout 2 (fun p => [byteCheck 0 0 1 4 p, boolCheck 0 1 p]) s [BitVec.ofNat 8 (c.val + 1), boolByte lock] =
      none := by
  have hx : 1 ≤ (BitVec.ofNat 8 (c.val + 1)).toNat ∧ (BitVec.ofNat 8 (c.val + 1)).toNat ≤ 4 := by
    revert c
    decide
  have hy : (boolByte lock).toNat ≤ 1 := by
    cases lock <;> decide
  rw [coinLockLayout, if_pos hx, if_pos hy]

/-- A chute's number, 1 to 4, names the chute. -/
theorem payloadChute_chuteNumber (c : Chute) (rest : List Byte) :
    payloadChute (BitVec.ofNat 8 (c.val + 1) :: rest) = c := by
  revert c
  simp only [payloadChute, byteAt, List.getD_cons_zero]
  decide

theorem flagAt_boolByte (x : Byte) (lock : Bool) : flagAt [x, boolByte lock] 1 = lock := by
  cases lock <;> rfl

/-- A chute's host lock set or cleared, and LINK judged with it (R170). -/
def lockChute (c : Chute) (lock : Bool) (s : State) : State :=
  judgeLink c (s.setChute c { s.chute c with hostLock := lock })

theorem coinLockBlock_eq (c : Chute) (lock : Bool) (s : State) :
    coinLockBlock s [BitVec.ofNat 8 (c.val + 1), boolByte lock] = unchanged .ok (lockChute c lock s) := by
  simp only [coinLockBlock, payloadChute_chuteNumber, flagAt_boolByte, lockChute]

theorem lockChute_eq (c : Chute) (lock : Bool) (s : State) :
    lockChute c lock s = setReasons c { (s.chute c).reasons with link := lock }
      (s.setChute c { s.chute c with hostLock := lock }) := by
  simp [lockChute, judgeLink, State.chute_setChute]

theorem lockChute_same (c : Chute) (lock : Bool) (s : State) : SameOutside [.link, .coins] s (lockChute c lock s) :=
  (State.setChute_same s c _).mono (by decide) |>.trans (judgeLink_same c _)

theorem lockChute_linkKept (c : Chute) (lock : Bool) (s : State) : LinkKept s (lockChute c lock s) := by
  rw [lockChute_eq]
  exact (LinkKept.of_eq (State.setChute_link ..)).trans (setReasons_linkKept ..)

/-- The chute's record is all that changes of the coin unit, in its flag and its LINK reason. -/
theorem lockChute_coins (c : Chute) (lock : Bool) (s : State) :
    (lockChute c lock s).coins = { s.coins with chutes := s.coins.chutes.put c { s.chute c with
      hostLock := lock, reasons := { (s.chute c).reasons with link := lock } } } := by
  rw [lockChute_eq, setReasons_coins, State.chute_setChute, if_pos rfl]
  exact congrArg (fun v => { s.coins with chutes := v }) (Tab.put_put ..)

theorem lockChute_posts {c : Chute} {lock : Bool} {s : State} (hlock : (s.chute c).reasons.link ≠ lock)
    (hm : s.link.mask.at 5 = true) :
    ∃ e ∈ (lockChute c lock s).link.notices, e.notice =
      .chute c ((lockChute c lock s).chute c).state.code .lockout ((lockChute c lock s).chute c).reasons := by
  have hchute : (lockChute c lock s).chute c =
      { s.chute c with hostLock := lock, reasons := { (s.chute c).reasons with link := lock } } := by
    rw [State.chute, lockChute_coins]
    exact Tab.at_put_self ..
  have hr : ({ (s.chute c).reasons with link := lock } : Reasons) ≠
      ((s.setChute c { s.chute c with hostLock := lock }).chute c).reasons := by
    rw [State.chute_setChute, if_pos rfl]
    exact fun h => hlock (congrArg Reasons.link h).symm
  rw [hchute, lockChute_eq]
  obtain ⟨e, he, hn⟩ := setReasons_posts hr hm
  refine ⟨e, he, hn.trans ?_⟩
  rw [State.chute_setChute, if_pos rfl]

/-! #### The totals cleared -/

theorem moneyGone_iff (s : State) :
    moneyGone s = true ↔ s.coins.bank = 0 ∧ ∀ n, s.queue n = [] ∧ (s.generator n).isOn = false := by
  have hall : ∀ n : Slot, n ∈ allSlots := by decide
  simp [moneyGone, hall]

/-- The three totals set to 0, and CLEARED posted (R171, R174). -/
def clearTotals (s : State) : State :=
  postBank .cleared { s with coins := { s.coins with accepted := 0, delivered := 0, drained := 0 } }

theorem coinTotalsClearBlock_cleared {s : State} (h : moneyGone s = true) (p : List Byte) :
    coinTotalsClearBlock s p = unchanged .ok (clearTotals s) := if_pos h

theorem coinTotalsClearBlock_refused {s : State} (h : ¬moneyGone s = true) (p : List Byte) :
    coinTotalsClearBlock s p = unchanged .wrongState s := if_neg h

theorem clearTotals_same (s : State) : SameOutside [.link, .coins] s (clearTotals s) :=
  ((SameOutside.refl _ s).with_coins (by decide)).and (postBank_same ..) (by decide)

theorem clearTotals_linkKept (s : State) : LinkKept s (clearTotals s) :=
  post_linkKept ..

theorem clearTotals_coins (s : State) :
    (clearTotals s).coins = { s.coins with accepted := 0, delivered := 0, drained := 0 } :=
  (postBank_same ..).same .coins (by decide)

theorem clearTotals_posts {s : State} (hbank : s.coins.bank = 0) (hm : s.link.mask.at 5 = true) :
    ∃ e ∈ (clearTotals s).link.notices, e.notice =
      .bank 0 .cleared (decide (s.cabinet.bankLimit = 0)) s.coins.startup := by
  obtain ⟨e, he, hn, -⟩ := exists_post
    (n := .bank s.coins.bank .cleared (decide (s.cabinet.bankLimit ≤ s.coins.bank)) s.coins.startup)
    (s := { s with coins := { s.coins with accepted := 0, delivered := 0, drained := 0 } })
    (fun m => by cases m <;> rfl) hm
  refine ⟨e, he, hn.trans ?_⟩
  simp only [hbank, Nat.le_zero]

/-! #### The commands accepted -/

/-- COIN_LOCK of a chute's number and a flag locks or unlocks the chute, and is replied to. -/
theorem coinLock_locks {dt : Nat} {tag : Byte} {s : State} {b : List Place} {c : Chute} {lock : Bool}
    (hturn : Turn 0x14 tag [BitVec.ofNat 8 (c.val + 1), boolByte lock] s b) :
    exec (.coinLock dt tag [BitVec.ofNat 8 (c.val + 1), boolByte lock]) s =
      .next (conclude ((lockChute c lock (s.inService dt b)).replying b ⟨0x14, tag, .ok, []⟩)) := by
  rw [exec_coinLock, request_done hturn (coinLockLayout_passes ..) (coinLockBlock_eq ..) (lockChute_linkKept ..)]

/-- COIN_TOTALS_CLEAR with no money left clears the totals, and is replied to. -/
theorem coinTotalsClear_clears {dt : Nat} {tag : Byte} {s : State} {b : List Place} (hturn : Turn 0x15 tag [] s b)
    (hgone : moneyGone (s.inService dt b) = true) :
    exec (.coinTotalsClear dt tag []) s =
      .next (conclude ((clearTotals (s.inService dt b)).replying b ⟨0x15, tag, .ok, []⟩)) := by
  rw [exec_coinTotalsClear,
    request_done hturn (noPayload_nil _) (coinTotalsClearBlock_cleared hgone _) (clearTotals_linkKept _)]

/-- Settles O44: a chute's number and a flag pass the checks, and the block sets the host lock and judges LINK with it;
other fields are refused, the chute's first. COIN_TOTALS_CLEAR clears exactly when no money is left. -/
theorem chutesLockAndTotalsClear : Obligations.ChutesLockAndTotalsClear := by
  intro dt tag s b said
  refine ⟨?_, fun x y hturn => ⟨fun hx => ?_, fun hlo hhi hy => ?_⟩, ?_⟩
  · intro c lock p hturn
    have hsame := lockChute_same c lock (s.inService dt b)
    have hlink := lockChute_linkKept c lock (s.inService dt b)
    exact ⟨(lockChute c lock (s.inService dt b)).replying b _, coinLock_locks hturn,
      replying_now hsame (by decide) _, replying_link hlink _, lockChute_coins ..,
      fun hm hlock => lockChute_posts (s := s.inService dt b) hlock hm,
      replying_same hsame (by decide) (by decide) (by decide) _⟩
  · have hout : ¬(1 ≤ x.toNat ∧ x.toNat ≤ 4) := by
      rcases hx with rfl | hx
      · decide
      · omega
    rw [exec_coinLock, request_refused hturn ((coinLockLayout ..).trans (if_neg hout))]
  · have hbad : ¬y.toNat ≤ 1 := by omega
    rw [exec_coinLock, request_refused hturn
      ((coinLockLayout ..).trans ((if_pos ⟨hlo, hhi⟩).trans (if_neg hbad)))]
  · intro hturn gone
    refine ⟨fun hgone => ?_, fun hgone => ?_⟩
    · have hno : ¬moneyGone (s.inService dt b) = true := fun h => hgone ((moneyGone_iff _).1 h)
      rw [exec_coinTotalsClear, request_quiet hturn (noPayload_nil _) (coinTotalsClearBlock_refused hno _)]
      rfl
    · have hyes : moneyGone (s.inService dt b) = true := (moneyGone_iff _).2 hgone
      obtain ⟨hbank, -⟩ := hgone
      have hsame := clearTotals_same (s.inService dt b)
      have hlink := clearTotals_linkKept (s.inService dt b)
      exact ⟨(clearTotals (s.inService dt b)).replying b _, coinTotalsClear_clears hturn hyes,
        replying_now hsame (by decide) _, replying_link hlink _, clearTotals_coins ..,
        clearTotals_posts (s := s.inService dt b) hbank, replying_same hsame (by decide) (by decide) (by decide) _⟩

end Sys2Proof.Machine

/-! ### COIN_DELIVER and COIN_DRAIN (R160, R168, R169) -/

namespace Sys2Proof.Machine

theorem exec_coinDeliver (dt : Nat) (tag : Byte) (p : List Byte) (s : State) :
    exec (.coinDeliver dt tag p) s =
      request dt 0x12 tag p (fixedLayout 2 fun p => [byteCheck 0 0 1 32 p, byteCheck 0 1 1 4 p]) coinDeliverBlock s := rfl

theorem exec_coinDrain (dt : Nat) (tag : Byte) (p : List Byte) (s : State) :
    exec (.coinDrain dt tag p) s =
      request dt 0x13 tag p (fixedLayout 2 fun p => [wordCheck 0 0 1 65535 p]) coinDrainBlock s := rfl

/-- BANK_LIMIT stands at every chute exactly while a bank of so many units is at the working limit. -/
theorem limitJudged_of_bank {s t : State} {k : Nat} (hbank : t.coins.bank = k) (hprofiles : t.profiles = s.profiles)
    (hchutes : t.coins.chutes = s.coins.chutes) (c : Chute) :
    limitJudged t c = { s.chute c with
      reasons := { (s.chute c).reasons with bankLimit := decide (s.cabinet.bankLimit ≤ k) } } := by
  have hchute : t.chute c = s.chute c := by
    rw [State.chute, hchutes]
    rfl
  have hlimit : bankAtLimit t = decide (s.cabinet.bankLimit ≤ k) := by
    rw [bankAtLimit, State.cabinet, hprofiles, hbank]
    rfl
  rw [limitJudged, hchute, hlimit]

/-! #### Credit delivered to a slot -/

/-- The bank less the units, and the units at the tail of the slot's queue. -/
def creditQueued (n : Slot) (units : Nat) (k : CoinLine) (s : State) : State :=
  { s with coins := { s.coins with
      bank := s.coins.bank - units, queues := s.coins.queues.put n (s.queue n ++ List.replicate units k) } }

/-- The units queued, with BANK_LIMIT judged: what the slot's generator judges. -/
def creditJudged (n : Slot) (units : Nat) (k : CoinLine) (s : State) : State :=
  judgeBankLimit (creditQueued n units k s)

theorem deliver_eq (n : Slot) (units : Nat) (k : CoinLine) (s : State) :
    deliver n units k s = judgePulse n (creditJudged n units k s) := rfl

theorem creditJudged_same (n : Slot) (units : Nat) (k : CoinLine) (s : State) :
    SameOutside [.link, .coins] s (creditJudged n units k s) :=
  ((SameOutside.refl _ s).with_coins (by decide)).trans (judgeBankLimit_same _)

theorem creditJudged_coins (n : Slot) (units : Nat) (k : CoinLine) (s : State) :
    (creditJudged n units k s).coins =
      { (creditQueued n units k s).coins with chutes := Vector.ofFn (limitJudged (creditQueued n units k s)) } :=
  judgeBankLimit_coins _

theorem creditJudged_queue (n m : Slot) (units : Nat) (k : CoinLine) (s : State) :
    (creditJudged n units k s).queue m = if m = n then s.queue n ++ List.replicate units k else s.queue m := by
  rw [State.queue, creditJudged_coins]
  exact Tab.at_put ..

theorem creditJudged_generator (n m : Slot) (units : Nat) (k : CoinLine) (s : State) :
    (creditJudged n units k s).generator m = s.generator m := by
  rw [State.generator, creditJudged_coins]
  rfl

theorem deliver_linkKept (n : Slot) (units : Nat) (k : CoinLine) (s : State) : LinkKept s (deliver n units k s) := by
  have hqueued : LinkKept s (creditQueued n units k s) := .of_eq rfl
  exact (hqueued.trans (judgeBankLimit_linkKept _)).trans (judgePulse_linkKept ..)

/-- What a delivery does whether or not a pulse starts. -/
theorem deliver_moves (n : Slot) (units : Nat) (k : CoinLine) (s : State) :
    let u := deliver n units k s
    u.coins.bank = s.coins.bank - units ∧ u.coins.accepted = s.coins.accepted ∧ u.coins.drained = s.coins.drained ∧
      (∀ c, u.chute c = { s.chute c with
        reasons := { (s.chute c).reasons with bankLimit := decide (s.cabinet.bankLimit ≤ s.coins.bank - units) } }) ∧
      ∀ m, m ≠ n → u.queue m = s.queue m ∧ u.generator m = s.generator m := by
  intro u
  obtain ⟨hbank, haccepted, hdrained, hchutes, hothers⟩ := judgePulse_keeps n (creditJudged n units k s)
  have hcoins := creditJudged_coins n units k s
  refine ⟨hbank.trans (by rw [hcoins]; rfl), haccepted.trans (by rw [hcoins]; rfl),
    hdrained.trans (by rw [hcoins]; rfl), fun c => (hchutes c).trans ?_, fun m hm => ?_⟩
  · rw [State.chute, hcoins, Tab.at_ofFn]
    exact limitJudged_of_bank rfl rfl rfl c
  · obtain ⟨hqueue, hgenerator⟩ := hothers m hm
    rw [creditJudged_queue, if_neg hm] at hqueue
    rw [creditJudged_generator] at hgenerator
    exact ⟨hqueue, hgenerator⟩

/-- A generator that is busy, or whose slot has not the controls, leaves the units queued. -/
theorem deliver_waits {n : Slot} {s : State} (h : s.generator n ≠ .idle ∨ s.router.owner ≠ .slot n) (units : Nat)
    (k : CoinLine) :
    let u := deliver n units k s
    u.queue n = s.queue n ++ List.replicate units k ∧ u.generator n = s.generator n ∧
      u.coins.delivered = s.coins.delivered ∧ u.counters = s.counters := by
  intro u
  have hsame := creditJudged_same n units k s
  have hrouter : (creditJudged n units k s).router = s.router := hsame.same .router (by decide)
  have hu : u = creditJudged n units k s :=
    (deliver_eq ..).trans (judgePulse_waits (by rwa [creditJudged_generator, hrouter]))
  rw [hu, creditJudged_queue, if_pos rfl, creditJudged_generator, creditJudged_coins]
  exact ⟨rfl, rfl, rfl, hsame.same .counters (by decide)⟩

/-- An idle generator of the current slot, with the controls and nothing queued before, plays the first unit at once. -/
theorem deliver_starts {n : Slot} {s : State} {units : Nat} (hunits : 1 ≤ units) (hidle : s.generator n = .idle)
    (hcurrent : s.co.current = some n) (howner : s.router.owner = .slot n) (hempty : s.queue n = []) (k : CoinLine) :
    let u := deliver n units k s
    u.queue n = List.replicate (units - 1) k ∧
      u.generator n = .on k (s.now + 27000 * (s.profile n).coins.pulseOn) (27000 * (s.profile n).coins.pulseGap) ∧
      u.coins.delivered = s.coins.delivered + 1 ∧ u.counters = (increment (coinsDelivered n) s).counters := by
  intro u
  have hsame := creditJudged_same n units k s
  have hrouter : (creditJudged n units k s).router = s.router := hsame.same .router (by decide)
  have hco : (creditJudged n units k s).co = s.co := hsame.same .co (by decide)
  have hnow : (creditJudged n units k s).now = s.now := hsame.same .now (by decide)
  have hprofiles : (creditJudged n units k s).profiles = s.profiles := hsame.same .profiles (by decide)
  have hqueue : (creditJudged n units k s).queue n = k :: List.replicate (units - 1) k := by
    rw [creditJudged_queue, if_pos rfl, hempty, List.nil_append, ← List.replicate_succ, Nat.sub_add_cancel hunits]
  have hmay : mayPulse n (creditJudged n units k s) = true := by
    rw [mayPulse_iff, creditJudged_generator, hqueue, hco, hrouter]
    exact ⟨hidle, List.cons_ne_nil _ _, hcurrent, howner⟩
  obtain ⟨-, hcoins, hcounters⟩ := judgePulse_starts hmay hqueue
  rw [← deliver_eq] at hcoins hcounters
  refine ⟨?_, ?_, ?_, hcounters.trans (increment_counters_congr _ (hsame.same .counters (by decide)))⟩
  · rw [State.queue, hcoins]
    exact Tab.at_put_self ..
  · rw [State.generator, hcoins, pulseStarted, Tab.at_put_self, hnow, State.profile, hprofiles]
    simp only [ms, Config.ticksPerMs, Nat.mul_comm _ 27000]
    rfl
  · rw [hcoins, pulseStarted, creditJudged_coins]
    rfl

/-! #### COIN_DELIVER's block -/

theorem coinDeliverBlock_elsewhere {s : State} (h : s.co.record ≠ none ∨ s.co.current = none) (p : List Byte) :
    coinDeliverBlock s p = unchanged .wrongState s := by
  unfold coinDeliverBlock
  dsimp only
  split
  · next hrecord hcurrent => simp [hrecord, hcurrent] at h
  · rfl

/-- With a current slot and no changeover in flight: the bank is judged first, then the room in the queue. -/
theorem coinDeliverBlock_current {s : State} {n : Slot} (hrecord : s.co.record = none) (hcurrent : s.co.current = some n)
    (x y : Byte) :
    coinDeliverBlock s [x, y] =
      if s.coins.bank < x.toNat then unchanged .noCredit s
      else if 32 - (s.queue n).length < x.toNat then unchanged .queueFull s
      else unchanged .ok (deliver n x.toNat (payloadLine [x, y]) s) := by
  simp only [coinDeliverBlock, hrecord, hcurrent]
  rfl

theorem payloadLine_eq (x : Byte) {y : Byte} (hy : 1 ≤ y.toNat) :
    payloadLine [x, y] = ⟨(y.toNat - 1) % 4, by omega⟩ := by
  refine Fin.ext ?_
  change (y.toNat + 3) % 4 = (y.toNat - 1) % 4
  omega

/-! #### Credit drained -/

theorem coinDrainLayout (x y : Byte) (s : State) :
    fixedLayout 2 (fun p => [wordCheck 0 0 1 65535 p]) s [x, y] =
      if 1 ≤ x.toNat + 256 * y.toNat then none else some (.badField 0) := by
  have hle : x.toNat + 256 * y.toNat ≤ 65535 := by
    have := x.isLt
    have := y.isLt
    omega
  rw [fixedLayout, if_neg (by simp)]
  simp only [wordCheck, word2, byteAt, firstBad, List.getD_cons_zero, List.getD_cons_succ, decide_eq_true_eq, hle,
    and_true]
  split_ifs <;> rfl

theorem coinDrainBlock_eq (s : State) (x y : Byte) :
    coinDrainBlock s [x, y] =
      if s.coins.bank < x.toNat + 256 * y.toNat then unchanged .noCredit s
      else unchanged .ok (drain (x.toNat + 256 * y.toNat) s) := rfl

/-- The bank less the units, and the drained total more. -/
def creditTaken (units : Nat) (s : State) : State :=
  { s with coins := { s.coins with
      bank := s.coins.bank - units, drained := s.coins.drained + BitVec.ofNat 32 units } }

theorem drain_linkKept (units : Nat) (s : State) : LinkKept s (drain units s) :=
  (LinkKept.of_eq (t := creditTaken units s) rfl).trans (judgeBankLimit_linkKept _)

theorem drain_coins (units : Nat) (s : State) :
    (drain units s).coins =
      { (creditTaken units s).coins with chutes := Vector.ofFn (limitJudged (creditTaken units s)) } :=
  judgeBankLimit_coins (creditTaken units s)

theorem drain_chute (units : Nat) (s : State) (c : Chute) :
    (drain units s).chute c = { s.chute c with
      reasons := { (s.chute c).reasons with bankLimit := decide (s.cabinet.bankLimit ≤ s.coins.bank - units) } } := by
  rw [State.chute, drain_coins, Tab.at_ofFn]
  exact limitJudged_of_bank rfl rfl rfl c

theorem drain_totals (units : Nat) (s : State) :
    (drain units s).coins = { s.coins with
      bank := s.coins.bank - units, drained := s.coins.drained + BitVec.ofNat 32 units,
      chutes := (drain units s).coins.chutes } := by
  rw [drain_coins]
  rfl

/-! #### The commands accepted -/

/-- An accepted COIN_DELIVER is a delivery on the line the payload names, and its reply. -/
theorem coinDeliver_delivers {dt : Nat} {tag x y : Byte} {s : State} {b : List Place} {n : Slot} {k : CoinLine}
    (hturn : Turn 0x12 tag [x, y] s b)
    (hpass : fixedLayout 2 (fun p => [byteCheck 0 0 1 32 p, byteCheck 0 1 1 4 p]) (s.inService dt b) [x, y] = none)
    (hblock : coinDeliverBlock (s.inService dt b) [x, y] = unchanged .ok (deliver n x.toNat k (s.inService dt b))) :
    exec (.coinDeliver dt tag [x, y]) s =
      .next (conclude ((deliver n x.toNat k (s.inService dt b)).replying b ⟨0x12, tag, .ok, []⟩)) := by
  rw [exec_coinDeliver, request_done hturn hpass hblock (deliver_linkKept ..)]

/-- An accepted COIN_DRAIN is a drain, and its reply. -/
theorem coinDrain_drains {dt : Nat} {tag x y : Byte} {s : State} {b : List Place} (hturn : Turn 0x13 tag [x, y] s b)
    (hsome : 1 ≤ x.toNat + 256 * y.toNat) (hbank : ¬s.coins.bank < x.toNat + 256 * y.toNat) :
    exec (.coinDrain dt tag [x, y]) s =
      .next (conclude ((drain (x.toNat + 256 * y.toNat) (s.inService dt b)).replying b ⟨0x13, tag, .ok, []⟩)) := by
  have hpass := (coinDrainLayout x y (s.inService dt b)).trans (if_pos hsome)
  have hblock := (coinDrainBlock_eq (s.inService dt b) x y).trans (if_neg hbank)
  rw [exec_coinDrain, request_done hturn hpass hblock (drain_linkKept ..)]

/-- Settles O43: each refusal is a branch of the checks or of the block, in its order; a delivery judges BANK_LIMIT and
then the slot's generator, which plays the first unit or lets the units wait; a drain judges BANK_LIMIT alone. -/
theorem creditIsDeliveredAndDrained : Obligations.CreditIsDeliveredAndDrained := by
  intro dt tag x y s b p said judged units
  refine ⟨fun hturn => ⟨fun hunits => ?_, fun hlo hhi => ⟨fun hline => ?_, fun hone hfour => ?_⟩⟩, ?_⟩
  · have hout : ¬(1 ≤ x.toNat ∧ x.toNat ≤ 32) := by omega
    exact request_refused hturn ((twoByteLayout ..).trans (if_neg hout)) _
  · have hout : ¬(1 ≤ y.toNat ∧ y.toNat ≤ 4) := by omega
    exact request_refused hturn ((twoByteLayout ..).trans ((if_pos ⟨hlo, hhi⟩).trans (if_neg hout))) _
  · have hpass : fixedLayout 2 (fun p => [byteCheck 0 0 1 32 p, byteCheck 0 1 1 4 p]) (s.inService dt b) [x, y] = none :=
      (twoByteLayout ..).trans ((if_pos ⟨hlo, hhi⟩).trans (if_pos ⟨hone, hfour⟩))
    refine ⟨fun helsewhere => ?_, fun n hrecord hcurrent => ?_⟩
    · exact request_quiet hturn hpass (coinDeliverBlock_elsewhere (s := s.inService dt b) helsewhere _)
    have hblock := coinDeliverBlock_current (s := s.inService dt b) hrecord hcurrent x y
    refine ⟨fun hbank => ?_, fun hbank hfull hlength => ?_, fun hbank hroom => ?_⟩
    · exact request_quiet hturn hpass (hblock.trans (if_pos hbank))
    · have hno : 32 - (s.queue n).length < x.toNat := by omega
      exact request_quiet hturn hpass (hblock.trans ((if_neg hbank.not_gt).trans (if_pos hno)))
    · have hfits : ¬32 - (s.queue n).length < x.toNat := by omega
      obtain ⟨k, hk⟩ : ∃ k : CoinLine, k = ⟨(y.toNat - 1) % 4, by omega⟩ := ⟨_, rfl⟩
      rw [payloadLine_eq x hone, ← hk] at hblock
      have hsame := deliver_same n units k (s.inService dt b)
      have hlink := deliver_linkKept n units k (s.inService dt b)
      have hdone := coinDeliver_delivers hturn hpass (hblock.trans ((if_neg hbank.not_gt).trans (if_neg hfits)))
      obtain ⟨hless, haccepted, hdrained, hjudged, hothers⟩ := deliver_moves n units k (s.inService dt b)
      refine ⟨(deliver n units k (s.inService dt b)).replying b _, k, hdone, hk,
        replying_now hsame (by decide) _, replying_link hlink _, hless, haccepted, hdrained, hjudged, hothers,
        fun hwaits => deliver_waits (s := s.inService dt b) hwaits units k, fun hidle howner hempty => ?_,
        replying_same hsame (by decide) (by decide) (by decide) _⟩
      obtain ⟨hqueue, hplays, hcounted, hcounters⟩ :=
        deliver_starts (s := s.inService dt b) hlo hidle hcurrent howner hempty k
      exact ⟨hqueue, hplays, hcounted, hcounters.trans (increment_counters_congr _ rfl)⟩
  · intro hturn units e
    refine ⟨fun hnone => ?_, fun hbank => ?_, fun hsome hbank => ?_⟩
    · have hout : ¬1 ≤ x.toNat + 256 * y.toNat := by omega
      exact request_refused hturn ((coinDrainLayout ..).trans (if_neg hout)) _
    · have hsome : 1 ≤ x.toNat + 256 * y.toNat := by omega
      exact request_quiet hturn ((coinDrainLayout ..).trans (if_pos hsome))
        ((coinDrainBlock_eq (s.inService dt b) x y).trans (if_pos hbank))
    · have hsame := drain_same units (s.inService dt b)
      have hlink := drain_linkKept units (s.inService dt b)
      exact ⟨(drain units (s.inService dt b)).replying b _, coinDrain_drains hturn hsome hbank.not_gt,
        replying_now hsame (by decide) _, replying_link hlink _, drain_totals .., drain_chute units _,
        replying_same hsame (by decide) (by decide) (by decide) _⟩

end Sys2Proof.Machine

/-! ### COUNTERS_MODE and COUNTERS_READ (R179, R180) -/

namespace Sys2Proof.Machine

theorem exec_countersMode (dt : Nat) (tag : Byte) (p : List Byte) (s : State) :
    exec (.countersMode dt tag p) s = request dt 0x17 tag p (fixedLayout 4 countersModeFields) countersModeBlock s := rfl

theorem exec_countersRead (dt : Nat) (tag : Byte) (p : List Byte) (s : State) :
    exec (.countersRead dt tag p) s = request dt 0x16 tag p (fixedLayout 3 countersReadFields) countersReadBlock s := rfl

/-- A boolean field is on exactly when its byte is 1. -/
theorem flagAt_eq_decide (p : List Byte) (i : Nat) : flagAt p i = decide (p.getD i 0 = 1) := by
  rw [flagAt, byteAt, Bool.eq_iff_iff, beq_iff_eq, decide_eq_true_iff]
  exact BitVec.toNat_inj (y := 1)

/-! #### The mode and the preset -/

/-- The three settings are judged in their order, then the preset (R179). -/
theorem countersModeLayout (fr sa rc preset : Byte) (s : State) :
    fixedLayout 4 countersModeFields s [fr, sa, rc, preset] =
      if fr.toNat ≤ 1 then
        if sa.toNat ≤ 1 then
          if rc.toNat ≤ 1 then if preset.toNat ≤ 2 then none else some (.badField 3)
          else some (.badField 2)
        else some (.badField 1)
      else some (.badField 0) := by
  rw [fixedLayout, if_neg (by simp)]
  simp only [countersModeFields, boolCheck, byteCheck, byteAt, firstBad, List.getD_cons_zero, List.getD_cons_succ,
    decide_eq_true_eq, Nat.zero_le, true_and]
  split_ifs <;> rfl

/-- A preset of HALF or FULL sets all 67 counters and clears their flags; any other leaves them (R179). -/
theorem applyPreset_eq (x : Byte) (c : Counters) :
    applyPreset x.toNat c = { c with
      table := if x = 1 then Tab.all 67 ⟨2147483632, false, false⟩
        else if x = 2 then Tab.all 67 ⟨4294967280, false, false⟩ else c.table } := by
  split_ifs with hhalf hfull
  · rw [hhalf]
    rfl
  · rw [hfull]
    rfl
  · have hone : x.toNat ≠ 1 := fun h => hhalf (BitVec.eq_of_toNat_eq h)
    have htwo : x.toNat ≠ 2 := fun h => hfull (BitVec.eq_of_toNat_eq h)
    rw [applyPreset, presetValue.eq_3 _ hone htwo]

/-- COUNTERS_MODE's block answers OK: the three settings are the request's, and the preset is applied. -/
theorem countersModeBlock_eq (fr sa rc preset : Byte) (s : State) :
    countersModeBlock s [fr, sa, rc, preset] =
      ({ s with counters :=
          { table := if preset = 1 then Tab.all 67 ⟨2147483632, false, false⟩
              else if preset = 2 then Tab.all 67 ⟨4294967280, false, false⟩ else s.counters.table
            freeze := decide (fr = 1), saturate := decide (sa = 1), readClear := decide (rc = 1) } },
        some (.plain .ok)) := by
  have hpreset : byteAt [fr, sa, rc, preset] 3 = preset.toNat := rfl
  simp only [countersModeBlock, hpreset, applyPreset_eq, flagAt_eq_decide, List.getD_cons_zero, List.getD_cons_succ]

/-! #### The range read -/

/-- The first counter is judged first, then the count with the range's end, then the clear (R180). -/
theorem countersReadLayout (first count clear : Byte) (s : State) :
    fixedLayout 3 countersReadFields s [first, count, clear] =
      if first.toNat ≤ 66 then
        if (1 ≤ count.toNat ∧ count.toNat ≤ 38) ∧ first.toNat + count.toNat ≤ 67 then
          if clear.toNat ≤ 1 then none else some (.badField 2)
        else some (.badField 1)
      else some (.badField 0) := by
  rw [fixedLayout, if_neg (by simp)]
  simp only [countersReadFields, boolCheck, byteCheck, byteAt, firstBad, List.getD_cons_zero, List.getD_cons_succ,
    Bool.and_eq_true, decide_eq_true_eq, Nat.zero_le, true_and]
  split_ifs <;> rfl

/-- The flag byte is 0 for neither, 1 for half, 2 for full, 3 for both (R180). -/
theorem flagCode_eq (half full : Bool) :
    flagCode half full =
      match half, full with
      | false, false => 0
      | true, false => 1
      | false, true => 2
      | true, true => 3 := by
  cases half <;> cases full <;> rfl

/-- The reply carries the mode, the range as the request gives it, and the counters of the range. -/
theorem countersData_eq (first count : Byte) (c : Counters) :
    countersData first.toNat count.toNat c =
      [boolByte c.freeze, boolByte c.saturate, boolByte c.readClear, first, count]
        ++ ((c.table.toList.drop first.toNat).take count.toNat).flatMap Counter.bytes := by
  have hbyte (x : Byte) : byteOf x.toNat = x := (BitVec.ofNat_toNat ..).trans (BitVec.setWidth_eq _)
  rw [countersData, modeBytes, hbyte, hbyte]
  rfl

/-- COUNTERS_READ's block answers the counters as they stand, and clears the range when the request or the mode says
so. -/
theorem countersReadBlock_eq (first count clear : Byte) (s : State) :
    countersReadBlock s [first, count, clear] =
      ({ s with counters := if clear = 1 ∨ s.counters.readClear = true then
          clearRange first.toNat count.toNat s.counters else s.counters },
        some ⟨.ok, countersData first.toNat count.toNat s.counters⟩) := by
  have hfirst : byteAt [first, count, clear] 0 = first.toNat := rfl
  have hcount : byteAt [first, count, clear] 1 = count.toNat := rfl
  simp only [countersReadBlock, hfirst, hcount, flagAt_eq_decide, List.getD_cons_zero, List.getD_cons_succ,
    Bool.or_eq_true, decide_eq_true_eq]

/-! #### The commands -/

/-- Settles O47: each refusal is a branch of the checks, in their order; an accepted COUNTERS_MODE replaces the mode and
applies the preset, and an accepted COUNTERS_READ answers the range as it stood before any clear. -/
theorem countersAreReadAndSet : Obligations.CountersAreReadAndSet := by
  intro dt tag s b said
  refine ⟨fun fr sa rc preset => ?_, fun first count clear => ?_⟩
  · intro p hturn e all
    have hlayout := countersModeLayout fr sa rc preset (s.inService dt b)
    refine ⟨fun hfr => ?_, fun hfr hsa => ?_, fun hfr hsa hrc => ?_, fun hfr hsa hrc hpreset => ?_,
      fun hfr hsa hrc hpreset => ?_⟩
    · exact request_refused hturn (hlayout.trans (if_neg hfr.not_ge)) _
    · rw [if_pos hfr, if_neg hsa.not_ge] at hlayout
      exact request_refused hturn hlayout _
    · rw [if_pos hfr, if_pos hsa, if_neg hrc.not_ge] at hlayout
      exact request_refused hturn hlayout _
    · rw [if_pos hfr, if_pos hsa, if_pos hrc, if_neg hpreset.not_ge] at hlayout
      exact request_refused hturn hlayout _
    · rw [if_pos hfr, if_pos hsa, if_pos hrc, if_pos hpreset] at hlayout
      exact request_answered hturn hlayout (countersModeBlock_eq fr sa rc preset _) rfl
  · intro p hturn e f k four flags
    have hlayout := countersReadLayout first count clear (s.inService dt b)
    refine ⟨fun hf => ?_, fun hf hk => ?_, fun hlo hhi hend hclear => ?_, fun hlo hhi hend hclear => ?_⟩
    · exact request_refused hturn (hlayout.trans (if_neg hf.not_ge)) _
    · have hout : ¬((1 ≤ k ∧ k ≤ 38) ∧ f + k ≤ 67) := by omega
      rw [if_pos hf, if_neg hout] at hlayout
      exact request_refused hturn hlayout _
    · have hf : f ≤ 66 := by omega
      rw [if_pos hf, if_pos ⟨⟨hlo, hhi⟩, hend⟩, if_neg hclear.not_ge] at hlayout
      exact request_refused hturn hlayout _
    · have hf : f ≤ 66 := by omega
      have hbytes : Counter.bytes = fun c => four c.value ++ [flags c] :=
        funext fun c => congrArg₂ (fun v x => v ++ [x]) (le4_toNat c.value) (flagCode_eq c.half c.full)
      rw [if_pos hf, if_pos ⟨⟨hlo, hhi⟩, hend⟩, if_pos hclear] at hlayout
      have hdone := request_answered hturn hlayout (countersReadBlock_eq first count clear _) rfl
      rw [countersData_eq, hbytes] at hdone
      exact hdone

end Sys2Proof.Machine

/-! ### What every step keeps: the relations between the state before and after an operation

`Basic` gathers the properties that an operation keeps whatever came before it; `Steps`, `Keeps` and `Quiet` add the
properties that speak of several blocks, and `Flies` is what an operation of a changeover in flight keeps. Each is
reflexive or transitive, so the properties of a whole step are those of the operations it is made of. -/

namespace Sys2Proof.Machine

/-- The notice table and the receive buffer are bounded (R4, R9). -/
def LinkSound (s : State) : Prop := KeysDistinct s ∧ BufferBounded s

/-- The money adds up and is within its bounds (R161 to R164). -/
def MoneySound (s : State) : Prop := Conserved s ∧ CoinsBounded s

/-- The owner of the controls is no slot, and no slot has a claim: so it is while a changeover is in flight. -/
def Unowned (s : State) : Prop := (∀ n, s.router.owner ≠ .slot n) ∧ s.router.claim = none

/-- What every operation keeps, taken by itself. -/
structure Basic (s t : State) : Prop where
  pending : t.pending = s.pending
  powered : t.powered = s.powered
  now : s.now ≤ t.now
  link : LinkSound s → LinkSound t
  money : MoneySound s → MoneySound t
  lines : LinesMatch s → LinesMatch t
  buffers : OneEach s → OneEach t
  monitors : MonitorsSound s → MonitorsSound t

/-- What every command keeps. -/
structure Steps (s t : State) : Prop extends Basic s t where
  power : PowerSound s → PowerSound t
  owner : OwnerSound s → OwnerSound t

/-- What every operation keeps that puts no board into a slot. -/
structure Keeps (s t : State) : Prop extends Steps s t where
  empty : ∀ n, (s.slot n).state = .empty → (t.slot n).state = .empty

/-- What every operation keeps that the changeover controller may ask for in flight. -/
structure Quiet (s t : State) : Prop extends Keeps s t where
  unowned : Unowned s → Unowned t

/-- What the controller's operations keep that go on with a changeover in flight. -/
structure Flies (s t : State) : Prop extends Basic s t where
  power : PowerSound s → PowerSound t
  empty : ∀ n, (s.slot n).state = .empty → (t.slot n).state = .empty
  lands : Unowned s → OwnerSound t

theorem Unowned.ownerSound {s : State} (h : Unowned s) : OwnerSound s :=
  ⟨fun n hn => absurd hn (h.1 n), fun n hn => by simp [h.2] at hn⟩

/-- With a changeover in flight no slot has the controls or a claim to them. -/
theorem OwnerSound.unowned {s : State} (h : OwnerSound s) (hr : s.co.record ≠ none) : Unowned s := by
  refine ⟨fun n hn => hr (h.1 n hn).2.1, ?_⟩
  cases hc : s.router.claim with
  | none => rfl
  | some n => exact absurd (h.2 n hc).2 hr

theorem Basic.refl (s : State) : Basic s s := ⟨rfl, rfl, le_rfl, id, id, id, id, id⟩

theorem Basic.trans {s t u : State} (h : Basic s t) (h' : Basic t u) : Basic s u where
  pending := h'.pending.trans h.pending
  powered := h'.powered.trans h.powered
  now := h.now.trans h'.now
  link := h'.link ∘ h.link
  money := h'.money ∘ h.money
  lines := h'.lines ∘ h.lines
  buffers := h'.buffers ∘ h.buffers
  monitors := h'.monitors ∘ h.monitors

theorem Steps.refl (s : State) : Steps s s := ⟨.refl s, id, id⟩

theorem Steps.trans {s t u : State} (h : Steps s t) (h' : Steps t u) : Steps s u :=
  ⟨h.toBasic.trans h'.toBasic, h'.power ∘ h.power, h'.owner ∘ h.owner⟩

theorem Keeps.refl (s : State) : Keeps s s := ⟨.refl s, fun _ => id⟩

theorem Keeps.trans {s t u : State} (h : Keeps s t) (h' : Keeps t u) : Keeps s u :=
  ⟨h.toSteps.trans h'.toSteps, fun n => h'.empty n ∘ h.empty n⟩

theorem Quiet.refl (s : State) : Quiet s s := ⟨.refl s, id⟩

theorem Quiet.trans {s t u : State} (h : Quiet s t) (h' : Quiet t u) : Quiet s u :=
  ⟨h.toKeeps.trans h'.toKeeps, h'.unowned ∘ h.unowned⟩

/-- The composition read from the outermost operation inwards, as the operations themselves are written. -/
theorem Quiet.after {s t u : State} (h' : Quiet t u) (h : Quiet s t) : Quiet s u := h.trans h'

theorem Keeps.flies {s t : State} (h : Keeps s t) : Flies s t :=
  ⟨h.toBasic, h.power, h.empty, fun hu => h.owner hu.ownerSound⟩

theorem Quiet.flies {s t : State} (h : Quiet s t) : Flies s t := h.toKeeps.flies

theorem Flies.refl (s : State) : Flies s s := (Keeps.refl s).flies

/-- An operation that leaves the controls alone, and then one in flight. -/
theorem Quiet.then {s t u : State} (h : Quiet s t) (h' : Flies t u) : Flies s u :=
  ⟨h.toBasic.trans h'.toBasic, h'.power ∘ h.power, fun n => h'.empty n ∘ h.empty n, h'.lands ∘ h.unowned⟩

/-- An operation in flight, and then one of no matter what. -/
theorem Flies.then {s t u : State} (h : Flies s t) (h' : Keeps t u) : Flies s u :=
  ⟨h.toBasic.trans h'.toBasic, h'.power ∘ h.power, fun n => h'.empty n ∘ h.empty n, h'.owner ∘ h.lands⟩

/-- An operation of a changeover that is in flight. -/
theorem Flies.keeps {s t : State} (h : Flies s t) (hr : s.co.record ≠ none) : Keeps s t :=
  ⟨⟨h.toBasic, h.power, fun ho => h.lands (ho.unowned hr)⟩, h.empty⟩

theorem Quiet.forAll {α : Type} {f : α → State → State} (hf : ∀ a u, Quiet u (f a u)) (l : List α) (s : State) :
    Quiet s (forAll l f s) := by
  induction l generalizing s with
  | nil => exact .refl s
  | cons a l ih => exact (hf a s).trans (ih (f a s))

theorem Keeps.forAll {α : Type} {f : α → State → State} (hf : ∀ a u, Keeps u (f a u)) (l : List α) (s : State) :
    Keeps s (forAll l f s) := by
  induction l generalizing s with
  | nil => exact .refl s
  | cons a l ih => exact (hf a s).trans (ih (f a s))

/-! #### Operations that a property does not speak of -/

theorem LinkSound.congr {s t : State} (h : t.link = s.link) : LinkSound s → LinkSound t := by
  unfold LinkSound KeysDistinct BufferBounded
  rw [h]
  exact id

theorem MoneySound.congr {s t : State} (h : t.coins = s.coins) : MoneySound s → MoneySound t := by
  unfold MoneySound Conserved CoinsBounded queuedUnits State.queue State.meter
  rw [h]
  exact id

theorem LinesMatch.congr {s t : State} (h : t.slots = s.slots) : LinesMatch s → LinesMatch t := by
  unfold LinesMatch State.slot
  rw [h]
  exact id

theorem OneEach.congr {s t : State} (h : t.frame = s.frame) : OneEach s → OneEach t := by
  unfold OneEach State.buffer
  rw [h]
  exact id

theorem MonitorsSound.congr {s t : State} (h : t.monitors = s.monitors) : MonitorsSound s → MonitorsSound t := by
  unfold MonitorsSound State.monitor
  rw [h]
  exact id

theorem PowerSound.congr {s t : State} (h : t.slots = s.slots) (hb : t.bus.sequence = s.bus.sequence) :
    PowerSound s → PowerSound t := by
  unfold PowerSound State.slot
  rw [h, hb]
  exact id

theorem OwnerSound.congr {s t : State} (ho : t.router.owner = s.router.owner) (hc : t.router.claim = s.router.claim)
    (hcur : t.co.current = s.co.current) (hr : t.co.record = s.co.record)
    (hs : ∀ n, (t.slot n).state = (s.slot n).state) : OwnerSound s → OwnerSound t := by
  unfold OwnerSound
  simp only [ho, hc, hcur, hr, hs]
  exact id

theorem Unowned.congr {s t : State} (ho : t.router.owner = s.router.owner) (hc : t.router.claim = s.router.claim) :
    Unowned s → Unowned t := by
  unfold Unowned
  rw [ho, hc]
  exact id

/-- An operation outside the slots, their bus, the router and the controller: what is left to show is of its own
blocks. -/
theorem Quiet.of_same {s t : State}
    (h : SameOutside [.now, .link, .counters, .adapters, .monitors, .frame, .out, .pic, .snd, .coins, .profiles, .free,
      .reports] s t)
    (hn : s.now ≤ t.now) (hl : LinkSound s → LinkSound t) (hm : MoneySound s → MoneySound t)
    (hb : OneEach s → OneEach t) (hmon : MonitorsSound s → MonitorsSound t) : Quiet s t := by
  have hslots : t.slots = s.slots := h.same .slots (by decide)
  have hbus : t.bus = s.bus := h.same .bus (by decide)
  have hrouter : t.router = s.router := h.same .router (by decide)
  have hco : t.co = s.co := h.same .co (by decide)
  exact
    { pending := h.same .pending (by decide)
      powered := h.same .powered (by decide)
      now := hn
      link := hl
      money := hm
      lines := .congr hslots
      buffers := hb
      monitors := hmon
      power := .congr hslots (by rw [hbus])
      owner := .congr (by rw [hrouter]) (by rw [hrouter]) (by rw [hco]) (by rw [hco])
        fun n => by rw [State.slot, State.slot, hslots]
      empty := fun n => by
        rw [State.slot, State.slot, hslots]
        exact id
      unowned := .congr (by rw [hrouter]) (by rw [hrouter]) }

/-- The blocks that no property of this part speaks of. -/
def freeBlocks : List Block := [.counters, .adapters, .out, .pic, .snd, .profiles, .free, .reports]

theorem Quiet.of_free {l : List Block} {s t : State} (h : SameOutside l s t) (hl : l ⊆ freeBlocks) : Quiet s t := by
  have hs := h.mono hl
  exact .of_same (hs.mono (by decide)) (by rw [show t.now = s.now from hs.same .now (by decide)])
    (.congr (hs.same .link (by decide))) (.congr (hs.same .coins (by decide))) (.congr (hs.same .frame (by decide)))
    (.congr (hs.same .monitors (by decide)))

theorem Quiet.of_now {s t : State} (h : SameOutside [.now] s t) (hn : s.now ≤ t.now) : Quiet s t :=
  .of_same (h.mono (by decide)) hn (.congr (h.same .link (by decide))) (.congr (h.same .coins (by decide)))
    (.congr (h.same .frame (by decide))) (.congr (h.same .monitors (by decide)))

theorem Quiet.of_link {s t : State} (h : SameOutside [.link] s t) (hl : LinkSound s → LinkSound t) : Quiet s t :=
  .of_same (h.mono (by decide)) (by rw [show t.now = s.now from h.same .now (by decide)]) hl
    (.congr (h.same .coins (by decide))) (.congr (h.same .frame (by decide))) (.congr (h.same .monitors (by decide)))

theorem Quiet.of_coins {s t : State} (h : SameOutside [.link, .counters, .coins] s t) (hl : LinkSound s → LinkSound t)
    (hm : MoneySound s → MoneySound t) : Quiet s t :=
  .of_same (h.mono (by decide)) (by rw [show t.now = s.now from h.same .now (by decide)]) hl hm
    (.congr (h.same .frame (by decide))) (.congr (h.same .monitors (by decide)))

theorem Quiet.of_frame {s t : State} (h : SameOutside [.frame] s t) (hb : OneEach s → OneEach t) : Quiet s t :=
  .of_same (h.mono (by decide)) (by rw [show t.now = s.now from h.same .now (by decide)])
    (.congr (h.same .link (by decide))) (.congr (h.same .coins (by decide))) hb (.congr (h.same .monitors (by decide)))

theorem Quiet.of_monitors {s t : State} (h : SameOutside [.monitors] s t) (hm : MonitorsSound s → MonitorsSound t) :
    Quiet s t :=
  .of_same (h.mono (by decide)) (by rw [show t.now = s.now from h.same .now (by decide)])
    (.congr (h.same .link (by decide))) (.congr (h.same .coins (by decide))) (.congr (h.same .frame (by decide))) hm

/-! #### Time, notices and counters -/

theorem tick_quiet (dt : Nat) (s : State) : Quiet s (s.tick dt) := .of_now (State.tick_same ..) (Nat.le_add_right ..)

theorem reach_quiet (t : Nat) (s : State) : Quiet s (s.reach t) := .of_now (State.reach_same ..) (Nat.le_max_left ..)

theorem post_linkSound (n : Notice) (s : State) : LinkSound s → LinkSound (post n s) := by
  rintro ⟨hk, hb⟩
  refine ⟨?_, by rwa [BufferBounded, post_buffer]⟩
  unfold post KeysDistinct
  split
  · rcases tableWith_keys n s.link.notices with h | ⟨hnew, h⟩ <;> dsimp only <;> rw [h]
    · exact hk
    · exact List.nodup_append.2 ⟨hk, List.nodup_singleton _, by grind⟩
  · exact hk

theorem post_quiet (n : Notice) (s : State) : Quiet s (post n s) := .of_link (post_same ..) (post_linkSound n s)

theorem increment_quiet (i : CounterId) (s : State) : Quiet s (increment i s) := by
  unfold increment
  dsimp only
  have hset (c : Counter) : Quiet s (s.setCounter i c) := .of_free (State.setCounter_same ..) (by decide)
  split_ifs
  · exact .refl s
  · exact (hset _).trans (post_quiet ..)
  · exact hset _

theorem increment_linkSound (i : CounterId) (s : State) : LinkSound s → LinkSound (increment i s) :=
  (increment_quiet i s).link

theorem report_quiet (r : Report) (s : State) : Quiet s (s.report r) := .of_free (State.report_same ..) (by decide)

end Sys2Proof.Machine

/-! #### The coin unit: the sum of the money, and what moves a unit -/

namespace Sys2Proof.Machine

/-- What the totals say is in the bank and the queues, less what is: 0 while the money adds up (R163). -/
def imbalance (s : State) : Word32 :=
  s.coins.accepted - s.coins.delivered - s.coins.drained - BitVec.ofNat 32 (s.coins.bank + queuedUnits s)

theorem conserved_iff (s : State) : Conserved s ↔ imbalance s = 0 := by
  unfold Conserved imbalance
  constructor <;> intro h
  · rw [h]
    exact BitVec.sub_self _
  · bv_omega

/-- Nothing that counts as money, and no owed tick, has changed. -/
structure SameMoney (s t : State) : Prop where
  bank : t.coins.bank = s.coins.bank
  accepted : t.coins.accepted = s.coins.accepted
  delivered : t.coins.delivered = s.coins.delivered
  drained : t.coins.drained = s.coins.drained
  queues : t.coins.queues = s.coins.queues
  owed : ∀ m, (t.meter m).owed = (s.meter m).owed

theorem SameMoney.refl (s : State) : SameMoney s s := ⟨rfl, rfl, rfl, rfl, rfl, fun _ => rfl⟩

theorem SameMoney.trans {s t u : State} (h : SameMoney s t) (h' : SameMoney t u) : SameMoney s u :=
  ⟨h'.bank.trans h.bank, h'.accepted.trans h.accepted, h'.delivered.trans h.delivered, h'.drained.trans h.drained,
    h'.queues.trans h.queues, fun m => (h'.owed m).trans (h.owed m)⟩

theorem SameMoney.of_coins {s t : State} (h : t.coins = s.coins) : SameMoney s t := by
  constructor <;> simp [State.meter, h]

theorem SameMoney.of_same {l : List Block} {s t : State} (h : SameOutside l s t) (hl : Block.coins ∉ l) : SameMoney s t :=
  .of_coins (h.same .coins hl)

theorem SameMoney.forAll {α : Type} {f : α → State → State} (hf : ∀ a u, SameMoney u (f a u)) (l : List α) (s : State) :
    SameMoney s (forAll l f s) := by
  induction l generalizing s with
  | nil => exact .refl s
  | cons a l ih => exact (hf a s).trans (ih (f a s))

theorem SameMoney.queue {s t : State} (h : SameMoney s t) (n : Slot) : t.queue n = s.queue n := by
  rw [State.queue, State.queue, h.queues]

theorem SameMoney.imbalance {s t : State} (h : SameMoney s t) : imbalance t = imbalance s := by
  have hq : queuedUnits t = queuedUnits s := by simp only [queuedUnits, h.queue]
  rw [Machine.imbalance, Machine.imbalance, h.bank, h.accepted, h.delivered, h.drained, hq]

theorem SameMoney.bounded {s t : State} (h : SameMoney s t) (hs : CoinsBounded s) : CoinsBounded t := by
  unfold CoinsBounded at *
  simp only [h.queue, h.bank, h.owed]
  exact hs

theorem SameMoney.sound {s t : State} (h : SameMoney s t) : MoneySound s → MoneySound t := by
  rintro ⟨hc, hb⟩
  exact ⟨(conserved_iff t).2 (h.imbalance.trans ((conserved_iff s).1 hc)), h.bounded hb⟩

/-! ##### Operations that move no money -/

theorem setChute_quiet (c : Chute) (x : ChuteRecord) (s : State) : Quiet s (s.setChute c x) :=
  .of_coins ((State.setChute_same ..).mono (by decide)) id (SameMoney.sound ⟨rfl, rfl, rfl, rfl, rfl, fun _ => rfl⟩)

theorem setGenerator_quiet (n : Slot) (g : Generator) (s : State) : Quiet s (s.setGenerator n g) :=
  .of_coins ((State.setGenerator_same ..).mono (by decide)) id (SameMoney.sound ⟨rfl, rfl, rfl, rfl, rfl, fun _ => rfl⟩)

theorem setDriver_sameMoney (m : Meter) (d : Driver) (s : State) :
    SameMoney s (s.setMeter m { s.meter m with driver := d }) := by
  refine ⟨rfl, rfl, rfl, rfl, rfl, fun k => ?_⟩
  rw [State.meter_setMeter]
  split
  · next h => rw [h]
  · rfl

theorem setDriver_quiet (m : Meter) (d : Driver) (s : State) :
    Quiet s (s.setMeter m { s.meter m with driver := d }) :=
  .of_coins ((State.setMeter_same ..).mono (by decide)) id (setDriver_sameMoney ..).sound

theorem readCoinLevels_quiet (n : Slot) (s : State) : Quiet s (readCoinLevels n s) :=
  .of_coins ((readCoinLevels_same ..).mono (by decide)) id (SameMoney.sound ⟨rfl, rfl, rfl, rfl, rfl, fun _ => rfl⟩)

theorem postChute_quiet (c : Chute) (ev : ChuteEvent) (s : State) : Quiet s (postChute c ev s) := post_quiet ..

theorem postBank_quiet (ev : BankEvent) (s : State) : Quiet s (postBank ev s) := post_quiet ..

theorem setReasons_quiet (c : Chute) (r : Reasons) (s : State) : Quiet s (setReasons c r s) := by
  unfold setReasons
  split
  · exact .refl s
  · exact (setChute_quiet ..).trans (postChute_quiet ..)

theorem setReasons_sameMoney (c : Chute) (r : Reasons) (s : State) : SameMoney s (setReasons c r s) := by
  constructor <;> simp [setReasons_coins, State.meter]

theorem judgeLink_quiet (c : Chute) (s : State) : Quiet s (judgeLink c s) := setReasons_quiet ..

theorem judgeJam_quiet (c : Chute) (s : State) : Quiet s (judgeJam c s) := setReasons_quiet ..

theorem judgeMeterFull_quiet (s : State) : Quiet s (judgeMeterFull s) := .forAll (fun _ _ => setReasons_quiet ..) ..

theorem judgeMeterFull_sameMoney (s : State) : SameMoney s (judgeMeterFull s) :=
  .forAll (fun _ _ => setReasons_sameMoney ..) ..

theorem judgeTogether_quiet (f : Chute → State → Reasons) (s : State) : Quiet s (judgeTogether f s) := by
  have hall : Quiet s (forAll allFour (fun c s => setReasons c (f c s) s) s) := .forAll (fun _ _ => setReasons_quiet ..) ..
  unfold judgeTogether
  dsimp only
  split
  · exact hall.trans (postBank_quiet ..)
  · exact hall

theorem judgeBankLimit_quiet (s : State) : Quiet s (judgeBankLimit s) := judgeTogether_quiet ..

theorem judgeSettings_quiet (s : State) : Quiet s (judgeSettings s) := judgeTogether_quiet ..

theorem judgeAllReasons_quiet (s : State) : Quiet s (judgeAllReasons s) := judgeTogether_quiet ..

theorem judgeTogether_sameMoney (f : Chute → State → Reasons) (s : State) : SameMoney s (judgeTogether f s) := by
  have hall : SameMoney s (forAll allFour (fun c s => setReasons c (f c s) s) s) :=
    .forAll (fun _ _ => setReasons_sameMoney ..) ..
  unfold judgeTogether
  dsimp only
  split
  · exact hall.trans (.of_same (postBank_same ..) (by decide))
  · exact hall

/-! ##### Units that join the bank -/

/-- The bank and the drained total with `n` units more (R162). -/
def unitsAdded (n : Nat) (s : State) : State :=
  { s with coins := { s.coins with
    bank := s.coins.bank + min n (65535 - s.coins.bank)
    drained := s.coins.drained + BitVec.ofNat 32 (n - min n (65535 - s.coins.bank)) } }

/-- Apart from the units themselves, what joins the bank has BANK_LIMIT judged and may post. -/
theorem addUnits_after (n : Nat) (s : State) :
    Quiet (unitsAdded n s) (addUnits n s) ∧ SameMoney (unitsAdded n s) (addUnits n s) := by
  have hjudge : Quiet (unitsAdded n s) (if n = 0 then unitsAdded n s else judgeBankLimit (unitsAdded n s)) ∧
      SameMoney (unitsAdded n s) (if n = 0 then unitsAdded n s else judgeBankLimit (unitsAdded n s)) := by
    split
    · exact ⟨.refl _, .refl _⟩
    · exact ⟨judgeBankLimit_quiet _, judgeTogether_sameMoney ..⟩
  unfold addUnits
  dsimp only
  split
  · exact ⟨hjudge.1.trans (postBank_quiet ..), hjudge.2.trans (.of_same (postBank_same ..) (by decide))⟩
  · exact hjudge

theorem addUnits_linkSound (n : Nat) (s : State) : LinkSound s → LinkSound (addUnits n s) := fun h =>
  (addUnits_after n s).1.link (LinkSound.congr (t := unitsAdded n s) rfl h)

/-- Units that join the bank move the sum by their number. -/
theorem addUnits_imbalance (n : Nat) (s : State) : imbalance (addUnits n s) = imbalance s - BitVec.ofNat 32 n := by
  rw [(addUnits_after n s).2.imbalance]
  have hq : queuedUnits (unitsAdded n s) = queuedUnits s := rfl
  simp only [imbalance, hq]
  generalize queuedUnits s = q
  have hjoin : min n (65535 - s.coins.bank) ≤ n := Nat.min_le_left ..
  simp only [unitsAdded]
  generalize min n (65535 - s.coins.bank) = j at *
  obtain ⟨d, rfl⟩ := Nat.exists_eq_add_of_le hjoin
  rw [Nat.add_sub_cancel_left]
  simp only [BitVec.ofNat_add]
  generalize s.coins.accepted = a, s.coins.delivered = b, s.coins.drained = c
  ring

theorem addUnits_bounded (n : Nat) {s : State} (h : CoinsBounded s) : CoinsBounded (addUnits n s) := by
  refine (addUnits_after n s).2.bounded ⟨?_, h.2⟩
  have := h.1
  simp only [unitsAdded]
  omega

theorem addUnits_queue (n : Nat) (s : State) (m : Slot) : (addUnits n s).queue m = s.queue m :=
  (addUnits_after n s).2.queue m

/-! ##### The queues -/

theorem queuedUnits_setQueue (n : Slot) (q : List CoinLine) (s : State) :
    queuedUnits (s.setQueue n q) + (s.queue n).length = queuedUnits s + q.length := by
  simp only [queuedUnits, allSlots, List.map_cons, List.map_nil, List.sum_cons, List.sum_nil, State.queue_setQueue]
  fin_cases n <;> simp only [Fin.reduceFinMk, Fin.reduceEq, Fin.isValue, ↓reduceIte] <;> omega

/-- A queue that has `k` units more moves the sum by them. -/
theorem setQueue_imbalance_longer {n : Slot} {q : List CoinLine} {k : Nat} {s : State}
    (h : q.length = (s.queue n).length + k) : imbalance (s.setQueue n q) = imbalance s - BitVec.ofNat 32 k := by
  have hq : queuedUnits (s.setQueue n q) = queuedUnits s + k := by
    have := queuedUnits_setQueue n q s
    omega
  simp only [imbalance, hq, BitVec.ofNat_add]
  simp only [State.setQueue]
  ring

/-- A queue that has `k` units less moves the sum by them. -/
theorem setQueue_imbalance_shorter {n : Slot} {q : List CoinLine} {k : Nat} {s : State}
    (h : q.length + k = (s.queue n).length) : imbalance (s.setQueue n q) = imbalance s + BitVec.ofNat 32 k := by
  have hq : queuedUnits s = queuedUnits (s.setQueue n q) + k := by
    have := queuedUnits_setQueue n q s
    omega
  simp only [imbalance, hq, BitVec.ofNat_add]
  simp only [State.setQueue]
  ring

theorem setQueue_bounded {n : Slot} {q : List CoinLine} {s : State} (hq : q.length ≤ 32) (h : CoinsBounded s) :
    CoinsBounded (s.setQueue n q) := by
  refine ⟨h.1, fun m => ?_, h.2.2⟩
  rw [State.queue_setQueue]
  split
  · exact hq
  · exact h.2.1 m

theorem returnQueue_quiet (n : Slot) (s : State) : Quiet s (returnQueue n s) := by
  refine .of_coins ((returnQueue_same ..).mono (by decide)) (fun h => ?_) fun h => ?_ <;> unfold returnQueue <;> split
  · exact h
  · exact post_linkSound _ _ (addUnits_linkSound _ _ h)
  · exact h
  · next k hk =>
    refine (SameMoney.of_same (postBank_same ..) (by decide)).sound ⟨(conserved_iff _).2 ?_, ?_⟩
    · rw [addUnits_imbalance, setQueue_imbalance_shorter (k := k + 1) (by simpa using hk.symm), (conserved_iff s).1 h.1]
      ring
    · exact addUnits_bounded _ (setQueue_bounded (by simp) h.2)

/-! ##### Pulses -/

theorem judgePulse_quiet (n : Slot) (s : State) : Quiet s (judgePulse n s) := by
  rcases judgePulse_cases n s with h | ⟨line, rest, hm, hq⟩
  · rw [h]
    exact .refl s
  · rw [judgePulse_eq hm hq]
    refine Quiet.trans (t := increment (coinsDelivered n) (unitTaken n rest s)) ?_
      ((readCoinLevels_quiet ..).trans (setGenerator_quiet ..))
    refine Quiet.trans (t := unitTaken n rest s) ?_ (increment_quiet ..)
    refine .of_coins (((State.setQueue_same s n rest).with_coins (by decide)).mono (by decide)) id fun h => ?_
    have hlen : rest.length + 1 = (s.queue n).length := by simp [hq]
    have hmax := h.2.2.1 n
    refine ⟨(conserved_iff _).2 ?_, setQueue_bounded (by omega) h.2⟩
    have himb : imbalance (unitTaken n rest s) = imbalance (s.setQueue n rest) - BitVec.ofNat 32 1 := by
      have hqu : queuedUnits (unitTaken n rest s) = queuedUnits (s.setQueue n rest) := rfl
      simp only [imbalance, hqu]
      simp only [unitTaken, State.setQueue]
      rw [show BitVec.ofNat 32 1 = (1 : Word32) from rfl]
      ring
    rw [himb, setQueue_imbalance_shorter hlen, (conserved_iff s).1 h.1]
    ring

/-- The state in which a cut pulse's unit is neither in a pulse nor placed: its generator is in GAP, and the delivered
total no longer counts it (R167). -/
def unitCut (n : Slot) (gap : Nat) (s : State) : State :=
  { s.setGenerator n (.gap (s.now + gap)) with
    coins := { (s.setGenerator n (.gap (s.now + gap))).coins with delivered := s.coins.delivered - 1 } }

theorem unitCut_imbalance (n : Slot) (gap : Nat) (s : State) : imbalance (unitCut n gap s) = imbalance s + BitVec.ofNat 32 1 := by
  have hqu : queuedUnits (unitCut n gap s) = queuedUnits s := rfl
  simp only [imbalance, hqu]
  simp only [unitCut, State.setGenerator]
  rw [show BitVec.ofNat 32 1 = (1 : Word32) from rfl]
  ring

/-- A generator that is cut lets everything stand, or gives the unit of its pulse to the bank or back to its queue. -/
theorem cutPulse_cases (n : Slot) (toBank : Bool) (s : State) :
    cutPulse n toBank s = s ∨ ∃ gap,
      cutPulse n toBank s = addUnits 1 (unitCut n gap s) ∨
      ∃ line, (s.queue n).length < 32 ∧ cutPulse n toBank s = (unitCut n gap s).setQueue n (line :: s.queue n) := by
  unfold cutPulse
  split
  · next line expiry gap hg =>
    refine .inr ⟨gap, ?_⟩
    dsimp only
    split
    · exact .inl rfl
    · next hroom =>
      simp only [Bool.or_eq_true, decide_eq_true_eq, not_or, Nat.not_le] at hroom
      exact .inr ⟨line, hroom.2, rfl⟩
  · exact .inl rfl

theorem cutPulse_quiet (n : Slot) (toBank : Bool) (s : State) : Quiet s (cutPulse n toBank s) := by
  refine .of_coins ((cutPulse_same ..).mono (by decide)) (fun h => ?_) fun h => ?_ <;>
    rcases cutPulse_cases n toBank s with hc | ⟨gap, hc | ⟨line, hroom, hc⟩⟩ <;> rw [hc]
  · exact h
  · exact addUnits_linkSound 1 (unitCut n gap s) h
  · exact h
  · exact h
  · refine ⟨(conserved_iff _).2 ?_, addUnits_bounded 1 (s := unitCut n gap s) h.2⟩
    rw [addUnits_imbalance, unitCut_imbalance, (conserved_iff s).1 h.1]
    ring
  · refine ⟨(conserved_iff _).2 ?_, setQueue_bounded (s := unitCut n gap s) (by simpa using hroom) h.2⟩
    rw [setQueue_imbalance_longer (s := unitCut n gap s) (k := 1) rfl, unitCut_imbalance, (conserved_iff s).1 h.1]
    ring

theorem cutIfLost_quiet (n : Slot) (s : State) : Quiet s (cutIfLost n s) := by
  unfold cutIfLost
  split
  · exact .refl s
  · exact cutPulse_quiet ..

theorem cutLostPulses_quiet (s : State) : Quiet s (cutLostPulses s) := .forAll cutIfLost_quiet ..

/-! ##### Meters -/

theorem setMeter_sound {m : Meter} {x : MeterRecord} {s : State} (hx : x.owed ≤ 255) (h : MoneySound s) :
    MoneySound (s.setMeter m x) := by
  refine ⟨h.1, h.2.1, h.2.2.1, fun k => ?_⟩
  rw [State.meter_setMeter]
  split
  · exact hx
  · exact h.2.2.2 k

theorem judgeMeter_quiet (m : Meter) (s : State) : Quiet s (judgeMeter m s) := by
  unfold judgeMeter
  split
  · next k _ howed =>
    refine Quiet.trans ?_ (judgeMeterFull_quiet _)
    refine .of_coins ((State.setMeter_same ..).mono (by decide)) id fun h => setMeter_sound ?_ h
    have := h.2.2.2 m
    dsimp only
    omega
  · exact .refl s

theorem oweMeter_quiet (m : Meter) (s : State) : Quiet s (oweMeter m s) := by
  unfold oweMeter
  split
  · exact increment_quiet ..
  · next howed =>
    refine Quiet.trans ?_ ((judgeMeterFull_quiet _).trans (judgeMeter_quiet ..))
    exact .of_coins ((State.setMeter_same ..).mono (by decide)) id fun h => setMeter_sound (by dsimp only; omega) h

/-! ##### Accepted coins -/

/-- The accepted total with `v` units more (R161). -/
def unitsAccepted (v : Nat) (s : State) : State :=
  { s with coins := { s.coins with accepted := s.coins.accepted + BitVec.ofNat 32 v } }

theorem unitsAccepted_imbalance (v : Nat) (s : State) :
    imbalance (unitsAccepted v s) = imbalance s + BitVec.ofNat 32 v := by
  have hqu : queuedUnits (unitsAccepted v s) = queuedUnits s := rfl
  simp only [imbalance, hqu]
  simp only [unitsAccepted]
  ring

theorem placeUnits_linkSound (c : Chute) (v : Nat) (s : State) : LinkSound s → LinkSound (placeUnits c v s) := by
  intro h
  unfold placeUnits
  split
  · exact addUnits_linkSound _ _ h
  · exact (judgePulse_quiet ..).link (addUnits_linkSound _ _ h)

/-- Where units are placed, the sum moves by their number. -/
theorem placeUnits_sound {c : Chute} {v : Nat} {s : State} (hi : imbalance s = BitVec.ofNat 32 v)
    (hb : CoinsBounded s) : MoneySound (placeUnits c v s) := by
  unfold placeUnits
  split
  · refine ⟨(conserved_iff _).2 ?_, addUnits_bounded _ hb⟩
    rw [addUnits_imbalance, hi]
    ring
  · next n k _ =>
    have hroom := hb.2.1 n
    have hj : min v (32 - (s.queue n).length) ≤ v := Nat.min_le_left ..
    have hj' : min v (32 - (s.queue n).length) ≤ 32 - (s.queue n).length := Nat.min_le_right ..
    generalize min v (32 - (s.queue n).length) = j at *
    refine (judgePulse_quiet ..).money ⟨(conserved_iff _).2 ?_, addUnits_bounded _ (setQueue_bounded ?_ hb)⟩
    · rw [addUnits_imbalance, setQueue_imbalance_longer (k := j) (by simp), hi]
      obtain ⟨d, rfl⟩ := Nat.exists_eq_add_of_le hj
      rw [Nat.add_sub_cancel_left, BitVec.ofNat_add]
      ring
    · simp only [List.length_append, List.length_replicate]
      omega

/-- An accepted coin's units join the total and are placed (R161). -/
theorem accepted_quiet (c : Chute) (v : Nat) (s : State) : Quiet s (placeUnits c v (unitsAccepted v s)) := by
  refine .of_coins (((SameOutside.refl [.coins] s).with_coins (by decide)).mono (by decide) |>.and
    (placeUnits_same c v (unitsAccepted v s)) (by decide)) (placeUnits_linkSound c v (unitsAccepted v s)) fun h => ?_
  refine placeUnits_sound (s := unitsAccepted v s) ?_ h.2
  rw [unitsAccepted_imbalance, (conserved_iff s).1 h.1]
  ring

theorem acceptCoin_quiet (c : Chute) (s : State) : Quiet s (acceptCoin c s) := by
  unfold acceptCoin
  refine Quiet.trans ?_ (accepted_quiet ..)
  split
  · exact .refl s
  · exact oweMeter_quiet ..

theorem judgeCoin_quiet (c : Chute) (start : Nat) (s : State) : Quiet s (judgeCoin c start s) := by
  unfold judgeCoin
  dsimp only
  split_ifs
  · exact (setChute_quiet ..).trans ((increment_quiet ..).trans (postChute_quiet ..))
  · exact (setChute_quiet ..).trans ((increment_quiet ..).trans (postChute_quiet ..))
  · exact (setChute_quiet ..).trans ((increment_quiet ..).trans ((acceptCoin_quiet ..).trans (postChute_quiet ..)))

theorem chuteInput_quiet (c : Chute) (active : Bool) (s : State) : Quiet s (chuteInput c active s) := by
  unfold chuteInput
  split
  · exact setChute_quiet ..
  · exact judgeCoin_quiet ..
  · exact setChute_quiet ..
  · exact setChute_quiet ..
  · exact .refl s

theorem jamExpiry_quiet (c : Chute) (active : Bool) (s : State) : Quiet s (jamExpiry c active s) := by
  unfold jamExpiry
  split
  · exact (setChute_quiet ..).trans ((increment_quiet ..).trans ((judgeJam_quiet ..).trans (postChute_quiet ..)))
  · exact (setChute_quiet ..).trans ((judgeJam_quiet ..).trans (postChute_quiet ..))
  · exact setChute_quiet ..

/-! ##### Credit delivered, drained and cleared -/

/-- The bank with `n` units less. -/
def unitsWithdrawn (n : Nat) (s : State) : State := { s with coins := { s.coins with bank := s.coins.bank - n } }

theorem unitsWithdrawn_imbalance {n : Nat} {s : State} (h : n ≤ s.coins.bank) :
    imbalance (unitsWithdrawn n s) = imbalance s + BitVec.ofNat 32 n := by
  have hqu : queuedUnits (unitsWithdrawn n s) = queuedUnits s := rfl
  simp only [imbalance, hqu]
  simp only [unitsWithdrawn]
  obtain ⟨d, hd⟩ := Nat.exists_eq_add_of_le h
  rw [hd, Nat.add_sub_cancel_left]
  simp only [BitVec.ofNat_add]
  ring

theorem deliver_quiet {n : Slot} {units : Nat} {k : CoinLine} {s : State} (hbank : units ≤ s.coins.bank)
    (hroom : units ≤ 32 - (s.queue n).length) : Quiet s (deliver n units k s) := by
  refine .of_coins ((deliver_same ..).mono (by decide)) (fun h => ?_) fun h => ?_
  · exact (judgePulse_quiet ..).link ((judgeBankLimit_quiet _).link h)
  · refine (judgePulse_quiet ..).money ((judgeBankLimit_quiet _).money ⟨(conserved_iff _).2 ?_, ?_⟩)
    · exact (setQueue_imbalance_longer (s := unitsWithdrawn units s) (by simp; rfl)).trans
        (by rw [unitsWithdrawn_imbalance hbank, (conserved_iff s).1 h.1]; ring)
    · have hlen : (s.queue n ++ List.replicate units k).length ≤ 32 := by
        have := h.2.2.1 n
        simp only [List.length_append, List.length_replicate]
        omega
      exact setQueue_bounded (s := unitsWithdrawn units s) hlen ⟨(Nat.sub_le ..).trans h.2.1, h.2.2⟩

/-- The drained total with the units that leave the bank (R169). -/
def unitsDrained (n : Nat) (s : State) : State :=
  { s with coins := { s.coins with
    bank := s.coins.bank - n, drained := s.coins.drained + BitVec.ofNat 32 n } }

theorem unitsDrained_imbalance {n : Nat} {s : State} (h : n ≤ s.coins.bank) :
    imbalance (unitsDrained n s) = imbalance s := by
  have hqu : queuedUnits (unitsDrained n s) = queuedUnits s := rfl
  simp only [imbalance, hqu]
  simp only [unitsDrained]
  obtain ⟨d, hd⟩ := Nat.exists_eq_add_of_le h
  rw [hd, Nat.add_sub_cancel_left]
  simp only [BitVec.ofNat_add]
  ring

theorem drain_quiet {units : Nat} {s : State} (hbank : units ≤ s.coins.bank) : Quiet s (drain units s) := by
  refine Quiet.trans (t := unitsDrained units s) ?_ (judgeBankLimit_quiet _)
  refine .of_coins ((SameOutside.refl _ s).with_coins (by decide)) id fun h =>
    ⟨(conserved_iff _).2 ?_, (Nat.sub_le ..).trans h.2.1, h.2.2⟩
  rw [unitsDrained_imbalance hbank, (conserved_iff s).1 h.1]

/-- With no money anywhere the totals may begin again at 0 (R171). -/
theorem totalsClear_quiet {s : State} (h : moneyGone s = true) :
    Quiet s { s with coins := { s.coins with accepted := 0, delivered := 0, drained := 0 } } := by
  refine .of_coins ((SameOutside.refl _ s).with_coins (by decide)) id fun hs => ⟨?_, hs.2⟩
  simp only [moneyGone, Bool.and_eq_true, beq_iff_eq, List.all_eq_true, List.isEmpty_iff] at h
  obtain ⟨hbank, hqueues⟩ := h
  have hqueued : queuedUnits s = 0 := by
    simp only [queuedUnits, List.sum_eq_zero_iff, List.mem_map]
    rintro x ⟨n, hn, rfl⟩
    rw [(hqueues n hn).1]
    rfl
  unfold Conserved
  rw [show queuedUnits { s with coins := { s.coins with accepted := 0, delivered := 0, drained := 0 } } = queuedUnits s
    from rfl, hqueued, show s.coins.bank = 0 from hbank]
  exact (by decide : BitVec.ofNat 32 (0 + 0) = (0 - 0 - 0 : Word32))

end Sys2Proof.Machine

/-! #### Picture, sound, frame store and monitors -/

namespace Sys2Proof.Machine

theorem Quiet.with_pic {x : Conditioner} (s : State) : Quiet s { s with pic := x } :=
  .of_free ((SameOutside.refl [.pic] s).with_pic (by decide)) (by decide)

theorem Quiet.with_out {x : Output} (s : State) : Quiet s { s with out := x } :=
  .of_free ((SameOutside.refl [.out] s).with_out (by decide)) (by decide)

theorem Quiet.with_snd {x : Mixer} (s : State) : Quiet s { s with snd := x } :=
  .of_free ((SameOutside.refl [.snd] s).with_snd (by decide)) (by decide)

theorem Quiet.with_profiles {x : Profiles} (s : State) : Quiet s { s with profiles := x } :=
  .of_free ((SameOutside.refl [.profiles] s).with_profiles (by decide)) (by decide)

theorem Quiet.with_reports {x : List Report} (s : State) : Quiet s { s with reports := x } :=
  .of_free ((SameOutside.refl [.reports] s).with_reports (by decide)) (by decide)

theorem Quiet.with_counters {x : Counters} (s : State) : Quiet s { s with counters := x } :=
  .of_free ((SameOutside.refl [.counters] s).with_counters (by decide)) (by decide)

/-- The frame store with other fields than its buffers changed. -/
theorem Quiet.with_frame {x : FrameStore} {s : State} (h : x.buffers = s.frame.buffers) : Quiet s { s with frame := x } := by
  refine .of_frame ((SameOutside.refl _ s).with_frame (by decide)) ?_
  unfold OneEach State.buffer
  dsimp only
  rw [h]
  exact id

/-! ##### Fades, stills and the dim -/

theorem fadePicture_quiet (rising : Bool) (duration : Nat) (s : State) : Quiet s (fadePicture rising duration s) :=
  .of_free (fadePicture_same ..) (by decide)

theorem setPictureLevel_quiet (l : Nat) (s : State) : Quiet s (setPictureLevel l s) := .with_pic s

theorem stopPictureFade_quiet (s : State) : Quiet s (stopPictureFade s) := .with_pic s

theorem stepPictureFade_quiet (s : State) : Quiet s (stepPictureFade s) :=
  .of_free (stepPictureFade_same ..) (by decide)

theorem postOutput_quiet (dimEvent : Bool) (s : State) : Quiet s (postOutput dimEvent s) := post_quiet ..

theorem liftDim_quiet (s : State) : Quiet s (liftDim s) := by
  unfold liftDim
  split
  · exact (Quiet.with_pic s).trans (postOutput_quiet ..)
  · exact .refl s

theorem judgeWatched_quiet (s : State) : Quiet s (judgeWatched s) := by
  unfold judgeWatched
  split
  · exact .refl s
  · exact (Quiet.with_pic s).trans (liftDim_quiet _)

theorem startStill_quiet (s : State) : Quiet s (startStill s) := .with_pic s

theorem stillSignature_quiet (n : Slot) (sig : Word16) (s : State) : Quiet s (stillSignature n sig s) := by
  unfold stillSignature
  split
  · split
    · exact (Quiet.with_pic s).trans (startStill_quiet _)
    · split
      · exact .refl s
      · exact (Quiet.with_pic s).trans ((liftDim_quiet _).trans (startStill_quiet _))
  · exact .refl s

theorem stillExpiry_quiet (s : State) : Quiet s (stillExpiry s) := by
  unfold stillExpiry
  refine Quiet.trans ?_ (postOutput_quiet ..)
  dsimp only
  split
  · exact (Quiet.with_pic s).trans (increment_quiet ..)
  · exact .with_pic s

theorem refreshDim_quiet (s : State) : Quiet s (refreshDim s) := .with_pic s

theorem fadeSound_quiet (rising : Bool) (duration : Nat) (s : State) : Quiet s (fadeSound rising duration s) :=
  .of_free (fadeSound_same ..) (by decide)

theorem setGain_quiet (g : Nat) (s : State) : Quiet s (setGain g s) := .with_snd s

theorem stopSoundFade_quiet (s : State) : Quiet s (stopSoundFade s) := .with_snd s

theorem stepSoundFade_quiet (s : State) : Quiet s (stepSoundFade s) := by
  unfold stepSoundFade
  split
  · exact .refl s
  · exact (reach_quiet ..).trans (.with_snd _)

theorem judgeDuck_quiet (s : State) : Quiet s (judgeDuck s) := .with_snd s

/-! ##### The buffers (R100) -/

theorem findBuffer_none {st : BufState} {s : State} (h : findBuffer st s = none) (b : Fin 3) :
    (s.buffer b).state ≠ st := by
  have hall : b ∈ allBuffers := by
    revert b
    decide
  simpa using List.find?_eq_none.1 h b hall

theorem findBuffer_some {st : BufState} {s : State} {b : Fin 3} (h : findBuffer st s = some b) :
    (s.buffer b).state = st := by
  simpa using List.find?_some h

/-- A buffer's record replaced keeps one FILLING and one SHOWING, when it is neither or was the same before. -/
theorem setBuffer_quiet {b : Fin 3} {x : Buffer} {s : State}
    (h : x.state = .filling ∨ x.state = .showing → ∀ c, (s.buffer c).state = x.state → c = b) :
    Quiet s (s.setBuffer b x) := by
  refine .of_frame (State.setBuffer_same ..) fun hs c d => ?_
  simp only [State.buffer_setBuffer]
  split_ifs with hc hd hd
  · exact fun _ _ => hc.trans hd.symm
  · exact fun he hst => absurd (h hst d he.symm) hd
  · exact fun he hst => absurd (h (he ▸ hst) c he) hc
  · exact hs c d

theorem abandonFilling_quiet (s : State) : Quiet s (abandonFilling s) := by
  unfold abandonFilling
  split
  · next b hb =>
    refine .of_frame (State.setBuffer_same ..) fun hs c d => ?_
    have hst (e : Fin 3) : ((s.setBuffer b { s.buffer b with abandoned := true }).buffer e).state = (s.buffer e).state := by
      rw [State.buffer_setBuffer]
      split
      · next h => rw [h]
      · rfl
    rw [hst, hst]
    exact hs c d
  · exact .refl s

/-- The writer's source replaced, with the watched slot judged afresh (R102, R134). -/
theorem setWriter_quiet (w : Option Slot) (s : State) :
    Quiet s (judgeWatched { s with frame := { s.frame with writer := w } }) := by
  refine Quiet.trans ?_ (judgeWatched_quiet _)
  exact .with_frame rfl

theorem disableWriter_quiet (s : State) : Quiet s (disableWriter s) :=
  (abandonFilling_quiet s).trans (setWriter_quiet none _)

theorem enableWriter_quiet (n : Slot) (s : State) : Quiet s (enableWriter n s) := by
  unfold enableWriter
  split
  · exact setWriter_quiet ..
  · split
    · exact .refl s
    · exact (disableWriter_quiet s).trans (setWriter_quiet ..)

theorem latchWindow_quiet (n : Slot) (s : State) : Quiet s (latchWindow n s) := .with_frame rfl

theorem takeForField_quiet (n : Slot) (s : State) : Quiet s (takeForField n s) := by
  unfold takeForField
  split
  · exact .refl s
  · next hf =>
    have hfill (b : Fin 3) : Quiet s (fillBuffer b n s) :=
      setBuffer_quiet fun _ c hc => absurd hc (findBuffer_none hf c)
    split
    · exact hfill _
    · split
      · exact (hfill _).trans (increment_quiet ..)
      · exact .refl s

theorem fieldOpens_quiet (src : Source) (s : State) : Quiet s (fieldOpens src s) := by
  unfold fieldOpens
  split
  · split
    · exact takeForField_quiet ..
    · exact .refl s
  · exact .refl s

theorem fillingFrom_filling {src : Source} {s : State} {b : Fin 3} (h : fillingFrom src s = some b) :
    (s.buffer b).state = .filling :=
  findBuffer_some (Option.filter_eq_some_iff.1 h).1

theorem captureLine_quiet (src : Source) (k : Nat) (video : List (Nat × RGB)) (s : State) :
    Quiet s (captureLine src k video s) := by
  unfold captureLine
  split
  · exact .refl s
  · next b hb =>
    dsimp only
    split
    · refine .of_frame (State.setBuffer_same ..) fun hs c d => ?_
      simp only [State.buffer_setBuffer]
      have := hs c d
      have hcb := hs c b
      have hdb := hs b d
      split_ifs <;> grind
    · exact .refl s

theorem setBuffer_free_quiet (b : Fin 3) (s : State) : Quiet s (s.setBuffer b .free) :=
  setBuffer_quiet (by simp [Buffer.free])

/-- A slot's record replaced by one that differs in nothing that R18, R24, R26, R28, R45 and R145 speak of. -/
theorem setSlot_quiet {n : Slot} {r : SlotRecord} {s : State} (hstate : r.state = (s.slot n).state)
    (hlines : r.lines = (s.slot n).lines) (hmis : r.mismatch = true → (s.slot n).mismatch = true)
    (hpg : r.pgWindow = (s.slot n).pgWindow) (hboot : r.bootWindow = (s.slot n).bootWindow)
    (happ : r.applying = (s.slot n).applying) : Quiet s (s.setSlot n r) := by
  have hsame := State.setSlot_same s n r
  have hst (m : Slot) : ((s.setSlot n r).slot m).state = (s.slot m).state := by
    rw [State.slot_setSlot]
    split
    · next h => rw [h, hstate]
    · rfl
  have happlying (m : Slot) : ((s.setSlot n r).slot m).applying = (s.slot m).applying := by
    rw [State.slot_setSlot]
    split
    · next h => rw [h, happ]
    · rfl
  refine
    { pending := rfl, powered := rfl, now := le_rfl, link := id, money := id, buffers := id, monitors := id
      lines := fun h m => ?_
      power := fun ⟨hmis', hpg', hboot', hrun, hnodup⟩ => ⟨fun m => ?_, fun m => ?_, fun m => ?_, fun x hx => ?_, hnodup⟩
      owner := .congr rfl rfl rfl rfl hst
      empty := fun m => by rw [hst]; exact id
      unowned := id }
  · rw [hst, State.slot_setSlot]
    split
    · next he => rw [hlines, he]; exact h n
    · exact h m
  · rw [hst, State.slot_setSlot]
    split
    · next he => rw [he]; exact fun hm => hmis' n (hmis hm)
    · exact hmis' m
  · rw [hst, State.slot_setSlot]
    split
    · next he => rw [he, hpg]; exact hpg' n
    · exact hpg' m
  · rw [hst, State.slot_setSlot]
    split
    · next he => rw [he, hboot]; exact hboot' n
    · exact hboot' m
  · rw [hst, happlying]
    exact hrun x hx

theorem reportReady_quiet (n : Slot) (sig : Word16) (s : State) : Quiet s (reportReady n sig s) := by
  refine Quiet.trans ?_ ((stillSignature_quiet ..).trans (report_quiet ..))
  exact setSlot_quiet rfl rfl id rfl rfl rfl

theorem makeReady_quiet (b : Fin 3) (s : State) : Quiet s (makeReady b s) := by
  have hbuf : ∀ x : Buffer, x.state = .ready →
      Quiet s { (s.setBuffer b x) with frame := { (s.setBuffer b x).frame with nextSeq := s.frame.nextSeq + 1 } } :=
    fun x hx => (setBuffer_quiet (by simp [hx])).trans (.with_frame rfl)
  unfold makeReady
  dsimp only
  split
  · exact (hbuf _ rfl).trans (reportReady_quiet ..)
  · exact hbuf _ rfl

theorem fieldCloses_quiet (src : Source) (accepted : Bool) (s : State) : Quiet s (fieldCloses src accepted s) := by
  unfold fieldCloses
  split
  · exact .refl s
  · split
    · exact makeReady_quiet ..
    · exact setBuffer_free_quiet ..

theorem setHold_quiet (h : Bool) (s : State) : Quiet s (setHold h s) := .with_frame rfl

theorem setBlank_quiet (b : Bool) (s : State) : Quiet s (setBlank b s) := .with_frame rfl

/-! ##### The reader -/

theorem revealSlot_quiet (n : Slot) (s : State) : Quiet s (revealSlot n s) := .with_frame rfl

theorem revealStandby_quiet (s : State) : Quiet s (revealStandby s) := by
  refine .of_frame (revealStandby_same s) fun hs c d => ?_
  simp only [revealStandby, State.buffer, Tab.at_ofFn]
  have := hs c d
  simp only [State.buffer] at this
  rcases hc : (s.frame.buffers.at c).state <;> rcases hd : (s.frame.buffers.at d).state <;> simp_all [Buffer.free]

theorem recentre_quiet (s : State) : Quiet s (recentre s) := .with_frame rfl

theorem refreshFin_quiet (s : State) : Quiet s (refreshFin s) := by
  unfold refreshFin
  split
  · exact .with_frame rfl
  · exact .refl s

/-- A buffer after a take: the one taken is SHOWING, and another is FREE or, FREE, FILLING or READY, as it was. -/
theorem showBuffer_buffer (b c : Fin 3) (s : State) :
    c = b ∧ ((showBuffer b s).buffer c).state = .showing ∨
      c ≠ b ∧ ((showBuffer b s).buffer c = .free ∨
        (s.buffer c).state ≠ .showing ∧ (showBuffer b s).buffer c = s.buffer c) := by
  simp only [showBuffer, State.buffer, Tab.at_ofFn]
  by_cases hc : c = b
  · exact .inl ⟨hc, by rw [if_pos hc]⟩
  · refine .inr ⟨hc, ?_⟩
    rw [if_neg hc]
    split
    · exact .inl rfl
    · next hst =>
      by_cases hnew : (s.frame.buffers.at b).newerThan (s.frame.buffers.at c) = true
      · exact .inl (if_pos hnew)
      · exact .inr ⟨by simp [hst], if_neg hnew⟩
    · next hst => exact .inr ⟨by simp [hst], rfl⟩
    · next hst => exact .inr ⟨by simp [hst], rfl⟩

theorem showBuffer_quiet (b : Fin 3) (s : State) : Quiet s (showBuffer b s) := by
  refine .of_frame (showBuffer_same b s) fun hs c d he hst => ?_
  have hfree : Buffer.free.state = .free := rfl
  rcases showBuffer_buffer b c s with ⟨hc, hcs⟩ | ⟨-, hc | ⟨hcs, hc⟩⟩
  · rcases showBuffer_buffer b d s with ⟨hd, -⟩ | ⟨-, hd | ⟨hds, hd⟩⟩
    · exact hc.trans hd.symm
    · simp [hd, hcs, hfree] at he
    · rw [hd, hcs] at he
      exact absurd he.symm hds
  · simp [hc, hfree] at hst
  · rcases showBuffer_buffer b d s with ⟨-, hds⟩ | ⟨-, hd | ⟨-, hd⟩⟩
    · rw [hc, hds] at he
      exact absurd he hcs
    · rw [he, hd] at hst
      simp [hfree] at hst
    · rw [hc, hd] at he
      exact hs c d he (hc ▸ hst)

theorem firstTake_quiet (n : Slot) (s : State) : Quiet s (firstTake n s) := by
  unfold firstTake
  split
  · exact .refl s
  · exact (showBuffer_quiet ..).trans (.with_frame rfl)

theorem readPass_quiet (n : Slot) (s : State) : Quiet s (readPass n s) := by
  unfold readPass
  split
  · exact showBuffer_quiet ..
  · exact increment_quiet ..

theorem halfFin_quiet (s : State) : Quiet s (halfFin s) := .with_frame rfl

theorem readAhead_quiet (n : Slot) (k : Nat) (s : State) : Quiet s (readAhead n k s) := by
  unfold readAhead
  dsimp only
  split
  · exact showBuffer_quiet ..
  · split
    · exact (showBuffer_quiet ..).trans (halfFin_quiet _)
    · exact (increment_quiet ..).trans (halfFin_quiet _)

theorem readPace_quiet (n : Slot) (s : State) : Quiet s (readPace n s) := by
  unfold readPace
  split
  · exact .refl s
  · dsimp only
    split
    · exact .with_frame rfl
    · refine Quiet.trans ?_ (readAhead_quiet ..)
      exact .with_frame rfl

theorem readerStart_quiet (s : State) : Quiet s (readerStart s) := by
  unfold readerStart
  split
  · exact .refl s
  · split
    · exact .refl s
    · refine (refreshFin_quiet s).trans ?_
      dsimp only
      split_ifs
      · exact .refl _
      · exact firstTake_quiet ..
      · exact .refl _
      · exact readPass_quiet ..
      · exact readPace_quiet ..

/-! ##### The monitors (R56 to R67) -/

theorem setMonitor_quiet {src : Source} {m : Monitor} {s : State} (h : (s.monitor src).sound → m.sound) :
    Quiet s (s.setMonitor src m) := by
  refine .of_monitors (State.setMonitor_same ..) fun hs a => ?_
  rw [State.monitor_setMonitor]
  split
  · exact h (hs src)
  · exact hs a

theorem Monitor.dark_sound (m : Monitor) : m.dark.sound := by
  simp [Monitor.sound, Monitor.dark, MonState.hasLock]

theorem Monitor.cleared_sound (m : Monitor) : m.cleared.sound := by
  simp [Monitor.sound, Monitor.cleared, Monitor.dark, MonState.hasLock]

theorem Monitor.restarted_sound (m : Monitor) (taking : Bool) : (m.restarted taking).sound := by
  simp [Monitor.sound, Monitor.restarted, Monitor.cleared, Monitor.dark, MonState.hasLock]

theorem Monitor.initial_sound (taking : Bool) : (Monitor.initial taking).sound := by
  simp [Monitor.sound, Monitor.initial, MonState.hasLock]

/-- A run is of one field at least, whose period is within the bounds of R58. -/
theorem Monitor.seekFrom_sound (m : Monitor) (now : Nat) {f : Nat} (c : SigClass) (hf : GoodPeriod f) :
    (m.seekFrom now f c).sound := by
  have := hf.1
  have := hf.2
  simp [Monitor.sound, Monitor.seekFrom, MonState.hasLock, *]

/-- Four fields within the bounds have their mean within them (R64). -/
theorem Monitor.seekField_sound {m : Monitor} (now : Nat) {f : Nat} (l : Nat) (c : SigClass) (hm : m.sound)
    (hst : m.state = .seeking) (hf : GoodPeriod f) : (m.seekField now f l c).1.sound := by
  obtain ⟨-, hno, hseek⟩ := hm
  obtain ⟨hrun1, hrun3, hlow, hhigh, -⟩ := hseek hst
  obtain ⟨hfref, hlref⟩ := hno (by rw [hst]; rfl)
  obtain ⟨hflow, hfhigh⟩ := hf
  unfold Monitor.seekField
  split
  · dsimp only
    split
    · simp only [Monitor.sound, MonState.hasLock, GoodPeriod]
      refine ⟨fun _ => ⟨_, _, rfl, rfl, by omega, by omega⟩, by simp, by simp⟩
    · simp only [Monitor.sound, hst, MonState.hasLock]
      exact ⟨by simp, fun _ => ⟨hfref, hlref⟩, fun _ => ⟨by omega, by omega, by omega, by omega, f, rfl, hflow, hfhigh⟩⟩
  · exact m.seekFrom_sound now c ⟨hflow, hfhigh⟩

theorem Monitor.lockField_sound {m : Monitor} (now : Nat) {f : Nat} (l : Nat) (c : SigClass) (hm : m.sound)
    (hst : m.state.hasLock = true) (hf : GoodPeriod f) : (m.lockField now f l c).1.sound := by
  obtain ⟨g, k, hg, hk, hgood⟩ := hm.1 hst
  unfold Monitor.lockField
  dsimp only
  split
  · exact m.seekFrom_sound now c hf
  · split
    · simp only [Monitor.sound, MonState.hasLock, hg, Option.getD_some]
      exact ⟨fun _ => ⟨_, _, rfl, rfl, goodPeriod_trackRef hgood hf⟩, by simp, by simp⟩
    · split
      · exact m.seekFrom_sound now c hf
      · exact hm

theorem Monitor.acceptField_sound {m : Monitor} (now : Nat) {f : Nat} (l : Nat) (hm : m.sound) (hf : GoodPeriod f) :
    (m.acceptField now f l).1.sound := by
  unfold Monitor.acceptField
  dsimp only
  split
  · exact Monitor.seekFrom_sound _ now _ hf
  · next hst => exact Monitor.seekField_sound now l _ hm hst hf
  · next hst => exact Monitor.lockField_sound now l _ hm (by simp only [hst]; rfl) hf
  · next hst => exact Monitor.lockField_sound now l _ hm (by simp only [hst]; rfl) hf

theorem judgeMenu_quiet (s : State) : Quiet s (judgeMenu s) := (Quiet.with_pic s).trans (judgeDuck_quiet _)

theorem postSignal_quiet (src : Source) (c : SignalCause) (s : State) : Quiet s (postSignal src c s) := post_quiet ..

theorem applyMonitor_quiet {src : Source} {m : Monitor} {s : State} (h : (s.monitor src).sound → m.sound)
    (c : Option SignalCause) : Quiet s (applyMonitor src m c s) := by
  have hpost : Quiet s (match c with | some c => postSignal src c (s.setMonitor src m) | none => s.setMonitor src m) := by
    cases c with
    | none => exact setMonitor_quiet h
    | some c => exact (postSignal_quiet ..).after (setMonitor_quiet h)
  have hmenu (u : State) : Quiet u (if src = sourceM then judgeMenu u else u) := by
    split
    · exact judgeMenu_quiet u
    · exact .refl u
  unfold applyMonitor
  dsimp only
  split
  · exact hpost.trans (hmenu _)
  · exact (report_quiet ..).after (hpost.trans (hmenu _))

theorem closeField_quiet (src : Source) (accepted : Bool) (s : State) : Quiet s (closeField src accepted s) :=
  (fieldCloses_quiet ..).after (setMonitor_quiet id)

theorem syncCloses_quiet (src : Source) (s : State) : Quiet s (syncCloses src s) := by
  unfold syncCloses
  split
  · exact .refl s
  · next f _ =>
    dsimp only
    split
    · next hacc =>
      exact (closeField_quiet ..).trans (applyMonitor_quiet
        (fun h => Monitor.acceptField_sound _ _ h ((fieldAccepted_iff ..).1 hacc).1) _)
    · exact closeField_quiet ..

theorem syncOpens_quiet (src : Source) (s : State) : Quiet s (syncOpens src s) :=
  (fieldOpens_quiet ..).after (setMonitor_quiet id)

theorem lineSyncAt_quiet (src : Source) (video : List (Nat × RGB)) (s : State) : Quiet s (lineSyncAt src video s) := by
  unfold lineSyncAt
  dsimp only
  split
  · next f _ _ =>
    refine (captureLine_quiet ..).trans (setMonitor_quiet fun h => ?_)
    have hmon : (captureLine src f.lines video s).monitors = s.monitors :=
      (captureLine_same ..).same .monitors (by decide)
    rw [State.monitor, hmon] at h
    exact h
  · exact .refl s

theorem fieldExpires_quiet (src : Source) (s : State) : Quiet s (fieldExpires src s) := by
  unfold fieldExpires
  split
  · exact .refl s
  · exact (reach_quiet ..).trans (closeField_quiet ..)

theorem syncTimerExpires_quiet (src : Source) (s : State) : Quiet s (syncTimerExpires src s) := by
  unfold syncTimerExpires
  dsimp only
  split
  · exact .refl s
  · split
    · split
      · next hst =>
        refine (applyMonitor_quiet (fun h => ?_) _).after (reach_quiet ..)
        have hlock : (s.monitor src).state.hasLock = true := by rw [hst]; rfl
        exact ⟨fun _ => h.1 hlock, by simp [MonState.hasLock], by simp⟩
      · refine (applyMonitor_quiet (fun h => ?_) _).after (reach_quiet ..)
        exact h
    · exact (applyMonitor_quiet (fun _ => Monitor.dark_sound _) _).after (reach_quiet ..)
    · exact (applyMonitor_quiet (fun _ => Monitor.dark_sound _) _).after (reach_quiet ..)

theorem supplyOn_quiet (n : Slot) (s : State) : Quiet s (supplyOn n s) := setMonitor_quiet id

theorem supplyOff_quiet (n : Slot) (s : State) : Quiet s (supplyOff n s) := by
  unfold supplyOff
  dsimp only
  refine Quiet.trans (t := s.setMonitor n.source { s.monitor n.source with taking := false }) (setMonitor_quiet id) ?_
  generalize s.setMonitor n.source { s.monitor n.source with taking := false } = u
  refine Quiet.trans ?_ (applyMonitor_quiet (fun _ => Monitor.cleared_sound _) _)
  split
  · exact closeField_quiet ..
  · exact .refl u

theorem restartMonitors_quiet (s : State) : Quiet s (restartMonitors s) := by
  refine Quiet.trans ?_ (judgeMenu_quiet _)
  refine .of_monitors ((SameOutside.refl _ s).with_monitors (by decide)) fun _ src => ?_
  rw [State.monitor, Tab.at_ofFn]
  exact Monitor.restarted_sound ..

/-! ##### The output -/

theorem followSource_quiet (s : State) : Quiet s (followSource s) := by
  unfold followSource
  split
  · split
    · split
      · exact .refl s
      · exact (Quiet.with_out s).trans (judgeMenu_quiet _)
    · exact .refl s
  · exact .refl s

theorem fixField_quiet (s : State) : Quiet s (fixField s) := .with_pic s

theorem fieldStart_quiet (s : State) : Quiet s (fieldStart s) :=
  (followSource_quiet s).trans <| (readerStart_quiet _).trans <| (stepPictureFade_quiet _).trans <|
    (refreshDim_quiet _).trans <| (fixField_quiet _).trans (.with_out _)

theorem retime_quiet (d : Decision) (s : State) : Quiet s (retime d s) :=
  (Quiet.with_out s).trans <| (judgeMenu_quiet _).trans <| (Quiet.with_out _).trans <| (postOutput_quiet ..).trans
    (fieldStart_quiet _)

theorem follow_quiet (d : Decision) (s : State) : Quiet s (follow d s) := .of_free (follow_same d s) (by decide)

theorem placeSlot_quiet (n : Slot) (d : Decision) (s : State) : Quiet s (placeSlot n d s) := .with_frame rfl

theorem settleDone_quiet (s : State) : Quiet s (settleDone s) := by
  unfold settleDone
  refine Quiet.trans ?_ (.with_out _)
  split
  · exact setBlank_quiet ..
  · exact .refl s

theorem startupDecision_quiet (s : State) : Quiet s (startupDecision s) := by
  unfold startupDecision
  dsimp only
  split
  · refine (retime_quiet (standbyDecision s) s).trans ?_
    split
    · exact (settleDone_quiet _).after (.with_out _)
    · exact .with_out _
  · exact setBlank_quiet ..

theorem restartPicture_quiet (s : State) : Quiet s (restartPicture s) := by
  have hframe : Quiet s { s with frame := .initial } :=
    .of_frame ((SameOutside.refl _ s).with_frame (by decide)) fun _ b c => by
      simp [State.buffer, FrameStore.initial, Buffer.free]
  exact hframe.trans ((Quiet.with_out _).trans ((Quiet.with_pic _).trans (.with_snd _)))

end Sys2Proof.Machine

/-! #### The router and the slots -/

namespace Sys2Proof.Machine

/-- What a move of a slot keeps by itself: all but what R24 to R28 and R50 say of the slot, which its caller sees to. -/
structure Shifts (s t : State) : Prop extends Basic s t where
  owner : OwnerSound s → OwnerSound t
  unowned : Unowned s → Unowned t

theorem Shifts.trans {s t u : State} (h : Shifts s t) (h' : Shifts t u) : Shifts s u :=
  ⟨h.toBasic.trans h'.toBasic, h'.owner ∘ h.owner, h'.unowned ∘ h.unowned⟩

theorem Shifts.after {s t u : State} (h' : Shifts t u) (h : Shifts s t) : Shifts s u := h.trans h'

theorem Quiet.shifts {s t : State} (h : Quiet s t) : Shifts s t := ⟨h.toBasic, h.owner, h.unowned⟩

theorem State.slot_congr {s t : State} (h : t.slots = s.slots) (m : Slot) : t.slot m = s.slot m :=
  congrArg (fun v : Tab SlotRecord 8 => v.at m) h

/-! ##### The router -/

theorem Basic.with_router {x : Router} (s : State) : Basic s { s with router := x } := by
  constructor <;> first | rfl | exact id

/-- The router with no new owner and no new claim. -/
theorem Quiet.with_router {x : Router} {s : State} (ho : ∀ n, x.owner = .slot n → s.router.owner = .slot n)
    (hc : ∀ n, x.claim = some n → s.router.claim = some n) : Quiet s { s with router := x } where
  toBasic := .with_router s
  power := id
  owner h := ⟨fun n hn => h.1 n (ho n hn), fun n hn => h.2 n (hc n hn)⟩
  empty _ := id
  unowned h := ⟨fun n hn => h.1 n (ho n hn), Option.eq_none_iff_forall_ne_some.2 fun n hn => by
    have := hc n hn
    simp [h.2] at this⟩

theorem postInput_quiet (s : State) : Quiet s (postInput s) := post_quiet ..

theorem giveLink_quiet (s : State) : Quiet s (giveLink s) := by
  unfold giveLink
  refine (cutLostPulses_quiet _).after ?_
  dsimp only
  split
  · exact .with_router (by simp) fun _ => id
  · exact (postInput_quiet _).after (.with_router (by simp) fun _ => id)

theorem giveNone_quiet (s : State) : Quiet s (giveNone s) :=
  (cutLostPulses_quiet _).after (.with_router (by simp) fun _ => id)

theorem giveSlot_basic (n : Slot) (s : State) : Basic s (giveSlot n s) :=
  (Basic.with_router s).trans ((cutLostPulses_quiet _).trans (judgePulse_quiet ..)).toBasic

/-- A slot that is current and LIVE with no changeover in flight may have the controls. -/
theorem giveSlot_ownerSound {n : Slot} {s : State} (hcur : s.co.current = some n) (hr : s.co.record = none)
    (hlive : (s.slot n).state = .live) : OwnerSound (giveSlot n s) := by
  refine ((cutLostPulses_quiet _).trans (judgePulse_quiet ..)).owner ⟨fun m hm => ?_, by simp⟩
  obtain rfl : n = m := by simpa using hm
  exact ⟨hcur, hr, hlive⟩

theorem routerQuiesce_basic (s : State) : Basic s (routerQuiesce s) := by
  unfold routerQuiesce
  dsimp only
  split
  · exact (Basic.with_router s).trans (giveLink_quiet _).toBasic
  · exact (Basic.with_router s).trans (giveNone_quiet _).toBasic

theorem giveLink_owner (s : State) : (giveLink s).router.owner = .link ∧ (giveLink s).router.claim = s.router.claim := by
  have hcut (u : State) : (cutLostPulses u).router = u.router := (cutLostPulses_same u).same .router (by decide)
  have hpost (u : State) : (postInput u).router = u.router := (postInput_same u).same .router (by decide)
  unfold giveLink
  dsimp only
  split <;> simp [hcut, hpost]

theorem giveNone_owner (s : State) : (giveNone s).router.owner = .none ∧ (giveNone s).router.claim = s.router.claim := by
  have hcut (u : State) : (cutLostPulses u).router = u.router := (cutLostPulses_same u).same .router (by decide)
  simp [giveNone, hcut]

theorem routerQuiesce_unowned (s : State) : Unowned (routerQuiesce s) := by
  unfold routerQuiesce
  dsimp only
  split
  · obtain ⟨ho, hc⟩ := giveLink_owner { s with router := { s.router with claim := none } }
    exact ⟨fun n => by simp [ho], hc⟩
  · obtain ⟨ho, hc⟩ := giveNone_owner { s with router := { s.router with claim := none } }
    exact ⟨fun n => by simp [ho], hc⟩

theorem copyMap_quiet (t : Option Slot) (s : State) : Quiet s (copyMap t s) := by
  unfold copyMap
  split
  · exact .with_router (fun _ => id) fun _ => id
  · next n =>
    refine Quiet.trans (t := s.setSlot n { s.slot n with lineHigh := (s.profile n).general.lineHigh })
      (setSlot_quiet rfl rfl id rfl rfl rfl) ?_
    exact .with_router (fun _ => id) fun _ => id

theorem ownerLost_basic (n : Slot) (new : SlotState) (s : State) : Basic s (ownerLost n new s) := by
  unfold ownerLost
  dsimp only
  split
  · exact (giveNone_quiet s).toBasic.trans (.with_router _)
  · exact (giveNone_quiet s).toBasic

theorem claimChanged_basic (n : Slot) (new : SlotState) (s : State) : Basic s (claimChanged n new s) := by
  unfold claimChanged
  split
  · split
    · exact .refl s
    · exact giveSlot_basic ..
  · exact .with_router s
  · exact .with_router s
  all_goals exact .refl s

theorem routerSlotChanged_basic (n : Slot) (new : SlotState) (s : State) : Basic s (routerSlotChanged n new s) := by
  unfold routerSlotChanged
  split
  · exact ownerLost_basic ..
  · split
    · exact claimChanged_basic ..
    · exact .refl s

theorem routerSlotChanged_unowned {n : Slot} {new : SlotState} {s : State} (h : Unowned s) :
    routerSlotChanged n new s = s := by
  unfold routerSlotChanged
  rw [if_neg (by simp [h.1 n]), if_neg (by simp [h.2])]

/-- The router takes a slot's change of state: the owner that leaves LIVE loses the controls, and a claim is met. -/
theorem routerSlotChanged_owner {n : Slot} {new : SlotState} {s u : State} (h : OwnerSound s)
    (hrouter : u.router = s.router) (hco : u.co = s.co) (hn : (u.slot n).state = new)
    (hothers : ∀ m, m ≠ n → (u.slot m).state = (s.slot m).state) : OwnerSound (routerSlotChanged n new u) := by
  obtain ⟨howner, hclaim⟩ := h
  rw [← hrouter, ← hco] at howner
  rw [← hrouter, ← hco] at hclaim
  have hkept : (u.router.owner = .slot n → new = .live) → OwnerSound u := fun hlive => by
    refine ⟨fun m hm => ?_, hclaim⟩
    obtain ⟨hcur, hrec, hst⟩ := howner m hm
    refine ⟨hcur, hrec, ?_⟩
    by_cases hmn : m = n
    · subst hmn
      rw [hn, hlive hm]
    · rw [hothers m hmn, hst]
  unfold routerSlotChanged
  split
  · next hlost =>
    obtain ⟨hcur, hrec, -⟩ := howner n hlost.1
    obtain ⟨hno, hcl⟩ := giveNone_owner u
    have hgco : (giveNone u).co = u.co := (giveNone_same u).same .co (by decide)
    unfold ownerLost
    dsimp only
    split
    · refine ⟨fun m => by simp [hno], fun m hm => ?_⟩
      obtain rfl : n = m := by simpa using hm
      exact ⟨by rw [hgco]; exact hcur, by rw [hgco]; exact hrec⟩
    · exact ⟨fun m => by simp [hno], fun m hm => by rw [hgco]; exact hclaim m (hcl ▸ hm)⟩
  · next hkeep =>
    have hu : OwnerSound u := hkept fun hm => by
      by_contra hne
      exact hkeep ⟨hm, hne⟩
    split
    · next hc =>
      obtain ⟨hcur, hrec⟩ := hclaim n hc
      unfold claimChanged
      split
      · split
        · exact hu
        · exact giveSlot_ownerSound hcur hrec hn
      · exact ⟨hu.1, by simp⟩
      · exact ⟨hu.1, by simp⟩
      all_goals exact hu
    · exact hu

/-! ##### A slot's move (R18, R19) -/

/-- The line changes of a move lead from the levels of the old state to those of the new one (R19). -/
theorem lineMoves_end (old new : SlotState) : (lineMoves old.lines new).foldl SlotLines.move old.lines = new.lines := by
  cases old <;> cases new <;> rfl

theorem SlotRecord.move_lines {r : SlotRecord} (h : r.lines = r.state.lines) (new : SlotState) :
    (r.move new).lines = new.lines := by
  rw [SlotRecord.move]
  dsimp only
  rw [h, lineMoves_end]

/-- The state a slot's move begins with, before anything is told of it. -/
def moved (n : Slot) (new : SlotState) (s : State) : State := s.setSlot n ((s.slot n).move new)

theorem moved_basic (n : Slot) (new : SlotState) (s : State) : Basic s (moved n new s) where
  pending := rfl
  powered := rfl
  now := le_rfl
  link := id
  money := id
  lines h m := by
    rw [moved, State.slot_setSlot]
    split
    · exact SlotRecord.move_lines (h n) new
    · exact h m
  buffers := id
  monitors := id

theorem enter_eq (n : Slot) (new : SlotState) (cause : SlotCause) (s : State) :
    enter n new cause s =
      (judgePulse n (routerSlotChanged n new
        (post (.slot n new cause (s.slot n).kind) (moved n new s)))).report (.slot n (s.slot n).state new cause) := by
  unfold enter moved
  dsimp only
  rw [State.slot_setSlot_self]
  rfl

theorem enter_shifts (n : Slot) (new : SlotState) (cause : SlotCause) (s : State) :
    Shifts s (enter n new cause s) := by
  rw [enter_eq]
  have hpost := post_same (.slot n new cause (s.slot n).kind) (moved n new s)
  have hrouter : (post (.slot n new cause (s.slot n).kind) (moved n new s)).router = s.router :=
    hpost.same .router (by decide)
  have hco : (post (.slot n new cause (s.slot n).kind) (moved n new s)).co = s.co := hpost.same .co (by decide)
  have hslot (m : Slot) : (post (.slot n new cause (s.slot n).kind) (moved n new s)).slot m = (moved n new s).slot m :=
    State.slot_congr (hpost.same .slots (by decide)) m
  have hlast := (judgePulse_quiet n (routerSlotChanged n new
    (post (.slot n new cause (s.slot n).kind) (moved n new s)))).trans (report_quiet (.slot n (s.slot n).state new cause) _)
  refine ⟨?_, fun h => hlast.owner ?_, fun h => hlast.unowned ?_⟩
  · exact (moved_basic n new s).trans ((post_quiet ..).toBasic.trans ((routerSlotChanged_basic ..).trans hlast.toBasic))
  · refine routerSlotChanged_owner h hrouter hco ?_ fun m hm => ?_
    · rw [hslot, moved, State.slot_setSlot_self]
      rfl
    · rw [hslot, moved, State.slot_setSlot, if_neg hm]
  · have hu : Unowned (post (.slot n new cause (s.slot n).kind) (moved n new s)) :=
      h.congr (by rw [hrouter]) (by rw [hrouter])
    rw [routerSlotChanged_unowned hu]
    exact hu

theorem enter_slots (n : Slot) (new : SlotState) (cause : SlotCause) (s : State) :
    (enter n new cause s).slots = (moved n new s).slots := by
  rw [enter_eq]
  have hrouter := routerSlotChanged_same n new (post (.slot n new cause (s.slot n).kind) (moved n new s))
  have hpulse := judgePulse_same n (routerSlotChanged n new (post (.slot n new cause (s.slot n).kind) (moved n new s)))
  exact (hpulse.same .slots (by decide)).trans ((hrouter.same .slots (by decide)).trans
    ((post_same ..).same .slots (by decide)))

theorem enter_slot_self (n : Slot) (new : SlotState) (cause : SlotCause) (s : State) :
    (enter n new cause s).slot n = (s.slot n).move new := by
  rw [State.slot, enter_slots]
  exact State.slot_setSlot_self ..

theorem enter_slot_other {n m : Slot} (h : m ≠ n) (new : SlotState) (cause : SlotCause) (s : State) :
    (enter n new cause s).slot m = s.slot m := by
  rw [State.slot, enter_slots]
  exact (State.slot_setSlot ..).trans (if_neg h)

theorem enter_bus (n : Slot) (new : SlotState) (cause : SlotCause) (s : State) : (enter n new cause s).bus = s.bus :=
  (enter_same ..).same .bus (by decide)

theorem enter_co (n : Slot) (new : SlotState) (cause : SlotCause) (s : State) : (enter n new cause s).co = s.co :=
  (enter_same ..).same .co (by decide)

/-! ##### What a slot's record may hold (R24 to R28, R50) -/

/-- The slots with a DIP apply run, in the order of the runs. -/
def runSlots (s : State) : List Slot := s.bus.sequence.map ApplyRun.slot

/-- A slot's record fits its state. -/
def SlotFits (s : State) (n : Slot) : Prop :=
  ((s.slot n).mismatch = true → (s.slot n).state = .empty ∨ (s.slot n).state = .off) ∧
  ((s.slot n).pgWindow ≠ none → (s.slot n).state = .powering) ∧
  ((s.slot n).bootWindow ≠ none → (s.slot n).state = .booting) ∧
  (n ∈ runSlots s → (s.slot n).state = .held ∧ (s.slot n).applying = true)

theorem powerSound_iff (s : State) : PowerSound s ↔ (∀ n, SlotFits s n) ∧ (runSlots s).Nodup := by
  constructor
  · rintro ⟨hmis, hpg, hboot, hrun, hnodup⟩
    refine ⟨fun n => ⟨hmis n, hpg n, hboot n, fun hn => ?_⟩, hnodup⟩
    obtain ⟨r, hr, rfl⟩ := List.mem_map.1 hn
    exact hrun r hr
  · rintro ⟨hfits, hnodup⟩
    exact ⟨fun n => (hfits n).1, fun n => (hfits n).2.1, fun n => (hfits n).2.2.1,
      fun r hr => (hfits r.slot).2.2.2 (List.mem_map_of_mem hr), hnodup⟩

theorem PowerSound.fits {s : State} (h : PowerSound s) (n : Slot) : SlotFits s n := ((powerSound_iff s).1 h).1 n

theorem PowerSound.nodup {s : State} (h : PowerSound s) : (runSlots s).Nodup := ((powerSound_iff s).1 h).2

/-- No other slot is changed. -/
structure Others (n : Slot) (s t : State) : Prop where
  slot : ∀ m, m ≠ n → t.slot m = s.slot m

theorem Others.refl (n : Slot) (s : State) : Others n s s := ⟨fun _ _ => rfl⟩

theorem Others.trans {n : Slot} {s t u : State} (h : Others n s t) (h' : Others n t u) : Others n s u :=
  ⟨fun m hm => (h'.slot m hm).trans (h.slot m hm)⟩

theorem Others.after {n : Slot} {s t u : State} (h' : Others n t u) (h : Others n s t) : Others n s u := h.trans h'

theorem Others.of_same {n : Slot} {l : List Block} {s t : State} (h : SameOutside l s t) (hl : Block.slots ∉ l) :
    Others n s t :=
  ⟨fun m _ => State.slot_congr (h.same .slots hl) m⟩

theorem setSlot_others (n : Slot) (r : SlotRecord) (s : State) : Others n s (s.setSlot n r) :=
  ⟨fun m hm => by rw [State.slot_setSlot, if_neg hm]⟩

theorem enter_others (n : Slot) (new : SlotState) (cause : SlotCause) (s : State) : Others n s (enter n new cause s) :=
  ⟨fun _ hm => enter_slot_other hm ..⟩

/-- A change of one slot, with no new run: what is left to show is of the slot itself. -/
theorem PowerSound.change {n : Slot} {s t : State} (h : PowerSound s) (hothers : Others n s t)
    (hruns : (runSlots t).Sublist (runSlots s)) (hfits : SlotFits t n) : PowerSound t := by
  refine (powerSound_iff t).2 ⟨fun m => ?_, h.nodup.sublist hruns⟩
  by_cases hm : m = n
  · subst hm
    exact hfits
  · obtain ⟨hmis, hpg, hboot, hrun⟩ := h.fits m
    rw [SlotFits, hothers.slot m hm]
    exact ⟨hmis, hpg, hboot, fun hmem => hrun (hruns.subset hmem)⟩

/-- A slot that is not EMPTY changes: no EMPTY slot does. -/
theorem Others.empty {n : Slot} {s t : State} (h : Others n s t) (hn : (s.slot n).state ≠ .empty) (m : Slot) :
    (s.slot m).state = .empty → (t.slot m).state = .empty := by
  intro hm
  rw [h.slot m (by rintro rfl; exact hn hm)]
  exact hm

theorem Shifts.quiet {n : Slot} {s t : State} (h : Shifts s t) (hp : PowerSound s → PowerSound t)
    (hothers : Others n s t) (hn : (s.slot n).state ≠ .empty) : Quiet s t :=
  ⟨⟨⟨h.toBasic, hp, h.owner⟩, hothers.empty hn⟩, h.unowned⟩

/-- A slot's record replaced by one in the same state with the same lines. -/
theorem setSlot_shifts {n : Slot} {r : SlotRecord} {s : State} (hstate : r.state = (s.slot n).state)
    (hlines : r.lines = (s.slot n).lines) : Shifts s (s.setSlot n r) where
  pending := rfl
  powered := rfl
  now := le_rfl
  link := id
  money := id
  lines h m := by
    rw [State.slot_setSlot]
    split
    · rw [hstate, hlines]
      exact h n
    · exact h m
  buffers := id
  monitors := id
  owner := .congr rfl rfl rfl rfl fun m => by
    rw [State.slot_setSlot]
    split
    · next he => rw [he, hstate]
    · rfl
  unowned := id

/-! ##### The bus -/

theorem Shifts.with_bus {x : Bus} (s : State) : Shifts s { s with bus := x } := by
  refine ⟨?_, id, id⟩
  constructor <;> first | rfl | exact id

/-- The bus with the same apply runs. -/
theorem Quiet.of_bus {s t : State} (h : SameOutside [.bus] s t) (hr : runSlots t = runSlots s) : Quiet s t := by
  have hslots : t.slots = s.slots := h.same .slots (by decide)
  have hrouter : t.router = s.router := h.same .router (by decide)
  have hco : t.co = s.co := h.same .co (by decide)
  have hslot (m : Slot) : t.slot m = s.slot m := State.slot_congr hslots m
  exact
    { pending := h.same .pending (by decide)
      powered := h.same .powered (by decide)
      now := by rw [show t.now = s.now from h.same .now (by decide)]
      link := .congr (h.same .link (by decide))
      money := .congr (h.same .coins (by decide))
      lines := .congr hslots
      buffers := .congr (h.same .frame (by decide))
      monitors := .congr (h.same .monitors (by decide))
      power := by simp only [powerSound_iff, SlotFits, hslot, hr]; exact id
      owner := .congr (by rw [hrouter]) (by rw [hrouter]) (by rw [hco]) (by rw [hco]) fun n => by rw [hslot]
      empty := fun n => by rw [hslot]; exact id
      unowned := .congr (by rw [hrouter]) (by rw [hrouter]) }

theorem Quiet.with_bus {x : Bus} {s : State} (h : x.sequence.map ApplyRun.slot = runSlots s) :
    Quiet s { s with bus := x } :=
  .of_bus ((SameOutside.refl _ s).with_bus (by decide)) h

theorem arbitrate_runSlots (s : State) : runSlots (arbitrate s) = runSlots s := by
  have hseq {u : State} (h : beginSequence s = some u) : runSlots u = runSlots s := by
    unfold beginSequence at h
    split at h
    · cases h
    · next hs =>
      split at h
      · cases h
      · cases h
        simp [runSlots, beginTransaction, hs]
  have hlink {u : State} (h : beginLink s = some u) : runSlots u = runSlots s := by
    unfold beginLink at h
    split at h
    · cases h
    · split at h
      · cases h
      · cases h
        rfl
  have hpoll {u : State} (h : beginPoll s = some u) : runSlots u = runSlots s := by
    unfold beginPoll at h
    split at h
    · cases h
    · cases h
      rfl
  unfold arbitrate
  split
  · rfl
  · dsimp only
    rcases hs : beginSequence s with _ | u
    · rcases hl : beginLink s with _ | v <;> rcases hp : beginPoll s with _ | w <;> split <;>
        simp [*]
    · simp [hseq hs]

theorem arbitrate_quiet (s : State) : Quiet s (arbitrate s) := .of_bus (arbitrate_same s) (arbitrate_runSlots s)

theorem beginTransaction_quiet (n : Slot) (op : BusOp) (owner : BusOwner) (s : State) :
    Quiet s (beginTransaction n op owner s) := .with_bus rfl

theorem startLinkRun_quiet (n : Slot) (ops : List BusOp) (isRead : Bool) (s : State) :
    Quiet s (startLinkRun n ops isRead s) := (arbitrate_quiet _).after (.with_bus rfl)

theorem pollExpires_quiet (s : State) : Quiet s (pollExpires s) := by
  unfold pollExpires
  split
  · exact .refl s
  · next t _ =>
    have htimer : Quiet s { s.reach t with bus := { (s.reach t).bus with pollTimer := some (t + 337500) } } :=
      (reach_quiet t s).trans (.with_bus rfl)
    dsimp only
    split
    · exact htimer
    · exact (arbitrate_quiet _).after (htimer.trans (.with_bus rfl))

theorem runSlots_withdrawApply (n : Slot) (s : State) :
    runSlots (withdrawApply n s) = (runSlots s).filter (· != n) := by
  rw [runSlots, runSlots, List.filter_map]
  rfl

theorem runSlots_withdrawApply_sublist (n : Slot) (s : State) :
    (runSlots (withdrawApply n s)).Sublist (runSlots s) := by
  rw [runSlots_withdrawApply]
  exact List.filter_sublist

theorem notMem_runSlots_withdrawApply (n : Slot) (s : State) : n ∉ runSlots (withdrawApply n s) := by
  simp [runSlots_withdrawApply]

theorem withdrawApply_quiet (n : Slot) (s : State) : Quiet s (withdrawApply n s) where
  toBasic := (Shifts.with_bus s).toBasic
  power h := by
    refine (powerSound_iff _).2 ⟨fun m => ?_, h.nodup.sublist (runSlots_withdrawApply_sublist n s)⟩
    obtain ⟨hmis, hpg, hboot, hrun⟩ := h.fits m
    exact ⟨hmis, hpg, hboot, fun hm => hrun ((runSlots_withdrawApply_sublist n s).subset hm)⟩
  owner := id
  empty _ := id
  unowned := id

theorem runSlots_handOver (n : Slot) (banks : Tab Byte 4) (s : State) :
    runSlots (handOver n banks s) = (runSlots s).filter (· != n) ++ [n] := by
  rw [handOver, arbitrate_runSlots, ← runSlots_withdrawApply]
  simp [runSlots]

theorem handOver_shifts (n : Slot) (banks : Tab Byte 4) (s : State) : Shifts s (handOver n banks s) :=
  (arbitrate_quiet _).shifts.after ((Shifts.with_bus _).after (withdrawApply_quiet n s).shifts)

theorem handOver_slot (n m : Slot) (banks : Tab Byte 4) (s : State) : (handOver n banks s).slot m = s.slot m :=
  State.slot_congr ((handOver_same n banks s).same .slots (by decide)) m

end Sys2Proof.Machine

/-! ##### The slot manager's operations (R20 to R37) -/

namespace Sys2Proof.Machine

/-- What a state without board supply, and not EMPTY or OFF, has in common with a supplied one: no mismatch flag. -/
theorem SlotFits.mismatch_false {s : State} {n : Slot} (h : SlotFits s n) (he : (s.slot n).state ≠ .empty)
    (ho : (s.slot n).state ≠ .off) : (s.slot n).mismatch = false := by
  by_contra hm
  rcases h.1 (by simpa using hm) with h | h
  · exact he h
  · exact ho h

theorem SlotFits.pgWindow_none {s : State} {n : Slot} (h : SlotFits s n) (hp : (s.slot n).state ≠ .powering) :
    (s.slot n).pgWindow = none := by
  by_contra hw
  exact hp (h.2.1 hw)

theorem SlotFits.bootWindow_none {s : State} {n : Slot} (h : SlotFits s n) (hb : (s.slot n).state ≠ .booting) :
    (s.slot n).bootWindow = none := by
  by_contra hw
  exact hb (h.2.2.1 hw)

theorem SlotFits.notMem {s : State} {n : Slot} (h : SlotFits s n) (hh : (s.slot n).state ≠ .held) : n ∉ runSlots s :=
  fun hm => hh (h.2.2.2 hm).1

theorem SlotFits.notMem_of_applying {s : State} {n : Slot} (h : SlotFits s n) (ha : (s.slot n).applying = false) :
    n ∉ runSlots s := fun hm => by simp [(h.2.2.2 hm).2] at ha

section EnterWith

/-! A slot that enters a state with its record changed first: the record is in the slot's state and has its lines. -/

variable {n : Slot} {r : SlotRecord} {s : State} (new : SlotState) (cause : SlotCause)

theorem enterWith_shifts (hstate : r.state = (s.slot n).state) (hlines : r.lines = (s.slot n).lines) :
    Shifts s (enter n new cause (s.setSlot n r)) :=
  (enter_shifts ..).after (setSlot_shifts hstate hlines)

theorem enterWith_others : Others n s (enter n new cause (s.setSlot n r)) :=
  (enter_others ..).after (setSlot_others ..)

theorem enterWith_slot : (enter n new cause (s.setSlot n r)).slot n = r.move new := by
  rw [enter_slot_self, State.slot_setSlot_self]

theorem runSlots_enter (n : Slot) (new : SlotState) (cause : SlotCause) (s : State) :
    runSlots (enter n new cause s) = runSlots s := by
  rw [runSlots, enter_bus, runSlots]

theorem runSlots_setSlot (n : Slot) (r : SlotRecord) (s : State) : runSlots (s.setSlot n r) = runSlots s := rfl

theorem enterWith_power (h : PowerSound s) (hmis : r.mismatch = true → new = .empty ∨ new = .off)
    (hpg : r.pgWindow ≠ none → new = .powering) (hboot : r.bootWindow ≠ none → new = .booting)
    (hrun : n ∈ runSlots s → new = .held ∧ r.applying = true) : PowerSound (enter n new cause (s.setSlot n r)) := by
  have hruns : runSlots (enter n new cause (s.setSlot n r)) = runSlots s := runSlots_enter ..
  refine h.change (enterWith_others new cause) (by rw [hruns]) ?_
  rw [SlotFits, enterWith_slot, hruns]
  exact ⟨hmis, hpg, hboot, hrun⟩

end EnterWith

/-- A record changed in its own state. -/
theorem setSlot_power {n : Slot} {r : SlotRecord} {s : State} (h : PowerSound s)
    (hmis : r.mismatch = true → r.state = .empty ∨ r.state = .off) (hpg : r.pgWindow ≠ none → r.state = .powering)
    (hboot : r.bootWindow ≠ none → r.state = .booting)
    (hrun : n ∈ runSlots s → r.state = .held ∧ r.applying = true) : PowerSound (s.setSlot n r) := by
  refine h.change (setSlot_others ..) (.refl _) ?_
  rw [SlotFits, State.slot_setSlot_self, runSlots_setSlot]
  exact ⟨hmis, hpg, hboot, hrun⟩

/-! ##### Powering up -/

theorem release_shifts (n : Slot) (s : State) : Shifts s (release n s) := enterWith_shifts _ _ rfl rfl

theorem release_others (n : Slot) (s : State) : Others n s (release n s) := enterWith_others ..

theorem release_power {n : Slot} {s : State} (h : PowerSound s) (hheld : (s.slot n).state = .held)
    (hrun : n ∉ runSlots s) : PowerSound (release n s) := by
  have hfits := h.fits n
  refine enterWith_power _ _ h (fun hm => ?_) (fun hw => ?_) (fun _ => rfl) fun hm => absurd hm hrun
  · simp [hfits.mismatch_false (by simp [hheld]) (by simp [hheld])] at hm
  · exact absurd (hfits.pgWindow_none (by simp [hheld])) hw

theorem handOver_others (n : Slot) (banks : Tab Byte 4) (s : State) : Others n s (handOver n banks s) :=
  .of_same (handOver_same ..) (by decide)

theorem handOver_power {n : Slot} {banks : Tab Byte 4} {s : State} (h : PowerSound s)
    (hheld : (s.slot n).state = .held) (happ : (s.slot n).applying = true) : PowerSound (handOver n banks s) := by
  refine (powerSound_iff _).2 ⟨fun m => ?_, ?_⟩
  · obtain ⟨hmis, hpg, hboot, hrun⟩ := h.fits m
    rw [SlotFits, handOver_slot, runSlots_handOver]
    refine ⟨hmis, hpg, hboot, fun hm => ?_⟩
    rcases List.mem_append.1 hm with hm | hm
    · exact hrun (List.mem_filter.1 hm).1
    · obtain rfl := List.mem_singleton.1 hm
      exact ⟨hheld, happ⟩
  · rw [runSlots_handOver]
    refine List.nodup_append.2 ⟨h.nodup.filter _, List.nodup_singleton _, ?_⟩
    simp

theorem proceedHeld_shifts (n : Slot) (s : State) : Shifts s (proceedHeld n s) := by
  unfold proceedHeld
  dsimp only
  split
  · split
    · exact (handOver_shifts ..).after (setSlot_shifts rfl rfl)
    · exact release_shifts ..
  · exact (Quiet.refl s).shifts

theorem proceedHeld_others (n : Slot) (s : State) : Others n s (proceedHeld n s) := by
  unfold proceedHeld
  dsimp only
  split
  · split
    · exact (handOver_others ..).after (setSlot_others ..)
    · exact release_others ..
  · exact .refl n s

theorem proceedHeld_power {n : Slot} {s : State} (h : PowerSound s) (hheld : (s.slot n).state = .held)
    (hrun : n ∉ runSlots s) : PowerSound (proceedHeld n s) := by
  unfold proceedHeld
  dsimp only
  split
  · split
    · have hfits := h.fits n
      refine handOver_power (setSlot_power h hfits.1 hfits.2.1 hfits.2.2.1 fun hm => absurd hm hrun) ?_ ?_ <;>
        rw [State.slot_setSlot_self]
      exact hheld
    · exact release_power h hheld hrun
  · exact h

theorem powerGoodSeen_shifts (n : Slot) (s : State) : Shifts s (powerGoodSeen n s) :=
  (proceedHeld_shifts ..).after (enterWith_shifts _ _ rfl rfl)

theorem powerGoodSeen_others (n : Slot) (s : State) : Others n s (powerGoodSeen n s) :=
  (proceedHeld_others ..).after (enterWith_others ..)

/-- A slot in POWERING enters HELD and goes on: what stands in it fits, whatever its window held. -/
theorem powerGoodSeen_power {n : Slot} {s : State} (h : PowerSound s) (hpow : (s.slot n).state = .powering) :
    PowerSound (powerGoodSeen n s) := by
  have hfits := h.fits n
  have hrun := hfits.notMem (by simp [hpow])
  refine proceedHeld_power (enterWith_power _ _ h (fun hm => ?_) (by simp) (fun hw => ?_) fun hm => absurd hm hrun) ?_ ?_
  · simp [hfits.mismatch_false (by simp [hpow]) (by simp [hpow])] at hm
  · exact absurd (hfits.bootWindow_none (by simp [hpow])) hw
  · rw [enterWith_slot]
    rfl
  · rw [runSlots_enter]
    exact hrun

theorem powerGoodSeen_quiet {n : Slot} {s : State} (hpow : (s.slot n).state = .powering) :
    Quiet s (powerGoodSeen n s) :=
  (powerGoodSeen_shifts n s).quiet (fun h => powerGoodSeen_power h hpow) (powerGoodSeen_others n s) (by simp [hpow])

/-- The state in which a slot that powers up enters POWERING: levels read, the run-up flag set, the window started, the
monitor told (R25, R69, R144). -/
def poweringReady (n : Slot) (s : State) : State :=
  supplyOn n ((readCoinLevels n s).setSlot n { s.slot n with
    runUp := true
    pgWindow := some (s.now + ms 1000)
    lineHigh := (s.profile n).general.lineHigh
    rereadLevels := false })

theorem enterPowering_eq (n : Slot) (cause : SlotCause) (s : State) :
    enterPowering n cause s =
      if ((enter n .powering cause (poweringReady n s)).slot n).powerGood then
        powerGoodSeen n (enter n .powering cause (poweringReady n s))
      else enter n .powering cause (poweringReady n s) := rfl

theorem enterPowering_quiet {n : Slot} {s : State} (hoff : (s.slot n).state = .off)
    (hmis : (s.slot n).mismatch = false) (cause : SlotCause) : Quiet s (enterPowering n cause s) := by
  have hslot (m : Slot) : (poweringReady n s).slot m = ((readCoinLevels n s).setSlot n { s.slot n with
      runUp := true
      pgWindow := some (s.now + ms 1000)
      lineHigh := (s.profile n).general.lineHigh
      rereadLevels := false }).slot m := rfl
  have hready : Shifts s (enter n .powering cause (poweringReady n s)) :=
    (enter_shifts ..).after ((supplyOn_quiet ..).shifts.after
      (Shifts.trans (readCoinLevels_quiet n s).shifts (setSlot_shifts rfl rfl)))
  have hothers : Others n s (enter n .powering cause (poweringReady n s)) :=
    (enter_others ..).after ⟨fun m hm => by
      rw [hslot, State.slot_setSlot, if_neg hm]
      rfl⟩
  have hself : (enter n .powering cause (poweringReady n s)).slot n =
      SlotRecord.move { s.slot n with
        runUp := true
        pgWindow := some (s.now + ms 1000)
        lineHigh := (s.profile n).general.lineHigh
        rereadLevels := false } .powering := by
    rw [enter_slot_self, hslot, State.slot_setSlot_self]
  have hpowering : Quiet s (enter n .powering cause (poweringReady n s)) := by
    refine hready.quiet (fun h => ?_) hothers (by simp [hoff])
    have hfits := h.fits n
    have hruns : runSlots (enter n .powering cause (poweringReady n s)) = runSlots s := runSlots_enter ..
    refine h.change hothers (by rw [hruns]) ?_
    rw [SlotFits, hself, hruns]
    refine ⟨fun hm => ?_, fun _ => rfl, fun hw => absurd (hfits.bootWindow_none (by simp [hoff])) hw,
      fun hm => absurd hm (hfits.notMem (by simp [hoff]))⟩
    change (s.slot n).mismatch = true at hm
    simp [hmis] at hm
  rw [enterPowering_eq]
  split
  · exact hpowering.trans (powerGoodSeen_quiet (by rw [hself]; rfl))
  · exact hpowering

/-! ##### Leaving the supplied states (R20) -/

/-- A slot left a supplied state, before its pulse, its queue and its monitor are seen to. -/
def leftSupplied (n : Slot) (new : SlotState) (cause : SlotCause) (s : State) : State :=
  enter n new cause ((withdrawApply n s).setSlot n
    (((withdrawApply n s).slot n).powerless.entering new (mismatchOf n (withdrawApply n s))))

theorem leaveSupplied_eq (n : Slot) (new : SlotState) (cause : SlotCause) (s : State) :
    leaveSupplied n new cause s = supplyOff n (returnQueue n (cutPulse n true (leftSupplied n new cause s))) := rfl

theorem entering_state (r : SlotRecord) (new : SlotState) (mismatch : Bool) :
    (r.entering new mismatch).state = r.state ∧ (r.entering new mismatch).lines = r.lines ∧
      (r.entering new mismatch).pgWindow = r.pgWindow ∧ (r.entering new mismatch).bootWindow = r.bootWindow := by
  cases new <;> exact ⟨rfl, rfl, rfl, rfl⟩

theorem leftSupplied_quiet {n : Slot} {new : SlotState} {s : State} (hsup : (s.slot n).state.supplied = true)
    (cause : SlotCause) : Quiet s (leftSupplied n new cause s) := by
  obtain ⟨hstate, hlines, hpg, hboot⟩ := entering_state ((withdrawApply n s).slot n).powerless new
    (mismatchOf n (withdrawApply n s))
  refine (withdrawApply_quiet n s).trans ?_
  refine (enterWith_shifts new cause hstate hlines).quiet (fun h => ?_) (enterWith_others ..) ?_
  · refine enterWith_power _ _ h (fun hm => ?_) (fun hw => absurd hpg hw) (fun hw => absurd hboot hw)
      fun hm => absurd hm (notMem_runSlots_withdrawApply n s)
    have hfits := h.fits n
    have hslot : (withdrawApply n s).slot n = s.slot n := rfl
    have hno : ((withdrawApply n s).slot n).mismatch = false :=
      hfits.mismatch_false (by rw [hslot]; rintro h; simp [h, SlotState.supplied] at hsup)
        (by rw [hslot]; rintro h; simp [h, SlotState.supplied] at hsup)
    cases new with
    | empty => exact .inl rfl
    | off => exact .inr rfl
    | powering | held | booting | live | frozen | fault =>
      simp [SlotRecord.entering, SlotRecord.powerless, hno] at hm
  · intro h
    change (s.slot n).state = .empty at h
    simp [h, SlotState.supplied] at hsup

theorem leaveSupplied_quiet {n : Slot} {new : SlotState} {s : State} (hsup : (s.slot n).state.supplied = true)
    (cause : SlotCause) : Quiet s (leaveSupplied n new cause s) := by
  rw [leaveSupplied_eq]
  exact (supplyOff_quiet ..).after ((returnQueue_quiet ..).after ((cutPulse_quiet ..).after
    (leftSupplied_quiet hsup cause)))

/-- A slot's state among the supplied ones, by name. -/
theorem SlotState.supplied_iff (st : SlotState) : st.supplied = true ↔ st ≠ .empty ∧ st ≠ .off ∧ st ≠ .fault := by
  cases st <;> simp [SlotState.supplied]

/-- A running window tells the slot's state, where the record is sound; where it is not, there is nothing to keep but
what every operation keeps. -/
theorem leaveSupplied_shifts (n : Slot) (new : SlotState) (cause : SlotCause) (s : State) :
    Shifts s (leaveSupplied n new cause s) := by
  obtain ⟨hstate, hlines, -⟩ := entering_state ((withdrawApply n s).slot n).powerless new
    (mismatchOf n (withdrawApply n s))
  rw [leaveSupplied_eq]
  exact (supplyOff_quiet ..).shifts.after ((returnQueue_quiet ..).shifts.after ((cutPulse_quiet ..).shifts.after
    ((enterWith_shifts new cause hstate hlines).after (withdrawApply_quiet n s).shifts)))

theorem Shifts.steps {s t : State} (h : Shifts s t) (hp : PowerSound s → PowerSound t) : Steps s t :=
  ⟨h.toBasic, hp, h.owner⟩

theorem Quiet.steps {s t : State} (h : Quiet s t) : Steps s t := h.toSteps

theorem Steps.after {s t u : State} (h' : Steps t u) (h : Steps s t) : Steps s u := h.trans h'

theorem powerGoodExpires_steps (n : Slot) (s : State) : Steps s (powerGoodExpires n s) := by
  unfold powerGoodExpires
  split
  · exact .refl s
  · next t ht =>
    refine ((leaveSupplied_shifts ..).after (reach_quiet t s).shifts).steps fun h => ?_
    have hpow : (s.slot n).state = .powering := (h.fits n).2.1 (by simp [ht])
    have hsup : ((s.reach t).slot n).state.supplied = true := by
      change (s.slot n).state.supplied = true
      simp [hpow, SlotState.supplied]
    exact ((leaveSupplied_quiet hsup _).after (reach_quiet t s)).power h

theorem bootExpires_steps (n : Slot) (s : State) : Steps s (bootExpires n s) := by
  unfold bootExpires
  split
  · exact .refl s
  · next t ht =>
    refine Shifts.steps (Shifts.after (enterWith_shifts _ _ (by rfl) (by rfl)) (reach_quiet t s).shifts) fun h => ?_
    have hfits := h.fits n
    have hboot : (s.slot n).state = .booting := hfits.2.2.1 (by simp [ht])
    refine enterWith_power _ _ ((reach_quiet t s).power h) (fun hm => ?_) (fun hw => ?_) (by simp) fun hm => ?_
    · change (s.slot n).mismatch = true at hm
      simp [hfits.mismatch_false (by simp [hboot]) (by simp [hboot])] at hm
    · exact absurd (hfits.pgWindow_none (by simp [hboot])) hw
    · exact absurd hm (hfits.notMem (by simp [hboot]))

theorem setPowerGood_quiet (n : Slot) (on : Bool) (s : State) : Quiet s (setPowerGood n on s) :=
  setSlot_quiet rfl rfl id rfl rfl rfl

theorem powerGoodRises_quiet (n : Slot) (s : State) : Quiet s (powerGoodRises n s) := by
  unfold powerGoodRises
  dsimp only
  split
  · next h => exact (powerGoodSeen_quiet h).after (setPowerGood_quiet ..)
  · exact setPowerGood_quiet ..

theorem powerGoodFalls_quiet (n : Slot) (s : State) : Quiet s (powerGoodFalls n s) := by
  unfold powerGoodFalls
  dsimp only
  have hset := setPowerGood_quiet n false s
  generalize setPowerGood n false s = u at hset ⊢
  split
  case h_1 h | h_2 h | h_3 h | h_4 h => exact hset.trans (leaveSupplied_quiet (by rw [h]; rfl) _)
  all_goals exact hset

/-! ##### The end of a DIP apply -/

theorem applyFailed_shifts (n : Slot) (s : State) : Shifts s (applyFailed n s) :=
  (report_quiet ..).shifts.after ((post_quiet ..).shifts.after (setSlot_shifts rfl rfl))

theorem applyFailed_power {n : Slot} {s : State} (h : PowerSound s) (hrun : n ∉ runSlots s) :
    PowerSound (applyFailed n s) := by
  have hfits := h.fits n
  refine ((report_quiet ..).after (post_quiet ..)).power ?_
  exact setSlot_power h hfits.1 hfits.2.1 hfits.2.2.1 fun hm => absurd hm hrun

/-! ##### Presence and auto power -/

theorem recomputeMismatch_quiet (n : Slot) (s : State) : Quiet s (recomputeMismatch n s) := by
  unfold recomputeMismatch
  split
  · next hoff =>
    refine Shifts.quiet (setSlot_shifts rfl rfl) (fun h => ?_) (setSlot_others ..) (by simp [hoff])
    have hfits := h.fits n
    exact setSlot_power h (fun _ => .inr hoff) hfits.2.1 hfits.2.2.1 hfits.2.2.2
  · exact .refl s

theorem autoPower_quiet (n : Slot) (s : State) : Quiet s (autoPower n s) := by
  have hset : Quiet s (s.setSlot n { s.slot n with autoPending := false }) := setSlot_quiet rfl rfl id rfl rfl rfl
  unfold autoPower
  dsimp only
  split
  · next h => exact (enterPowering_quiet h.1 h.2.1 _).after hset
  · exact hset

theorem autoPowerVerdict_quiet (n : Slot) (s : State) : Quiet s (autoPowerVerdict n s) := by
  unfold autoPowerVerdict
  split
  · exact autoPower_quiet ..
  · exact .refl s

theorem boardFound_steps {n : Slot} {s : State} (h : (s.slot n).state = .empty) (kind revision : Nat)
    (cause : SlotCause) : Steps s (boardFound n kind revision cause s) := by
  unfold boardFound
  dsimp only
  refine Steps.after ?_ (setSlot_quiet (n := n) (r := { s.slot n with kind := kind, revision := revision })
    rfl rfl id rfl rfl rfl).steps
  generalize hu : s.setSlot n { s.slot n with kind := kind, revision := revision } = u
  have hempty : (u.slot n).state = .empty := by
    rw [← hu, State.slot_setSlot_self]
    exact h
  refine Shifts.steps (enterWith_shifts _ _ rfl rfl) fun h => ?_
  have hfits := h.fits n
  exact enterWith_power _ _ h (fun _ => .inr rfl) (fun hw => absurd (hfits.pgWindow_none (by simp [hempty])) hw)
    (fun hw => absurd (hfits.bootWindow_none (by simp [hempty])) hw)
    fun hm => absurd hm (hfits.notMem (by simp [hempty]))

theorem verdictPresent_steps {n : Slot} {s : State} (h : (s.slot n).state = .empty) (kind revision : Nat) :
    Steps s (verdictPresent n kind revision s) :=
  (autoPowerVerdict_quiet ..).steps.after (boardFound_steps h ..)

theorem removeBoard_quiet {n : Slot} {s : State} (hn : (s.slot n).state ≠ .empty) (cause : SlotCause) :
    Quiet s (removeBoard n cause s) := by
  unfold removeBoard
  split
  · next h => exact leaveSupplied_quiet h _
  · next hsup =>
    refine (returnQueue_quiet ..).after ?_
    refine Shifts.quiet (enterWith_shifts _ _ rfl rfl) (fun h => ?_) (enterWith_others ..) hn
    have hfits := h.fits n
    have hnot (st : SlotState) (hst : st.supplied = true) : (s.slot n).state ≠ st := by
      rintro rfl
      exact hsup hst
    exact enterWith_power _ _ h (fun _ => .inl rfl) (fun hw => absurd (hfits.pgWindow_none (hnot _ rfl)) hw)
      (fun hw => absurd (hfits.bootWindow_none (hnot _ rfl)) hw) fun hm => absurd hm (hfits.notMem (hnot _ rfl))

theorem verdictAbsent_quiet (n : Slot) (first : Bool) (s : State) : Quiet s (verdictAbsent n first s) := by
  have hfirst : Quiet s (if first then s.setSlot n { s.slot n with autoPending := false } else s) := by
    split
    · exact setSlot_quiet rfl rfl id rfl rfl rfl
    · exact .refl s
  unfold verdictAbsent
  revert hfirst
  generalize (if first then s.setSlot n { s.slot n with autoPending := false } else s) = u
  intro hfirst
  dsimp only
  split
  · split
    · exact (post_quiet ..).after hfirst
    · exact hfirst
  · next h => exact (removeBoard_quiet h _).after hfirst

theorem takeStatus_quiet (n : Slot) (v : Word16) (s : State) : Quiet s (takeStatus n v s) := by
  unfold takeStatus
  split
  · exact .refl s
  · exact setSlot_quiet rfl rfl id rfl rfl rfl

/-! ##### Powering down, restart and the standing modes -/

theorem powerOff_quiet {n : Slot} {s : State} (hn : (s.slot n).state ≠ .empty) : Quiet s (powerOff n s) := by
  unfold powerOff
  split
  · next h => exact leaveSupplied_quiet h _
  · next hsup =>
    refine Shifts.quiet (enterWith_shifts _ _ rfl rfl) (fun h => ?_) (enterWith_others ..) hn
    have hfits := h.fits n
    have hnot (st : SlotState) (hst : st.supplied = true) : (s.slot n).state ≠ st := by
      rintro rfl
      exact hsup hst
    exact enterWith_power _ _ h (fun _ => .inr rfl) (fun hw => absurd (hfits.pgWindow_none (hnot _ rfl)) hw)
      (fun hw => absurd (hfits.bootWindow_none (hnot _ rfl)) hw) fun hm => absurd hm (hfits.notMem (hnot _ rfl))

theorem restartBoard_quiet {n : Slot} {s : State} (hsup : (s.slot n).state.supplied = true) :
    Quiet s (restartBoard n s) := by
  obtain ⟨hempty, hoff, -⟩ := (SlotState.supplied_iff _).1 hsup
  unfold restartBoard
  dsimp only
  refine Quiet.after ?_ (withdrawApply_quiet n s)
  generalize hu : withdrawApply n s = u
  have hslot : u.slot n = s.slot n := by rw [← hu]; rfl
  have hrun : n ∉ runSlots u := by rw [← hu]; exact notMem_runSlots_withdrawApply n s
  refine Shifts.quiet ((proceedHeld_shifts ..).after (enterWith_shifts _ _ rfl rfl)) (fun h => ?_)
    ((proceedHeld_others ..).after (enterWith_others ..)) (by rwa [hslot])
  have hno := (h.fits n).mismatch_false (by rwa [hslot]) (by rwa [hslot])
  refine proceedHeld_power (enterWith_power _ _ h (fun hm => ?_) (fun hw => absurd rfl hw) (fun hw => absurd rfl hw)
    fun hm => absurd hm hrun) (by rw [enterWith_slot]; rfl) (by rw [runSlots_enter]; exact hrun)
  simp [SlotRecord.powerless, hno] at hm

/-- A park that stops a running slot at HELD. -/
theorem parkHeld_quiet {n : Slot} {s : State}
    (hst : (s.slot n).state = .booting ∨ (s.slot n).state = .live ∨ (s.slot n).state = .frozen) :
    Quiet s (parkHeld n s) := by
  have hnot (st : SlotState) (h : st = .empty ∨ st = .off ∨ st = .powering ∨ st = .held) : (s.slot n).state ≠ st := by
    rintro rfl
    rcases hst with hst | hst | hst <;> simp [hst] at h
  refine Shifts.quiet (enterWith_shifts _ _ rfl rfl) (fun h => ?_) (enterWith_others ..) (hnot _ (by simp))
  have hfits := h.fits n
  refine enterWith_power _ _ h (fun hm => ?_) (fun hw => absurd (hfits.pgWindow_none (hnot _ (by simp))) hw)
    (fun hw => absurd rfl hw) fun hm => absurd hm (hfits.notMem (hnot _ (by simp)))
  simp [hfits.mismatch_false (hnot _ (by simp)) (hnot _ (by simp))] at hm

theorem parkNotRunning_quiet (n : Slot) (s : State) : Quiet s (parkNotRunning n s) := by
  unfold parkNotRunning
  split
  · exact setSlot_quiet rfl rfl id rfl rfl rfl
  · next hheld =>
    dsimp only
    refine Quiet.after ?_ (withdrawApply_quiet n s)
    generalize hu : withdrawApply n s = u
    have hslot : u.slot n = s.slot n := by rw [← hu]; rfl
    have hrun : n ∉ runSlots u := by rw [← hu]; exact notMem_runSlots_withdrawApply n s
    refine Shifts.quiet (setSlot_shifts rfl rfl) (fun h => ?_) (setSlot_others ..) (by simp [hslot, hheld])
    have hfits := h.fits n
    exact setSlot_power h hfits.1 hfits.2.1 hfits.2.2.1 fun hm => absurd hm hrun
  · next hboot => exact parkHeld_quiet (.inl hboot)
  all_goals exact .refl s

/-- A running slot, LIVE or FROZEN, that enters the other of the two states, its record otherwise changed in flags and
signatures alone. -/
theorem enterRunning_quiet {n : Slot} {r : SlotRecord} {s : State} {new : SlotState}
    (hst : (s.slot n).state = .live ∨ (s.slot n).state = .frozen) (hstate : r.state = (s.slot n).state)
    (hlines : r.lines = (s.slot n).lines) (hmis : r.mismatch = (s.slot n).mismatch)
    (hpg : r.pgWindow = (s.slot n).pgWindow) (hboot : r.bootWindow = (s.slot n).bootWindow) (cause : SlotCause) :
    Quiet s (enter n new cause (s.setSlot n r)) := by
  have hnot (st : SlotState) (h : st ≠ .live ∧ st ≠ .frozen) : (s.slot n).state ≠ st := by
    rintro rfl
    rcases hst with hst | hst <;> simp [hst] at h
  refine (enterWith_shifts _ _ hstate hlines).quiet (fun h => ?_) (enterWith_others ..) (hnot _ (by simp))
  have hfits := h.fits n
  refine enterWith_power _ _ h (fun hm => ?_) (fun hw => ?_) (fun hw => ?_)
    fun hm => absurd hm (hfits.notMem (hnot _ (by simp)))
  · simp [hmis, hfits.mismatch_false (hnot _ (by simp)) (hnot _ (by simp))] at hm
  · rw [hpg] at hw
    exact absurd (hfits.pgWindow_none (hnot _ (by simp))) hw
  · rw [hboot] at hw
    exact absurd (hfits.bootWindow_none (hnot _ (by simp))) hw

theorem parkFreeze_quiet (n : Slot) (s : State) : Quiet s (parkFreeze n s) := by
  unfold parkFreeze
  dsimp only
  split
  · next h => exact enterRunning_quiet (.inl h) (by rfl) (by rfl) (by rfl) (by rfl) (by rfl) _
  · exact setSlot_quiet rfl rfl id rfl rfl rfl
  all_goals exact parkNotRunning_quiet ..

theorem parkHold_quiet (n : Slot) (s : State) : Quiet s (parkHold n s) := by
  unfold parkHold
  split
  · next h => exact parkHeld_quiet (.inr (.inl h))
  · next h =>
    refine Quiet.after (parkHeld_quiet (.inr (.inr ?_))) (setSlot_quiet rfl rfl id rfl rfl rfl)
    rw [State.slot_setSlot_self]
    exact h
  all_goals exact parkNotRunning_quiet ..

theorem parkRun_quiet (n : Slot) (s : State) : Quiet s (parkRun n s) := by
  unfold parkRun
  split
  · next h => exact enterRunning_quiet (.inr h) (by rfl) (by rfl) (by rfl) (by rfl) (by rfl) _
  · exact .refl s

theorem park_quiet (n : Slot) (s : State) : Quiet s (park n s) := by
  unfold park
  split
  · exact parkRun_quiet ..
  · exact parkFreeze_quiet ..
  · exact parkHold_quiet ..
  · split
    · next h => exact leaveSupplied_quiet h _
    · exact .refl s

theorem wake_quiet (n : Slot) (s : State) : Quiet s (wake n s).1 := by
  unfold wake
  dsimp only
  split
  · exact .refl s
  · next h => exact enterRunning_quiet (.inr h) (by rfl) (by rfl) (by rfl) (by rfl) (by rfl) _
  · exact .refl s
  · next hheld =>
    have hset : Quiet s (s.setSlot n { s.slot n with runUp := true }) := setSlot_quiet rfl rfl id rfl rfl rfl
    dsimp only
    split
    · exact hset
    · next happ =>
      refine hset.trans ((proceedHeld_shifts ..).quiet (fun h => ?_) (proceedHeld_others ..) ?_)
      · refine proceedHeld_power h (by rw [State.slot_setSlot_self]; exact hheld) ((h.fits n).notMem_of_applying ?_)
        rw [State.slot_setSlot_self]
        simpa using happ
      · rw [State.slot_setSlot_self]
        simp [hheld]
  · exact setSlot_quiet rfl rfl id rfl rfl rfl
  · next hoff =>
    split
    · exact .refl s
    · next hmis => exact enterPowering_quiet hoff (by simpa using hmis) _
  · exact .refl s
  · exact .refl s

theorem pauseFreeze_quiet (n : Slot) (s : State) : Quiet s (pauseFreeze n s) := by
  unfold pauseFreeze
  split
  · next h => exact enterRunning_quiet (.inl h) (by rfl) (by rfl) (by rfl) (by rfl) (by rfl) _
  · exact .refl s

theorem pauseRelease_quiet (n : Slot) (s : State) : Quiet s (pauseRelease n s) := by
  unfold pauseRelease
  split
  · next h =>
    simp only [isPaused, Bool.and_eq_true, beq_iff_eq] at h
    exact enterRunning_quiet (.inr h.1) (by rfl) (by rfl) (by rfl) (by rfl) (by rfl) _
  · exact .refl s

end Sys2Proof.Machine

/-! ##### The changeover controller (R76 to R98) -/

namespace Sys2Proof.Machine

/-- What an operation keeps that may put a changeover in flight: all but the tie of the owner to the controller. -/
structure Aloft (s t : State) : Prop extends Basic s t where
  power : PowerSound s → PowerSound t
  empty : ∀ n, (s.slot n).state = .empty → (t.slot n).state = .empty
  unowned : Unowned s → Unowned t

theorem Aloft.trans {s t u : State} (h : Aloft s t) (h' : Aloft t u) : Aloft s u :=
  ⟨h.toBasic.trans h'.toBasic, h'.power ∘ h.power, fun n => h'.empty n ∘ h.empty n, h'.unowned ∘ h.unowned⟩

theorem Quiet.aloft {s t : State} (h : Quiet s t) : Aloft s t := ⟨h.toBasic, h.power, h.empty, h.unowned⟩

theorem Aloft.after {s t u : State} (h' : Aloft t u) (h : Aloft s t) : Aloft s u := h.trans h'

theorem Aloft.flies {s t : State} (h : Aloft s t) : Flies s t :=
  ⟨h.toBasic, h.power, h.empty, fun hu => (h.unowned hu).ownerSound⟩

theorem Aloft.then {s t u : State} (h : Aloft s t) (h' : Flies t u) : Flies s u :=
  ⟨h.toBasic.trans h'.toBasic, h'.power ∘ h.power, fun n => h'.empty n ∘ h.empty n, h'.lands ∘ h.unowned⟩

theorem Keeps.after {s t u : State} (h' : Keeps t u) (h : Keeps s t) : Keeps s u := h.trans h'

theorem Quiet.keeps {s t : State} (h : Quiet s t) : Keeps s t := h.toKeeps

theorem Basic.with_co {x : Controller} (s : State) : Basic s { s with co := x } := by
  constructor <;> first | rfl | exact id

theorem Aloft.with_co {x : Controller} (s : State) : Aloft s { s with co := x } := ⟨.with_co s, id, fun _ => id, id⟩

/-- The controller with no new record and the same current slot. -/
theorem Quiet.with_co {x : Controller} {s : State} (hcur : x.current = s.co.current)
    (hr : s.co.record = none → x.record = none) : Quiet s { s with co := x } where
  toBasic := .with_co s
  power := id
  owner h := ⟨fun n hn => by
      obtain ⟨h1, h2, h3⟩ := h.1 n hn
      exact ⟨hcur.trans h1, hr h2, h3⟩,
    fun n hn => by
      obtain ⟨h1, h2⟩ := h.2 n hn
      exact ⟨hcur.trans h1, hr h2⟩⟩
  empty _ := id
  unowned := id

theorem setRecord_aloft (r : Option Record) (s : State) : Aloft s (setRecord r s) := .with_co s

theorem setPending_quiet (p : Option Pending) (s : State) : Quiet s (setPending p s) := .with_co rfl id

theorem setWatch_quiet (w : Watch) (s : State) : Quiet s (setWatch w s) := .with_co rfl id

theorem clearRecord_quiet (s : State) : Quiet s (setRecord none s) := .with_co rfl fun _ => rfl

/-! ##### Starts and ends of a changeover -/

theorem quiescePicture_quiet (r : Record) (s : State) : Quiet s (quiescePicture r s) := by
  unfold quiescePicture
  split
  · exact setHold_quiet ..
  · split
    · exact setPictureLevel_quiet ..
    · exact fadePicture_quiet ..

theorem quiesceSound_quiet (r : Record) (s : State) : Quiet s (quiesceSound r s) := by
  unfold quiesceSound
  split
  · exact setGain_quiet ..
  · exact fadeSound_quiet ..

theorem quiesceCoins_quiet (r : Record) (s : State) : Quiet s (quiesceCoins r s) := by
  unfold quiesceCoins
  split
  · exact returnQueue_quiet ..
  · exact .refl s

theorem quiesceFades_quiet (r : Record) (s : State) :
    Quiet s (quiesceSound r (quiescePicture r (quiesceCoins r s))) :=
  (quiesceSound_quiet ..).after ((quiescePicture_quiet ..).after (quiesceCoins_quiet ..))

/-- A start takes the controls from every slot, whoever had them before. -/
theorem startChangeover_keeps (st : Start) (s : State) : Keeps s (startChangeover st s) := by
  have hset : Aloft s (setWatch .stopped (setRecord (some (newRecord st s)) s)) :=
    (setWatch_quiet ..).aloft.after (setRecord_aloft ..)
  unfold startChangeover
  dsimp only
  generalize setWatch .stopped (setRecord (some (newRecord st s)) s) = u at hset ⊢
  have hrouter : Aloft s (routerQuiesce u) := by
    have hsame := routerQuiesce_same u
    refine ⟨hset.toBasic.trans (routerQuiesce_basic u), fun h => ?_, fun n h => ?_, fun _ => routerQuiesce_unowned u⟩
    · exact .congr (hsame.same .slots (by decide)) (congrArg Bus.sequence (hsame.same .bus (by decide))) (hset.power h)
    · rw [State.slot_congr (hsame.same .slots (by decide))]
      exact hset.empty n h
  have hfades := quiesceFades_quiet (newRecord st s) (routerQuiesce u)
  have hend := hfades.aloft.after hrouter
  exact ⟨⟨hend.toBasic, hend.power, fun _ => (hfades.unowned (routerQuiesce_unowned u)).ownerSound⟩, hend.empty⟩

theorem closeRecord_quiet (r : Record) (o : CoOutcome) (s : State) : Quiet s (closeRecord r o s) :=
  (clearRecord_quiet _).after (post_quiet ..)

theorem startPending_keeps (p : Pending) (s : State) : Keeps s (startPending p s) :=
  (startChangeover_keeps ..).after (setPending_quiet ..).keeps

theorem parkTarget_quiet (r : Record) (evenSource : Bool) (s : State) : Quiet s (parkTarget r evenSource s) := by
  unfold parkTarget
  split
  · exact .refl s
  · split
    · exact park_quiet ..
    · exact .refl s

theorem supersede_keeps (r : Record) (p : Pending) (s : State) : Keeps s (supersede r p s) :=
  (startPending_keeps ..).after
    ((closeRecord_quiet ..).after ((parkTarget_quiet ..).after (disableWriter_quiet s))).keeps

theorem startNext_keeps (r : Record) (s : State) : Keeps s (startNext r s) := by
  unfold startNext
  split
  · exact startPending_keeps ..
  · split <;> exact startChangeover_keeps ..

theorem countFailure_quiet (r : Record) (s : State) : Quiet s (countFailure r s) := by
  unfold countFailure
  split
  · exact increment_quiet ..
  · exact .refl s

theorem fail_keeps (r : Record) (o : CoOutcome) (s : State) : Keeps s (fail r o s) :=
  (startNext_keeps ..).after ((closeRecord_quiet ..).after ((countFailure_quiet ..).after ((parkTarget_quiet ..).after
    ((stopSoundFade_quiet _).after ((stopPictureFade_quiet _).after (disableWriter_quiet s)))))).keeps

theorem abortChangeover_keeps (r : Record) (tag : Byte) (s : State) : Keeps s (abortChangeover r tag s) :=
  (startChangeover_keeps ..).after ((closeRecord_quiet ..).after ((setPending_quiet ..).after
    ((parkTarget_quiet ..).after (disableWriter_quiet s)))).keeps

/-! ##### The current board -/

theorem loseBoard_keeps (reason : Reason) (s : State) : Keeps s (loseBoard reason s) :=
  (startChangeover_keeps ..).after (setWatch_quiet ..).keeps

theorem startWatch_keeps (length : Nat) (s : State) : Keeps s (startWatch length s) := by
  unfold startWatch
  split
  · exact loseBoard_keeps ..
  · exact (setWatch_quiet ..).keeps

theorem endWatch_quiet (s : State) : Quiet s (endWatch s) :=
  (recentre_quiet _).after ((setHold_quiet ..).after (setWatch_quiet ..))

theorem watchIfLost_keeps (n : Slot) (s : State) : Keeps s (watchIfLost n s) := by
  unfold watchIfLost
  split
  case h_1 | h_2 => exact (startWatch_keeps ..).after (setHold_quiet ..).keeps
  case h_3 | h_4 => exact .refl s

/-! ##### GRANT -/

/-- GRANT gives the controls to the slot that is now current, with the changeover over (R146). -/
theorem routerGrant_ownerSound {t : Option Slot} {s : State} (hcur : s.co.current = t) (hr : s.co.record = none)
    (hu : Unowned s) : OwnerSound (routerGrant t s) := by
  have hmap := copyMap_quiet t s
  have hco : (copyMap t s).co = s.co := (copyMap_same t s).same .co (by decide)
  have hlink := ((giveLink_quiet _).unowned (hmap.unowned hu)).ownerSound
  unfold routerGrant
  dsimp only
  generalize copyMap t s = v at hmap hco hlink ⊢
  cases t with
  | none => exact hlink
  | some n =>
    dsimp only
    split
    · exact hlink
    · split
      · next hlive => exact giveSlot_ownerSound (by rw [hco, hcur]) (by rw [hco, hr]) hlive
      · have hnone : (giveNone v).co = v.co := (giveNone_same v).same .co (by decide)
        refine ⟨fun m hm => ?_, fun m hm => ?_⟩
        · simp [giveNone_owner] at hm
        · obtain rfl : n = m := by simpa using hm
          change (giveNone v).co.current = some n ∧ (giveNone v).co.record = none
          rw [hnone, hco]
          exact ⟨hcur, hr⟩

theorem routerGrant_basic (t : Option Slot) (s : State) : Basic s (routerGrant t s) := by
  have hmap := (copyMap_quiet t s).toBasic
  unfold routerGrant
  dsimp only
  generalize copyMap t s = v at hmap ⊢
  cases t with
  | none => exact hmap.trans (giveLink_quiet v).toBasic
  | some n =>
    dsimp only
    split
    · exact hmap.trans (giveLink_quiet v).toBasic
    · split
      · exact hmap.trans (giveSlot_basic ..)
      · exact (hmap.trans (giveNone_quiet v).toBasic).trans (.with_router _)

/-- The router's part of GRANT touches of the slots only the active levels that `to` reads. -/
theorem routerGrant_power (t : Option Slot) (s : State) :
    (PowerSound s → PowerSound (routerGrant t s)) ∧
      ∀ n, (s.slot n).state = .empty → ((routerGrant t s).slot n).state = .empty := by
  have hmap := copyMap_quiet t s
  have hrest : (routerGrant t s).slots = (copyMap t s).slots ∧ (routerGrant t s).bus = (copyMap t s).bus := by
    unfold routerGrant
    dsimp only
    generalize copyMap t s = v
    have hlink : (giveLink v).slots = v.slots ∧ (giveLink v).bus = v.bus :=
      ⟨(giveLink_same v).same .slots (by decide), (giveLink_same v).same .bus (by decide)⟩
    cases t with
    | none => exact hlink
    | some n =>
      dsimp only
      split
      · exact hlink
      · split
        · exact ⟨(giveSlot_same n v).same .slots (by decide), (giveSlot_same n v).same .bus (by decide)⟩
        · exact ⟨(giveNone_same v).same .slots (by decide), (giveNone_same v).same .bus (by decide)⟩
  obtain ⟨hslots, hbus⟩ := hrest
  refine ⟨fun h => .congr hslots (by rw [hbus]) (hmap.power h), fun n h => ?_⟩
  rw [State.slot_congr hslots]
  exact hmap.empty n h

theorem routerGrant_flies {t : Option Slot} {s : State} (hcur : s.co.current = t) (hr : s.co.record = none) :
    Flies s (routerGrant t s) :=
  ⟨routerGrant_basic t s, (routerGrant_power t s).1, (routerGrant_power t s).2, routerGrant_ownerSound hcur hr⟩

theorem grantSlot_quiet (t : Option Slot) (s : State) : Quiet s (grantSlot t s) := by
  unfold grantSlot
  split
  · exact (increment_quiet ..).after (setSlot_quiet rfl rfl id rfl rfl rfl)
  · exact .refl s

/-- The state in which GRANT hands the controls over: `to` is current, and the changeover is over. -/
def granted (r : Record) (s : State) : State :=
  closeRecord r .done (grantSlot r.target (judgeWatched { s with co := { s.co with current := r.target } }))

theorem grant_eq (r : Record) (s : State) :
    grant r s =
      match (granted r s).co.pending with
      | some p => startPending p (granted r s)
      | none =>
        match r.target with
        | some n => watchIfLost n (routerGrant r.target (granted r s))
        | none => routerGrant r.target (granted r s) := rfl

theorem granted_co (r : Record) (s : State) :
    (granted r s).co = { s.co with current := r.target, record := none } := by
  have hwatched (u : State) : (judgeWatched u).co = u.co := (judgeWatched_same u).same .co (by decide)
  have hslot (u : State) : (grantSlot r.target u).co = u.co := (grantSlot_same r.target u).same .co (by decide)
  have hpost (n : Notice) (u : State) : (post n u).co = u.co := (post_same n u).same .co (by decide)
  simp only [granted, closeRecord, setRecord, hpost, hslot, hwatched]

theorem granted_aloft (r : Record) (s : State) : Aloft s (granted r s) :=
  (Aloft.with_co s).trans
    ((closeRecord_quiet ..).after ((grantSlot_quiet ..).after (judgeWatched_quiet _))).aloft

theorem grant_flies (r : Record) (s : State) : Flies s (grant r s) := by
  have hco := granted_co r s
  have hgrant : Flies (granted r s) (routerGrant r.target (granted r s)) :=
    routerGrant_flies (by rw [hco]) (by rw [hco])
  rw [grant_eq]
  refine (granted_aloft r s).then ?_
  split
  · exact (startPending_keeps ..).flies
  · split
    · exact hgrant.then (watchIfLost_keeps ..)
    · exact hgrant

/-! ##### The phases -/

theorem revealTarget_quiet (t : Option Slot) (s : State) :
    Quiet s (match t with | some n => revealSlot n s | none => revealStandby s) := by
  split
  · exact revealSlot_quiet ..
  · exact revealStandby_quiet s

theorem revealLevel_quiet (held : Bool) (duration : Nat) (s : State) :
    Quiet s (if held then setPictureLevel 256 s else fadePicture true duration s) := by
  split
  · exact setPictureLevel_quiet ..
  · exact fadePicture_quiet ..

theorem enterReveal_flies (r : Record) (s : State) : Flies s (enterReveal r s) := by
  refine (Aloft.after ?_ (setRecord_aloft (some { r with phase := .reveal, holdStyle := s.cabinet.holdStyle }) s)).flies
  unfold enterReveal
  dsimp only
  generalize setRecord (some _) s = u
  exact ((fadeSound_quiet ..).after ((Quiet.with_snd _).after ((revealLevel_quiet ..).after
    ((revealTarget_quiet ..).after (setBlank_quiet ..))))).aloft

theorem setOutput_flies (r : Record) (d : Decision) (s : State) : Flies s (setOutput r d s) := by
  have hset (x : Option Record) : Aloft s (setRecord x (follow d s)) :=
    (setRecord_aloft ..).after (follow_quiet d s).aloft
  have hready (ready : Bool) (x : Option Record) :
      Flies s (if ready then setHold false (setRecord x (follow d s)) else setRecord x (follow d s)) := by
    split
    · exact ((setHold_quiet ..).aloft.after (hset _)).flies
    · exact (hset _).flies
  unfold setOutput
  split
  · exact (((retime_quiet ..).after ((setHold_quiet ..).after (setBlank_quiet ..))).aloft.after
      (setRecord_aloft ..)).flies
  · exact hready _ _

theorem enterRetime_flies (r : Record) (s : State) : Flies s (enterRetime r s) := by
  unfold enterRetime
  dsimp only
  split
  · exact (fail_keeps ..).flies
  · split
    · exact setOutput_flies ..
    · exact ((placeSlot_quiet ..).after (latchWindow_quiet ..)).then
        ((setOutput_flies ..).then (enableWriter_quiet ..).keeps)

theorem endLock_flies (r : Record) (s : State) : Flies s (endLock r s) := by
  unfold endLock
  split
  · exact (supersede_keeps ..).flies
  · exact enterRetime_flies ..

theorem judgeLock_flies (r : Record) (n : Slot) (s : State) : Flies s (judgeLock r n s) := by
  unfold judgeLock
  split
  · dsimp only
    split
    · split
      · exact (setRecord_aloft ..).flies
      · exact (((enableWriter_quiet ..).after (latchWindow_quiet ..)).aloft.after (setRecord_aloft ..)).flies
    · exact endLock_flies ..
  · exact (fail_keeps ..).flies

theorem enterLock_flies (r : Record) (n : Slot) (s : State) : Flies s (enterLock r n s) := by
  unfold enterLock
  dsimp only
  split
  · exact (setRecord_aloft ..).then (judgeLock_flies ..)
  · exact (setRecord_aloft ..).flies

theorem endWake_flies (r : Record) (n : Slot) (s : State) : Flies s (endWake r n s) := by
  unfold endWake
  split
  · exact (supersede_keeps ..).flies
  · exact enterLock_flies ..

theorem enterWake_flies (r : Record) (n : Slot) (s : State) : Flies s (enterWake r n s) := by
  have hwake := wake_quiet n (setRecord (some { r with phase := .wake }) s)
  unfold enterWake
  dsimp only
  refine (setRecord_aloft (some { r with phase := .wake }) s).then ?_
  split
  case h_1 heq => exact (show Quiet _ _ from by simpa only [heq] using hwake).then (endWake_flies ..)
  case h_2 heq | h_3 heq => exact (show Quiet _ _ from by simpa only [heq] using hwake).then (fail_keeps ..).flies
  case h_4 heq => exact (show Quiet _ _ from by simpa only [heq] using hwake).flies

/-- The state in which PARK goes on: `from` parked unless it is `to`, and the writer disabled (R82). -/
def parkedSource (r : Record) (s : State) : State :=
  disableWriter (match r.source with
    | some n => if r.target = some n then s else park n s
    | none => s)

theorem parkedSource_quiet (r : Record) (s : State) : Quiet s (parkedSource r s) := by
  refine Quiet.trans ?_ (disableWriter_quiet _)
  split
  · split
    · exact .refl s
    · exact park_quiet ..
  · exact .refl s

theorem enterPark_eq (r : Record) (s : State) :
    enterPark r s =
      match r.target with
      | some n => enterWake { r with phase := .park } n (parkedSource r (setRecord (some { r with phase := .park }) s))
      | none => enterRetime { r with phase := .park } (parkedSource r (setRecord (some { r with phase := .park }) s)) :=
  rfl

theorem enterPark_flies (r : Record) (s : State) : Flies s (enterPark r s) := by
  rw [enterPark_eq]
  refine (setRecord_aloft (some { r with phase := .park }) s).then ((parkedSource_quiet r _).then ?_)
  split
  · exact enterWake_flies ..
  · exact enterRetime_flies ..

theorem endQuiesceCoins_quiet (r : Record) (s : State) : Quiet s (endQuiesceCoins r s) := by
  unfold endQuiesceCoins
  split
  · exact cutPulse_quiet ..
  · exact .refl s

theorem endQuiesce_flies (r : Record) (s : State) : Flies s (endQuiesce r s) := by
  have hwriter : Quiet s (if r.holdStyle then disableWriter s else s) := by
    split
    · exact disableWriter_quiet s
    · exact .refl s
  unfold endQuiesce
  revert hwriter
  generalize (if r.holdStyle then disableWriter s else s) = u
  intro hwriter
  refine ((endQuiesceCoins_quiet r u).after hwriter).then ?_
  dsimp only
  split
  · exact (supersede_keeps ..).flies
  · exact enterPark_flies ..

theorem advancePhase_keeps (s : State) : Keeps s (advancePhase s) := by
  unfold advancePhase
  split
  · exact .refl s
  · next r hr =>
    refine Flies.keeps ?_ (by simp [hr])
    split
    · split
      · exact endQuiesce_flies ..
      · exact .refl s
    · split
      · exact enterReveal_flies ..
      · exact .refl s
    · split
      · exact grant_flies ..
      · exact .refl s
    all_goals exact .refl s

theorem advancePhases_keeps (n : Nat) (s : State) : Keeps s (advancePhases n s) := by
  induction n generalizing s with
  | zero => exact .refl s
  | succ n ih => exact (advancePhase_keeps s).trans (ih _)

theorem conduct_keeps (s : State) : Keeps s (conduct s) :=
  (Quiet.with_reports s).keeps.trans ((advancePhases_keeps 16 _).trans (Quiet.with_reports _).keeps)

/-! ##### Reports -/

theorem onTargetState_keeps (r : Record) (n m : Slot) (new : SlotState) (s : State) :
    Keeps s (onTargetState r n m new s) := by
  unfold onTargetState
  split
  · split
    case h_1 | h_2 => exact fail_keeps ..
    all_goals exact .refl s
  · exact .refl s

theorem onWake_flies (r : Record) (n : Slot) (rep : Report) (s : State) : Flies s (onWake r n rep s) := by
  unfold onWake
  split
  · split
    · split
      · exact endWake_flies ..
      · exact (fail_keeps ..).flies
      · exact (fail_keeps ..).flies
      all_goals exact .refl s
    · exact .refl s
  · split
    · exact (fail_keeps ..).flies
    · exact .refl s
  all_goals exact .refl s

theorem onCheckField_flies (r : Record) (n : Slot) (sig : Word16) (s : State) : Flies s (onCheckField r n sig s) := by
  unfold onCheckField
  split
  · exact endLock_flies ..
  · exact .refl s

theorem onLockMonitor_flies (r : Record) (n : Slot) (st : MonState) (s : State) : Flies s (onLockMonitor r n st s) := by
  unfold onLockMonitor
  split
  · exact judgeLock_flies ..
  · exact .refl s
  · split
    · exact (disableWriter_quiet s).flies
    · exact .refl s
  · split
    · exact (fail_keeps ..).flies
    · exact .refl s

theorem onLock_flies (r : Record) (n : Slot) (rep : Report) (s : State) : Flies s (onLock r n rep s) := by
  unfold onLock
  split
  · exact (onTargetState_keeps ..).flies
  · exact .refl s
  · split
    · exact onLockMonitor_flies ..
    · exact .refl s
  · split
    · exact onCheckField_flies ..
    · exact .refl s

theorem onShownMonitor_flies (r : Record) (n : Slot) (st : MonState) (s : State) :
    Flies s (onShownMonitor r n st s) := by
  unfold onShownMonitor
  split
  · exact .refl s
  · exact ((setHold_quiet ..).aloft.after (setRecord_aloft ..)).flies
  · split
    · split
      · exact ((setHold_quiet ..).aloft.after (setRecord_aloft ..)).flies
      · exact (fail_keeps ..).flies
    · exact .refl s
  · exact (fail_keeps ..).flies

theorem onFirstReady_flies (r : Record) (s : State) : Flies s (onFirstReady r s) := by
  unfold onFirstReady
  split
  · exact ((setHold_quiet ..).aloft.after (setRecord_aloft ..)).flies
  · exact .refl s

theorem onShown_flies (r : Record) (n : Slot) (rep : Report) (s : State) : Flies s (onShown r n rep s) := by
  unfold onShown
  split
  · exact (onTargetState_keeps ..).flies
  · exact .refl s
  · split
    · exact onShownMonitor_flies ..
    · exact .refl s
  · split
    · exact onFirstReady_flies ..
    · exact .refl s

theorem onRecord_flies (r : Record) (rep : Report) (s : State) : Flies s (onRecord r rep s) := by
  unfold onRecord
  split
  · exact .refl s
  · split
    · exact onWake_flies ..
    · exact onLock_flies ..
    · exact onShown_flies ..
    · exact onShown_flies ..
    all_goals exact .refl s

theorem onLiveAgain_keeps (n : Slot) (s : State) : Keeps s (onLiveAgain n s) := by
  unfold onLiveAgain
  refine (enableWriter_quiet n s).keeps.trans ?_
  dsimp only
  split
  · exact (endWatch_quiet _).keeps
  · exact startWatch_keeps ..

theorem onPauseEnd_keeps (n : Slot) (s : State) : Keeps s (onPauseEnd n s) := by
  unfold onPauseEnd
  refine (enableWriter_quiet n s).keeps.trans ?_
  dsimp only
  split
  · exact (endWatch_quiet _).keeps
  · exact startWatch_keeps ..

theorem onCurrentState_keeps (n : Slot) (old new : SlotState) (cause : SlotCause) (s : State) :
    Keeps s (onCurrentState n old new cause s) := by
  unfold onCurrentState
  split
  · exact loseBoard_keeps ..
  · exact loseBoard_keeps ..
  · split
    · exact ((setWatch_quiet ..).after ((disableWriter_quiet _).after (setHold_quiet ..))).keeps
    · exact .refl s
  · exact ((setWatch_quiet ..).after ((disableWriter_quiet _).after (setHold_quiet ..))).keeps
  · exact onPauseEnd_keeps ..
  · split
    · exact onLiveAgain_keeps ..
    · exact .refl s
  · exact .refl s

theorem onCurrentMonitor_keeps (n : Slot) (st : MonState) (s : State) : Keeps s (onCurrentMonitor n st s) := by
  unfold onCurrentMonitor
  split
  · exact .refl s
  · split
    · exact (startWatch_keeps ..).after (setHold_quiet ..).keeps
    · exact (startWatch_keeps ..).after (setHold_quiet ..).keeps
    · split
      · exact (endWatch_quiet s).keeps
      · exact loseBoard_keeps ..
    · exact .refl s

theorem onCurrent_keeps (n : Slot) (rep : Report) (s : State) : Keeps s (onCurrent n rep s) := by
  unfold onCurrent
  split
  · split
    · exact onCurrentState_keeps ..
    · exact .refl s
  · split
    · exact loseBoard_keeps ..
    · exact .refl s
  · split
    · exact onCurrentMonitor_keeps ..
    · exact .refl s
  · exact .refl s

theorem onReport_keeps (s : State) (rep : Report) : Keeps s (onReport s rep) := by
  refine Keeps.trans ?_ (Quiet.with_reports _).keeps
  split
  · next r hr => exact (onRecord_flies r rep s).keeps (by simp [hr])
  · split
    · exact onCurrent_keeps ..
    · exact .refl s

theorem foldl_onReport_keeps (l : List Report) (s : State) : Keeps s (l.foldl onReport s) := by
  induction l generalizing s with
  | nil => exact .refl s
  | cons rep l ih => exact (onReport_keeps s rep).trans (ih _)

theorem settle_keeps (s : State) : Keeps s (settle s) :=
  (Quiet.with_reports s).keeps.trans ((foldl_onReport_keeps ..).trans (conduct_keeps _))

/-! ##### Timers and requests -/

theorem lockLimitExpires_keeps (s : State) : Keeps s (lockLimitExpires s) := by
  unfold lockLimitExpires
  split
  · exact .refl s
  · split
    · exact (conduct_keeps _).after ((fail_keeps ..).after (reach_quiet ..).keeps)
    · exact .refl s

theorem watchExpires_keeps (s : State) : Keeps s (watchExpires s) := by
  unfold watchExpires
  split
  · exact (conduct_keeps _).after ((loseBoard_keeps ..).after (reach_quiet ..).keeps)
  all_goals exact .refl s

theorem selectPending_flies (t : Option Slot) (tag : Byte) (r : Record) (s : State) :
    Flies s (selectPending t tag r s) := ((setPending_quiet ..).aloft.after (setRecord_aloft ..)).flies

theorem dropPending_flies (r : Record) (s : State) : Flies s (dropPending r s) := by
  unfold dropPending
  split
  · exact ((setPending_quiet ..).aloft.after (setRecord_aloft ..)).flies
  · exact .refl s

end Sys2Proof.Machine

/-! ##### The link, and the end of a transaction on the slot bus -/

namespace Sys2Proof.Machine

theorem Quiet.with_link {x : Link} {s : State} (hkeys : x.notices.Sublist s.link.notices)
    (hbuf : s.link.buffer.length ≤ 4 → x.buffer.length ≤ 4) : Quiet s { s with link := x } := by
  refine .of_link (.with_link (.refl _ s) (by decide)) fun ⟨hk, hb⟩ => ⟨?_, hbuf hb⟩
  exact hk.sublist (hkeys.map _)

/-- The link changed beside its table and its buffer. -/
theorem Quiet.with_linkFields {x : Link} {s : State} (hn : x.notices = s.link.notices)
    (hb : x.buffer = s.link.buffer) : Quiet s { s with link := x } :=
  .with_link (by rw [hn]) (by rw [hb]; exact id)

theorem serveOldest_length {kind tag : Byte} {payload : List Byte} {l b : List Place}
    (h : serveOldest kind tag payload l = some b) : b.length = l.length := by
  induction l generalizing b with
  | nil => simp [serveOldest] at h
  | cons p l ih =>
    unfold serveOldest at h
    split at h
    · split at h
      · obtain rfl := Option.some.inj h
        rfl
      · simp at h
    · obtain ⟨c, hc, rfl⟩ := Option.map_eq_some_iff.1 h
      simp [ih hc]

theorem takeTurn_length {kind tag : Byte} {payload : List Byte} {l : Link} {b : List Place}
    (h : takeTurn kind tag payload l = some b) (hl : l.buffer.length ≤ 4) : b.length ≤ 4 := by
  unfold takeTurn at h
  split at h
  · simp at h
  · split at h
    · rwa [serveOldest_length h]
    · split at h
      · next hlt =>
        obtain rfl := Option.some.inj h
        simpa using hlt
      · simp at h

theorem markAnswered_length (l : List Place) : (markAnswered l).length = l.length := by
  induction l with
  | nil => rfl
  | cons p l ih =>
    unfold markAnswered
    split <;> simp [ih]

theorem freePlace_length (l : List Place) : (freePlace l).length ≤ l.length := by
  induction l with
  | nil => exact le_rfl
  | cons p l ih =>
    unfold freePlace
    split
    · simp
    · simpa using ih

theorem giveReply_quiet (a : Answer) (s : State) : Quiet s (giveReply a s) := by
  unfold giveReply
  split
  · exact .refl s
  · exact .with_link (.refl _) (by simp [markAnswered_length])

theorem linkError_quiet (c : LinkCause) (s : State) : Quiet s (linkError c s) :=
  (post_quiet ..).after (increment_quiet ..)

theorem offer_quiet (kind tag : Byte) (payload : List Byte) (s : State) : Quiet s (offer kind tag payload s) := by
  unfold offer
  split
  · next h => exact .with_link (.refl _) fun _ => by simpa using h
  · exact linkError_quiet ..

theorem setRx_quiet (rx : RxState) (s : State) : Quiet s (setRx rx s) := .with_linkFields rfl rfl

theorem receiveChar_quiet (c : LineChar) (s : State) : Quiet s (receiveChar c s) := by
  unfold receiveChar
  dsimp only
  refine (setRx_quiet (receive s.link.rx c).1 s).trans ?_
  split
  · exact .refl _
  · exact linkError_quiet ..
  · exact offer_quiet ..

theorem choose_quiet (s : State) : Quiet s (choose s) := by
  unfold choose
  split
  · exact .refl s
  · split
    · exact .with_linkFields rfl rfl
    · split
      · exact .refl s
      · next e rest hnotices =>
        dsimp only
        have htaken : Quiet s { s with link := { s.link with notices := rest, sending := some (.notice e.bytes) } } :=
          .with_link (by rw [hnotices]; exact List.sublist_cons_self ..) id
        split
        · exact htaken.trans (.with_router (fun _ => id) fun _ => id)
        · exact htaken

theorem conclude_quiet (s : State) : Quiet s (conclude s) := (choose_quiet _).after (.with_reports s)

/-- A request keeps what its owning block keeps. -/
theorem serve_steps {check : State → List Byte → Option Result} {block : State → List Byte → State × Option Answer}
    {tag : Byte} {p : List Byte} {s : State} (hblock : Steps s (block s p).1) :
    Steps s (serve tag p check block s) := by
  unfold serve
  split
  · exact (giveReply_quiet ..).steps
  · split
    · exact (giveReply_quiet ..).steps
    · generalize block s p = x at hblock
      obtain ⟨t, a | a⟩ := x
      · exact hblock
      · exact (giveReply_quiet ..).steps.after hblock

theorem dispatch_steps {check : State → List Byte → Option Result} {block : State → List Byte → State × Option Answer}
    {kind tag : Byte} {p : List Byte} {s : State} (hblock : ∀ u, Steps u (block u p).1) :
    Steps s (dispatch kind tag p check block s) := by
  unfold dispatch
  split
  · next b hb =>
    refine (serve_steps (hblock _)).after ?_
    have hturn : Quiet s { s with link := { s.link with buffer := b } } :=
      .with_link (.refl _) fun h => takeTurn_length hb h
    exact hturn.steps
  · exact (offer_quiet ..).steps

/-! ##### Polls -/

theorem setView_quiet (n : Slot) (v : View) (s : State) : Quiet s (setView n v s) := .with_bus rfl

theorem setMisses_quiet (n : Slot) (k : Nat) (s : State) : Quiet s (setMisses n k s) := .with_bus rfl

theorem pollMissed_quiet (n : Slot) (s : State) : Quiet s (pollMissed n s) := by
  unfold pollMissed
  dsimp only
  split
  · exact (verdictAbsent_quiet ..).after ((setView_quiet ..).after (setMisses_quiet ..))
  · exact setMisses_quiet ..

theorem pollKind_quiet (n : Slot) (v : Word16) (s : State) : Quiet s (pollKind n v s) := by
  unfold pollKind
  split
  · exact .refl s
  · dsimp only
    split
    · exact setMisses_quiet ..
    · exact (beginTransaction_quiet ..).after (setMisses_quiet ..)

theorem leftSupplied_state (n : Slot) (new : SlotState) (cause : SlotCause) (s : State) :
    ((leftSupplied n new cause s).slot n).state = new := by
  rw [leftSupplied, enterWith_slot]
  rfl

theorem removeBoard_state (n : Slot) (cause : SlotCause) (s : State) :
    ((removeBoard n cause s).slot n).state = .empty := by
  unfold removeBoard
  split
  · rw [leaveSupplied_eq]
    exact ((supplyOff_quiet ..).after ((returnQueue_quiet ..).after (cutPulse_quiet ..))).empty n (leftSupplied_state ..)
  · refine (returnQueue_quiet ..).empty n ?_
    rw [enterWith_slot]
    rfl

/-- A kind change puts the new board into a slot that the controller has seen empty (R23). -/
theorem giveVerdict_steps (n : Slot) (kind revision : Nat) (s : State) : Steps s (giveVerdict n kind revision s) := by
  unfold giveVerdict
  dsimp only
  split
  · next h => exact (verdictPresent_steps (s := setView n .answering s) h kind revision).after (setView_quiet ..).steps
  · next hne =>
    split
    · have hset : Quiet s ((setView n .answering s).setSlot n { s.slot n with autoPending := false }) :=
        Quiet.after (setSlot_quiet rfl rfl id rfl rfl rfl) (setView_quiet n .answering s)
      have hstill : (((setView n .answering s).setSlot n { s.slot n with autoPending := false }).slot n).state ≠ .empty := by
        rw [State.slot_setSlot_self]
        exact hne
      have hgone := (settle_keeps _).after ((removeBoard_quiet hstill .removed).after hset).keeps
      exact (boardFound_steps ((settle_keeps _).empty n (removeBoard_state ..)) ..).after hgone.toSteps
    · split
      · exact ((autoPowerVerdict_quiet ..).after (setView_quiet ..)).steps
      · exact (setView_quiet ..).steps

theorem pollEnds_steps (t : Transaction) (res : TxResult) (s : State) : Steps s (pollEnds t res s) := by
  obtain ⟨n, op, owner, began, discard⟩ := t
  cases owner with
  | poll =>
    match res with
    | .answered (some v) => exact (pollKind_quiet ..).steps
    | .noAnswer => exact (pollMissed_quiet ..).steps
    | .answered none | .badAnswer => exact .refl s
  | pollRevision kind =>
    match res with
    | .answered (some v) => exact (beginTransaction_quiet ..).steps
    | .answered none | .badAnswer | .noAnswer => exact .refl s
  | pollStatus kind revision =>
    match res with
    | .answered (some v) => exact (takeStatus_quiet n v _).steps.after (giveVerdict_steps n kind revision s)
    | .answered none | .badAnswer | .noAnswer => exact .refl s
  | sequence | link => exact .refl s

/-! ##### DIP applies and pass-through runs -/

/-- The oldest run leaves the queue, of which it was its slot's only one. -/
theorem endApply_steps {r : ApplyRun} {rest : List ApplyRun} {s : State} (hseq : s.bus.sequence = r :: rest)
    (matched : Bool) : Steps s (endApply r matched s) := by
  have hshift : Shifts s { s with bus := { s.bus with sequence := s.bus.sequence.tail } } := .with_bus s
  have hslot (m : Slot) : (State.slot { s with bus := { s.bus with sequence := s.bus.sequence.tail } } m) = s.slot m := rfl
  have hruns : runSlots { s with bus := { s.bus with sequence := s.bus.sequence.tail } } = rest.map ApplyRun.slot := by
    simp [runSlots, hseq]
  have hold : runSlots s = r.slot :: rest.map ApplyRun.slot := by simp [runSlots, hseq]
  have hpower (h : PowerSound s) : PowerSound { s with bus := { s.bus with sequence := s.bus.sequence.tail } } ∧
      r.slot ∉ runSlots { s with bus := { s.bus with sequence := s.bus.sequence.tail } } ∧
      (s.slot r.slot).state = .held := by
    have hnodup := h.nodup
    rw [hold, List.nodup_cons] at hnodup
    refine ⟨(powerSound_iff _).2 ⟨fun m => ?_, by rw [hruns]; exact hnodup.2⟩, by rw [hruns]; exact hnodup.1, ?_⟩
    · obtain ⟨hmis, hpg, hboot, hrun⟩ := h.fits m
      refine ⟨hmis, hpg, hboot, fun hm => hrun ?_⟩
      rw [hruns] at hm
      rw [hold]
      exact List.mem_cons_of_mem _ hm
    · exact ((h.fits r.slot).2.2.2 (by rw [hold]; exact List.mem_cons_self)).1
  unfold endApply
  dsimp only
  split
  · refine Shifts.steps ((release_shifts ..).after hshift) fun h => ?_
    obtain ⟨hp, hrun, hheld⟩ := hpower h
    exact release_power hp hheld hrun
  · refine Shifts.steps ((applyFailed_shifts ..).after hshift) fun h => ?_
    obtain ⟨hp, hrun, -⟩ := hpower h
    exact applyFailed_power hp hrun

theorem sequenceEnds_steps (t : Transaction) (res : TxResult) (s : State) : Steps s (sequenceEnds t res s) := by
  unfold sequenceEnds
  split
  · exact .refl s
  · next hseq =>
    split
    · split
      · split
        · exact endApply_steps hseq _
        · exact .refl s
      · exact endApply_steps hseq _
    all_goals exact endApply_steps hseq _

theorem endLinkRun_quiet (a : Answer) (s : State) : Quiet s (endLinkRun a s) :=
  (giveReply_quiet ..).after (.with_bus rfl)

theorem linkEnds_quiet (res : TxResult) (s : State) : Quiet s (linkEnds res s) := by
  unfold linkEnds
  split
  · exact .refl s
  · split
    · dsimp only
      split
      · exact endLinkRun_quiet ..
      · exact .with_bus rfl
    all_goals exact endLinkRun_quiet ..

theorem statusRead_quiet (t : Transaction) (res : TxResult) (s : State) : Quiet s (statusRead t res s) := by
  unfold statusRead
  split
  · split
    · exact takeStatus_quiet ..
    · exact .refl s
  · exact .refl s

theorem deliverResult_steps (t : Transaction) (res : TxResult) (s : State) : Steps s (deliverResult t res s) := by
  unfold deliverResult
  split
  · exact .refl s
  · split
    · exact sequenceEnds_steps ..
    · exact ((linkEnds_quiet ..).after (statusRead_quiet ..)).steps
    all_goals exact pollEnds_steps ..

theorem setAdapter_quiet (n : Slot) (a : Adapter) (s : State) : Quiet s (s.setAdapter n a) :=
  .of_free (State.setAdapter_same ..) (by decide)

theorem endTransaction_steps (t : Transaction) (moment : Nat) (a : Adapter) (res : TxResult) (s : State) :
    Steps s (endTransaction t moment a res s) := by
  have hmoment : Quiet s ((s.reach moment).setAdapter t.slot a) := (setAdapter_quiet ..).after (reach_quiet ..)
  unfold endTransaction
  generalize (s.reach moment).setAdapter t.slot a = u at hmoment
  have hidle : Quiet u { u with bus := { u.bus with current := none } } := .with_bus rfl
  exact (settle_keeps _).toSteps.after ((arbitrate_quiet _).steps.after
    ((deliverResult_steps ..).after (hidle.after hmoment).steps))

theorem answerArrives_steps (x : BusAnswer) (s : State) : Steps s (answerArrives x s) := by
  unfold answerArrives
  split
  · exact .refl s
  · dsimp only
    split <;> exact endTransaction_steps ..

theorem answerExpires_steps (received : Bool) (s : State) : Steps s (answerExpires received s) := by
  unfold answerExpires
  split
  · exact .refl s
  · exact endTransaction_steps ..

end Sys2Proof.Machine

/-! ##### The store, the first load, RESTART, and power-up reset -/

namespace Sys2Proof.Machine

theorem SameMoney.quiet {x : Coins} {s : State} (h : SameMoney s { s with coins := x }) :
    Quiet s { s with coins := x } :=
  .of_coins ((SameOutside.refl _ s).with_coins (by decide)) id h.sound

theorem Quiet.with_free {x : Nat} (s : State) : Quiet s { s with free := x } :=
  .of_free ((SameOutside.refl [.free] s).with_free (by decide)) (by decide)

theorem saveEnds_quiet (failed : List SectionId) (s : State) : Quiet s (saveEnds failed s) := by
  unfold saveEnds
  split
  · exact .refl s
  · exact (post_quiet ..).after (Quiet.trans (t := { s with free := s.free + 41 }) (.with_free s) (.with_profiles _))

theorem abandonSave_quiet (s : State) : Quiet s (abandonSave s) := .of_free (abandonSave_same s) (by decide)

/-! ##### Loads -/

theorem loadSections_quiet (answers : Bool) (failed : List SectionId) (s : State) :
    Quiet s (loadSections answers failed s) := (post_quiet ..).after (.with_profiles s)

theorem chordRenamed_quiet (s : State) : Quiet s (chordRenamed s) := .with_router (fun _ => id) fun _ => id

theorem chordAfter_quiet (before : Cabinet) (s : State) : Quiet s (chordAfter before s) := by
  unfold chordAfter
  split
  · exact .refl s
  · exact chordRenamed_quiet s

theorem rereadLevels_quiet (n : Slot) (s : State) : Quiet s (rereadLevels n s) := by
  unfold rereadLevels
  split
  · exact setSlot_quiet rfl rfl id rfl rfl rfl
  · exact .refl s

theorem autoPowerLoaded_quiet (n : Slot) (s : State) : Quiet s (autoPowerLoaded n s) := by
  unfold autoPowerLoaded
  split
  · exact autoPower_quiet ..
  · exact .refl s

theorem firstLoad_quiet (s : State) : Quiet s (firstLoad s) := by
  have hbegun : Quiet s { s with
      profiles := { s.profiles with loaded := true }, coins := { s.coins with startup := false } } :=
    Quiet.trans (t := { s with profiles := { s.profiles with loaded := true } }) (.with_profiles s)
      (SameMoney.quiet ⟨rfl, rfl, rfl, rfl, rfl, fun _ => rfl⟩)
  unfold firstLoad
  dsimp only
  exact (Quiet.forAll autoPowerLoaded_quiet ..).after ((startupDecision_quiet _).after
    ((Quiet.forAll rereadLevels_quiet ..).after ((judgeAllReasons_quiet _).after hbegun)))

theorem loadEnds_keeps (answers : Bool) (failed : List SectionId) (s : State) : Keeps s (loadEnds answers failed s) := by
  unfold loadEnds
  split
  · dsimp only
    have hloaded := (chordAfter_quiet s.cabinet _).after ((Quiet.forAll recomputeMismatch_quiet allSlots _).after
      (loadSections_quiet answers failed s))
    generalize chordAfter s.cabinet (forAll allSlots recomputeMismatch (loadSections answers failed s)) = u at hloaded ⊢
    refine (settle_keeps _).after (hloaded.trans ?_).keeps
    split
    · exact judgeSettings_quiet u
    · exact firstLoad_quiet u
  · exact .refl s

/-! ##### RESTART -/

theorem restartMoney_quiet (n : Slot) (s : State) : Quiet s (restartMoney n s) :=
  (returnQueue_quiet ..).after (cutPulse_quiet ..)

theorem restartChutes_quiet (s : State) : Quiet s (restartChutes s) :=
  (judgeAllReasons_quiet _).after (SameMoney.quiet ⟨rfl, rfl, rfl, rfl, rfl, fun _ => rfl⟩)

theorem restartCoins_quiet (s : State) : Quiet s (restartCoins s) := by
  have hmoney := (restartChutes_quiet s).trans (Quiet.forAll restartMoney_quiet allSlots _)
  unfold restartCoins
  dsimp only
  generalize forAll allSlots restartMoney (restartChutes s) = u at hmoney ⊢
  exact hmoney.trans <| SameMoney.quiet ⟨rfl, rfl, rfl, rfl, rfl, fun _ => rfl⟩

theorem restartLink_quiet (s : State) : Quiet s (restartLink s) :=
  (post_quiet ..).after (.with_link (List.nil_sublist _) fun _ => by simp [Link.initial])

theorem restartRouter_basic (s : State) : Basic s (restartRouter s) := by
  unfold restartRouter
  dsimp only
  split
  · exact (Basic.with_router s).trans (postInput_quiet _).toBasic
  · exact .with_router s

theorem restartRouter_unowned (s : State) : Unowned (restartRouter s) := by
  unfold restartRouter
  dsimp only
  split
  · exact (postInput_quiet _).unowned ⟨by simp, rfl⟩
  · exact ⟨by simp, rfl⟩

/-- RESTART takes the controls from every slot. -/
theorem restartRouter_aloft (s : State) : Aloft s (restartRouter s) := by
  have hsame := restartRouter_same s
  refine ⟨restartRouter_basic s, fun h => ?_, fun n h => ?_, fun _ => restartRouter_unowned s⟩
  · exact .congr (hsame.same .slots (by decide)) (congrArg Bus.sequence (hsame.same .bus (by decide))) h
  · rwa [State.slot_congr (hsame.same .slots (by decide))]

theorem restartBus_aloft (s : State) : Aloft s (restartBus s) := by
  have hshift : Shifts s (restartBus s) := .with_bus s
  refine ⟨hshift.toBasic, fun h => ?_, fun _ => id, hshift.unowned⟩
  refine (powerSound_iff _).2 ⟨fun n => ?_, List.nodup_nil⟩
  obtain ⟨hmis, hpg, hboot, -⟩ := h.fits n
  exact ⟨hmis, hpg, hboot, fun hm => absurd hm List.not_mem_nil⟩

theorem runSlots_leaveSupplied (n : Slot) (new : SlotState) (cause : SlotCause) {s : State} (h : runSlots s = []) :
    runSlots (leaveSupplied n new cause s) = [] := by
  have hbus {l : List Block} {t u : State} (hs : SameOutside l t u) (hl : Block.bus ∉ l) : runSlots u = runSlots t := by
    rw [runSlots, runSlots, show u.bus = t.bus from hs.same .bus hl]
  rw [leaveSupplied_eq, hbus (supplyOff_same ..) (by decide), hbus (returnQueue_same ..) (by decide),
    hbus (cutPulse_same ..) (by decide), leftSupplied, runSlots_enter, runSlots_setSlot]
  exact List.sublist_nil.1 (h ▸ runSlots_withdrawApply_sublist n s)

/-- One slot at RESTART, when the bus has dropped its runs. -/
theorem restartSupplied_quiet {n : Slot} {s : State} (hsup : (s.slot n).state.supplied = true) (hrun : runSlots s = []) :
    Quiet s (restartSupplied n s) ∧ runSlots (restartSupplied n s) = [] := by
  obtain ⟨hempty, hoff, -⟩ := (SlotState.supplied_iff _).1 hsup
  have hset : Quiet s (s.setSlot n { (s.slot n).powerless with autoPending := false, rereadLevels := true }) := by
    refine Shifts.quiet (setSlot_shifts rfl rfl) (fun h => ?_) (setSlot_others ..) hempty
    exact setSlot_power h (h.fits n).1 (fun hw => absurd rfl hw) (fun hw => absurd rfl hw) fun hm => by simp [hrun] at hm
  unfold restartSupplied
  dsimp only
  split
  · split
    · exact ⟨hset, hrun⟩
    · refine ⟨?_, (runSlots_enter ..).trans hrun⟩
      refine Shifts.quiet (enterWith_shifts _ _ rfl rfl) (fun h => ?_) (enterWith_others ..) hempty
      have hno := (h.fits n).mismatch_false hempty hoff
      refine enterWith_power _ _ h (fun hm => ?_) (fun hw => absurd rfl hw) (fun hw => absurd rfl hw)
        fun hm => by simp [hrun] at hm
      change (s.slot n).mismatch = true at hm
      simp [hno] at hm
  · generalize hu : s.setSlot n { (s.slot n).powerless with autoPending := false, rereadLevels := true } = u at hset ⊢
    have husup : (u.slot n).state.supplied = true := by
      rw [← hu, State.slot_setSlot_self]
      exact hsup
    have hurun : runSlots u = [] := by rw [← hu]; exact hrun
    have hleft := (leaveSupplied_quiet (new := .fault) husup .partRestart).after hset
    have hnone := runSlots_leaveSupplied n .fault .partRestart hurun
    generalize leaveSupplied n .fault .partRestart u = v at hleft hnone ⊢
    exact ⟨hleft.trans (setSlot_quiet rfl rfl id rfl rfl rfl), hnone⟩

theorem restartSlot_quiet (n : Slot) {s : State} (hrun : runSlots s = []) :
    Quiet s (restartSlot n s) ∧ runSlots (restartSlot n s) = [] := by
  unfold restartSlot
  split
  case h_1 h | h_2 h | h_3 h | h_4 h | h_5 h => exact restartSupplied_quiet (by rw [h]; rfl) hrun
  all_goals exact ⟨setSlot_quiet rfl rfl id rfl rfl rfl, hrun⟩

theorem restartSlots_quiet (l : List Slot) {s : State} (hrun : runSlots s = []) : Quiet s (forAll l restartSlot s) := by
  induction l generalizing s with
  | nil => exact .refl s
  | cons n l ih =>
    obtain ⟨hquiet, hruns⟩ := restartSlot_quiet n hrun
    exact hquiet.trans (ih hruns)

theorem restartPart_steps (s : State) : Steps s (restartPart s) := by
  have hlink : Quiet s (restartLink (abandonSave s)) := (restartLink_quiet _).after (abandonSave_quiet s)
  have hbus : Aloft s (restartBus (restartController (restartLink (abandonSave s)))) :=
    (restartBus_aloft _).after ((Aloft.with_co _).after hlink.aloft)
  have hruns : runSlots (restartBus (restartController (restartLink (abandonSave s)))) = [] := rfl
  unfold restartPart
  dsimp only
  generalize restartBus (restartController (restartLink (abandonSave s))) = u at hbus hruns ⊢
  have hcoins : Quiet (restartRouter u) (restartMonitors (restartCoins (restartRouter u))) :=
    (restartMonitors_quiet _).after (restartCoins_quiet _)
  have hkept : (restartMonitors (restartCoins (restartRouter u))).bus = u.bus :=
    ((restartMonitors_same _).same .bus (by decide)).trans
      (((restartCoins_same _).same .bus (by decide)).trans ((restartRouter_same u).same .bus (by decide)))
  have hrest : Quiet (restartRouter u)
      (restartProfiles (restartPicture (forAll allSlots restartSlot (restartMonitors (restartCoins (restartRouter u)))))) := by
    refine (Quiet.with_profiles _).after ((restartPicture_quiet _).after ((restartSlots_quiet _ ?_).after hcoins))
    rw [runSlots, hkept]
    exact hruns
  have hall := hrest.aloft.after ((restartRouter_aloft u).after hbus)
  exact ⟨hall.toBasic, hall.power, fun _ => (hrest.unowned (restartRouter_unowned u)).ownerSound⟩

theorem frameEnds_steps (s : State) : Steps s (frameEnds s) := by
  unfold frameEnds
  split
  · exact .refl s
  · exact Quiet.steps (.with_linkFields rfl rfl)
  · split
    · exact restartPart_steps s
    · exact Quiet.steps (.with_link (.refl _) fun h => (freePlace_length _).trans h)

end Sys2Proof.Machine

/-! ##### Power-up reset and the loss of power (R185, R187) -/

namespace Sys2Proof.Machine

/-- The state with the part's power told otherwise: no property of this part speaks of it. -/
def State.repowered (on : Bool) (s : State) : State := { s with powered := on }

theorem Steps.repowered {s t : State} (on : Bool) (h : Steps s t) : Steps (s.repowered on) (t.repowered on) :=
  ⟨⟨h.pending, rfl, h.now, h.link, h.money, h.lines, h.buffers, h.monitors⟩, h.power, h.owner⟩

theorem retained_sameMoney {s t : State} (h : t.coins = s.coins.retained) : SameMoney s t := by
  constructor <;> simp [h, Coins.retained, State.meter]

/-- With the money of a cabinet that has lost its retained memory everything adds up: there is none. -/
theorem lost_moneySound {t : State} (h : t.coins = Coins.lost) : MoneySound t := by
  have hq (n : Slot) : t.queue n = [] := by simp [State.queue, h, Coins.lost]
  have hunits : queuedUnits t = 0 := by simp [queuedUnits, hq, allSlots]
  refine ⟨?_, ?_, fun n => by simp [hq], fun m => ?_⟩
  · rw [Conserved, hunits, h]
    decide
  · simp [h, Coins.lost]
  · simp [State.meter, h, Coins.lost]

theorem powerUpBlocks_slot (kept : Bool) (s : State) (n : Slot) :
    (powerUpBlocks kept s).slot n = .initial (s.slot n).powerGood := by
  simp [powerUpBlocks, State.slot]

theorem powerUpBlocks_steps (kept : Bool) (s : State) : Steps s ((powerUpBlocks kept s).repowered s.powered) := by
  refine ⟨⟨rfl, rfl, le_rfl, fun _ => ⟨List.nodup_nil, Nat.zero_le _⟩, fun h => ?_, fun _ n => ?_, fun _ b c => ?_,
    fun _ src => ?_⟩, fun _ => ?_, fun _ => Unowned.ownerSound ⟨fun n => ?_, rfl⟩⟩
  · cases kept with
    | true => exact (retained_sameMoney rfl).sound h
    | false => exact lost_moneySound rfl
  · change ((powerUpBlocks kept s).slot n).lines = ((powerUpBlocks kept s).slot n).state.lines
    rw [powerUpBlocks_slot]
    rfl
  · simp [State.buffer, State.repowered, powerUpBlocks, FrameStore.initial, Buffer.free]
  · have hmonitor : State.monitor ((powerUpBlocks kept s).repowered s.powered) src = .initial (decide (src = 8)) := by
      change Monitor.initialAll.at src = _
      rw [Monitor.initialAll, Tab.at_put]
      split <;> simp_all
    rw [hmonitor]
    exact Monitor.initial_sound _
  · refine (powerSound_iff _).2 ⟨fun n => ?_, List.nodup_nil⟩
    have hslot : State.slot ((powerUpBlocks kept s).repowered s.powered) n = .initial (s.slot n).powerGood :=
      powerUpBlocks_slot kept s n
    rw [SlotFits, hslot]
    exact ⟨fun hm => by simp [SlotRecord.initial] at hm, fun hw => absurd rfl hw, fun hw => absurd rfl hw,
      fun hm => absurd hm List.not_mem_nil⟩
  · simp [State.repowered, powerUpBlocks, Router.initial]

theorem setStartReasons_quiet (s : State) : Quiet s (setStartReasons s) :=
  SameMoney.quiet ⟨rfl, rfl, rfl, rfl, rfl, fun _ => rfl⟩

theorem startUp_steps (kept : Bool) (s : State) : Steps s ((startUp kept s).repowered s.powered) := by
  refine (powerUpBlocks_steps kept s).trans ?_
  refine Steps.repowered s.powered (Quiet.steps ?_)
  exact (Quiet.forAll judgeMeter_quiet ..).after ((Quiet.forAll returnQueue_quiet ..).after
    ((post_quiet ..).after (setStartReasons_quiet _)))

theorem powerUp_steps (retainedGood : Bool) (s : State) : Steps s ((powerUp retainedGood s).repowered s.powered) := by
  have hsaved := abandonSave_quiet s
  unfold powerUp
  generalize abandonSave s = u at hsaved
  rw [← hsaved.powered]
  exact (startUp_steps _ u).after hsaved.steps

theorem losePower_steps (s : State) : Steps s ((losePower s).repowered s.powered) := by
  have hsaved := abandonSave_quiet s
  unfold losePower
  generalize abandonSave s = u at hsaved
  rw [← hsaved.powered]
  exact (powerUpBlocks_steps _ u).after hsaved.steps

end Sys2Proof.Machine

/-! ##### Inputs, timers and requests -/

namespace Sys2Proof.Machine

theorem judgeChord_quiet (i : Input) (active : Bool) (s : State) : Quiet s (judgeChord i active s) := by
  unfold judgeChord
  split
  · exact .refl s
  · split
    · split
      · split
        · exact .with_router (fun _ => id) fun _ => id
        · exact .refl s
      · exact .with_router (fun _ => id) fun _ => id
    · exact .refl s

theorem updateOrder_quiet (i : Input) (active : Bool) (s : State) : Quiet s (updateOrder i active s) := by
  unfold updateOrder
  split
  · exact .with_router (fun _ => id) fun _ => id
  · exact .refl s

theorem leaveMask_quiet (i : Input) (active : Bool) (s : State) : Quiet s (leaveMask i active s) := by
  unfold leaveMask
  split
  · exact .with_router (fun _ => id) fun _ => id
  · exact .refl s

theorem countStart_quiet (i : Input) (active : Bool) (s : State) : Quiet s (countStart i active s) := by
  unfold countStart
  split
  · split
    · exact increment_quiet ..
    · exact .refl s
  all_goals exact .refl s

theorem menuButton_quiet (i : Input) (active : Bool) (s : State) : Quiet s (menuButton i active s) := by
  unfold menuButton
  split
  · exact post_quiet ..
  · exact .refl s

theorem coinChange_quiet (i : Input) (active : Bool) (s : State) : Quiet s (coinChange i active s) := by
  unfold coinChange
  split
  · exact chuteInput_quiet ..
  · exact .refl s

theorem reportInput_quiet (i : Input) (s : State) : Quiet s (reportInput i s) := by
  unfold reportInput
  split
  · exact (postInput_quiet _).after (.with_router (fun _ => id) fun _ => id)
  · exact .refl s

theorem changeInput_quiet (i : Input) (active : Bool) (s : State) : Quiet s (changeInput i active s) := by
  have hset : Quiet s { s with router := { s.router with debounced := s.router.debounced.put i active } } :=
    .with_router (fun _ => id) fun _ => id
  exact (reportInput_quiet ..).after ((coinChange_quiet ..).after ((menuButton_quiet ..).after
    ((judgeChord_quiet ..).after ((countStart_quiet ..).after ((leaveMask_quiet ..).after
      ((updateOrder_quiet ..).after hset))))))

theorem rawChange_quiet (i : Input) (closed : Bool) (s : State) : Quiet s (rawChange i closed s) := by
  unfold rawChange
  split
  · exact .refl s
  · exact .with_router (fun _ => id) fun _ => id

theorem rawPin_quiet (i : Input) (closed : Bool) (s : State) : Quiet s (rawPin i closed s) :=
  .with_router (fun _ => id) fun _ => id

theorem debounceExpires_quiet (i : Input) (s : State) : Quiet s (debounceExpires i s) := by
  unfold debounceExpires
  split
  · exact .refl s
  · next t _ =>
    dsimp only
    have hreach := reach_quiet t.expiry s
    generalize s.reach t.expiry = u at hreach ⊢
    exact (changeInput_quiet ..).after (hreach.trans (.with_router (fun _ => id) fun _ => id))

theorem chordTimerEnds_quiet (s : State) : Quiet s (chordTimerEnds s) := by
  unfold chordTimerEnds
  split
  · exact .refl s
  · next t _ =>
    have hreach := reach_quiet t s
    generalize s.reach t = u at hreach ⊢
    exact (post_quiet ..).after (hreach.trans (.with_router (fun _ => id) fun _ => id))

theorem playExpires_quiet (s : State) : Quiet s (playExpires s) := by
  unfold playExpires
  split
  · exact (increment_quiet ..).after (.with_router (fun _ => id) fun _ => id)
  all_goals exact .with_router (fun _ => id) fun _ => id

theorem playTimerEnds_quiet (s : State) : Quiet s (playTimerEnds s) := by
  unfold playTimerEnds
  split
  · exact .refl s
  · exact (playExpires_quiet _).after (reach_quiet ..)

/-! ##### The coin unit's timers -/

theorem jamExpires_quiet (c : Chute) (s : State) : Quiet s (jamExpires c s) := by
  unfold jamExpires
  split
  · exact .refl s
  · exact (jamExpiry_quiet ..).after (reach_quiet ..)

theorem pulseOnExpires_quiet (n : Slot) (s : State) : Quiet s (pulseOnExpires n s) := by
  unfold pulseOnExpires
  split
  · exact (setGenerator_quiet ..).after (reach_quiet ..)
  all_goals exact .refl s

theorem pulseGapExpires_quiet (n : Slot) (s : State) : Quiet s (pulseGapExpires n s) := by
  unfold pulseGapExpires
  split
  · exact (judgePulse_quiet ..).after ((setGenerator_quiet ..).after (reach_quiet ..))
  all_goals exact .refl s

theorem meterOnExpires_quiet (m : Meter) (s : State) : Quiet s (meterOnExpires m s) := by
  unfold meterOnExpires
  split
  · exact (setDriver_quiet ..).after (reach_quiet ..)
  all_goals exact .refl s

theorem meterOffExpires_quiet (m : Meter) (s : State) : Quiet s (meterOffExpires m s) := by
  unfold meterOffExpires
  split
  · exact (judgeMeter_quiet ..).after ((setDriver_quiet ..).after (reach_quiet ..))
  all_goals exact .refl s

/-! ##### Picture, sound and monitors -/

theorem verticalSyncAt_keeps (src : Source) (s : State) : Keeps s (verticalSyncAt src s) := by
  unfold verticalSyncAt
  split
  · dsimp only
    have hclosed := (settle_keeps _).after (syncCloses_quiet src s).keeps
    split
    · exact hclosed.trans (syncOpens_quiet ..).keeps
    · exact hclosed
  · exact .refl s

theorem settleExpires_keeps (s : State) : Keeps s (settleExpires s) := by
  unfold settleExpires
  split
  · exact .refl s
  · exact (settle_keeps _).after ((settleDone_quiet _).after (reach_quiet ..)).keeps

theorem stillExpires_quiet (s : State) : Quiet s (stillExpires s) := by
  unfold stillExpires
  split
  · exact .refl s
  · exact (stillExpiry_quiet _).after (reach_quiet ..)

/-! ##### The blocks' answers to requests -/

theorem noticeMaskBlock_quiet (s : State) (p : List Byte) : Quiet s (noticeMaskBlock s p).1 := by
  have hset : Quiet s (setMask (readMask p) s) := .with_link List.filter_sublist id
  unfold noticeMaskBlock
  dsimp only
  split
  · exact hset.trans (.with_linkFields rfl rfl)
  · exact hset

theorem restartBlock_quiet (s : State) (p : List Byte) : Quiet s (restartBlock s p).1 := .with_linkFields rfl rfl

theorem powerOnBlock_keeps (n : Slot) (s : State) : Keeps s (powerOnBlock n s).1 := by
  unfold powerOnBlock
  split
  case h_3 hoff =>
    split
    · exact .refl s
    · next hmis => exact (settle_keeps _).after (enterPowering_quiet hoff (by simpa using hmis) _).keeps
  all_goals exact .refl s

theorem powerOffBlock_keeps (n : Slot) (s : State) : Keeps s (powerOffBlock n s).1 := by
  unfold powerOffBlock
  split
  case h_1 | h_2 => exact .refl s
  all_goals
    next h =>
    split
    · exact .refl s
    · exact (settle_keeps _).after (powerOff_quiet (by simp [h])).keeps

theorem slotPowerBlock_keeps (s : State) (p : List Byte) : Keeps s (slotPowerBlock s p).1 := by
  unfold slotPowerBlock
  split
  · exact powerOnBlock_keeps ..
  · exact powerOffBlock_keeps ..

theorem slotRestartBlock_keeps (s : State) (p : List Byte) : Keeps s (slotRestartBlock s p).1 := by
  unfold slotRestartBlock
  dsimp only
  split
  case h_1 | h_2 | h_3 | h_4 => exact .refl s
  all_goals
    next h =>
    split
    · exact .refl s
    · exact (settle_keeps _).after (restartBoard_quiet (by rw [h]; rfl)).keeps

theorem adapterReadBlock_quiet (s : State) (p : List Byte) : Quiet s (adapterReadBlock s p).1 := by
  unfold adapterReadBlock
  dsimp only
  split
  · exact .refl s
  · exact startLinkRun_quiet ..

theorem adapterWriteBlock_quiet (s : State) (p : List Byte) : Quiet s (adapterWriteBlock s p).1 := by
  unfold adapterWriteBlock
  dsimp only
  split
  · exact .refl s
  · exact startLinkRun_quiet ..

theorem selectTarget_keeps (t : Option Slot) (tag : Byte) (s : State) : Keeps s (selectTarget t tag s).1 := by
  unfold selectTarget
  split
  · split
    · exact .refl s
    · exact (conduct_keeps _).after (startChangeover_keeps ..)
  · next r hr =>
    split
    · exact (dropPending_flies r s).keeps (by simp [hr])
    · exact (selectPending_flies t tag r s).keeps (by simp [hr])

theorem selectBlock_keeps (tag : Byte) (s : State) (p : List Byte) : Keeps s (selectBlock tag s p).1 := by
  unfold selectBlock
  dsimp only
  split
  · exact .refl s
  · split
    · exact .refl s
    · exact selectTarget_keeps ..

theorem abortBlock_keeps (tag : Byte) (s : State) (p : List Byte) : Keeps s (abortBlock tag s p).1 := by
  unfold abortBlock
  split
  · exact .refl s
  · split
    case h_1 | h_2 | h_3 | h_4 => exact (conduct_keeps _).after (abortChangeover_keeps ..)
    all_goals exact .refl s

theorem overlayBlock_quiet (s : State) (p : List Byte) : Quiet s (overlayBlock s p).1 :=
  (judgeDuck_quiet _).after (.with_pic s)

theorem takeControls_quiet (s : State) : Quiet s (takeControls s) :=
  (giveLink_quiet _).after (.with_router (fun _ => id) fun n h => by simp at h)

theorem controlsTakeBlock_keeps (s : State) (p : List Byte) : Keeps s (controlsTakeBlock s p).1 := by
  unfold controlsTakeBlock
  split
  · unfold takeFrozen
    split
    case h_3 =>
      split
      · exact .refl s
      · split
        · exact (settle_keeps _).after ((pauseFreeze_quiet ..).after (takeControls_quiet s)).keeps
        · exact .refl s
    all_goals exact .refl s
  · split
    · exact .refl s
    · exact (takeControls_quiet s).keeps

theorem clearHold_quiet (s : State) : Quiet s (clearHold s) := .with_router (fun _ => id) fun _ => id

/-- A claim of the current slot, with no changeover in flight (R147). -/
theorem setClaim_steps {n : Slot} {s : State} (hcur : s.co.current = some n) (hr : s.co.record = none) :
    Steps s (setClaim n s) := by
  refine ⟨.with_router s, id, fun h => ⟨h.1, fun m hm => ?_⟩⟩
  obtain rfl : n = m := by simpa [setClaim] using hm
  exact ⟨hcur, hr⟩

theorem giveSlot_steps {n : Slot} {s : State} (hcur : s.co.current = some n) (hr : s.co.record = none)
    (hlive : (s.slot n).state = .live) : Steps s (giveSlot n s) := by
  have hsame := giveSlot_same n s
  refine ⟨giveSlot_basic n s, fun h => ?_, fun _ => giveSlot_ownerSound hcur hr hlive⟩
  exact .congr (hsame.same .slots (by decide)) (congrArg Bus.sequence (hsame.same .bus (by decide))) h

theorem giveToSlot_steps {n : Slot} {s : State} (hcur : s.co.current = some n) (hr : s.co.record = none) :
    Steps s (giveToSlot n s).1 := by
  unfold giveToSlot
  split
  · exact .refl s
  · split
    · next hlive => exact (giveSlot_steps (s := clearHold s) hcur hr hlive).after (clearHold_quiet s).steps
    · split
      · exact (settle_keeps _).toSteps.after ((pauseRelease_quiet ..).steps.after
          ((setClaim_steps (s := clearHold s) hcur hr).after (clearHold_quiet s).steps))
      · have hco : (giveNone (clearHold s)).co = s.co := (giveNone_same _).same .co (by decide)
        exact (setClaim_steps (by rw [hco, hcur]) (by rw [hco, hr])).after
          ((giveNone_quiet _).after (clearHold_quiet s)).steps

theorem controlsGiveBlock_steps (s : State) (p : List Byte) : Steps s (controlsGiveBlock s p).1 := by
  unfold controlsGiveBlock
  split
  · split
    · exact .refl s
    · exact ((giveNone_quiet _).after (clearHold_quiet s)).steps
  · next hidle =>
    split
    · exact .refl s
    · next hcur => exact giveToSlot_steps hcur (by simpa [State.inFlight] using hidle)

theorem coinDeliverBlock_quiet (s : State) (p : List Byte) : Quiet s (coinDeliverBlock s p).1 := by
  unfold coinDeliverBlock
  dsimp only
  split
  · split
    · exact .refl s
    · next hbank =>
      split
      · exact .refl s
      · next hroom => exact deliver_quiet (by omega) (by omega)
  · exact .refl s

theorem coinDrainBlock_quiet (s : State) (p : List Byte) : Quiet s (coinDrainBlock s p).1 := by
  unfold coinDrainBlock
  split
  · exact .refl s
  · next hbank => exact drain_quiet (by omega)

theorem coinLockBlock_quiet (s : State) (p : List Byte) : Quiet s (coinLockBlock s p).1 :=
  (judgeLink_quiet ..).after (setChute_quiet ..)

theorem coinTotalsClearBlock_quiet (s : State) (p : List Byte) : Quiet s (coinTotalsClearBlock s p).1 := by
  unfold coinTotalsClearBlock
  split
  · next h => exact (postBank_quiet ..).after (totalsClear_quiet h)
  · exact .refl s

theorem countersReadBlock_quiet (s : State) (p : List Byte) : Quiet s (countersReadBlock s p).1 := .with_counters s

theorem countersModeBlock_quiet (s : State) (p : List Byte) : Quiet s (countersModeBlock s p).1 := .with_counters s

theorem profileGetBlock_quiet (s : State) (p : List Byte) : Quiet s (profileGetBlock s p).1 := by
  unfold profileGetBlock
  split <;> exact .refl s

theorem profilePutBlock_quiet (s : State) (p : List Byte) : Quiet s (profilePutBlock s p).1 := by
  unfold profilePutBlock
  split
  · exact .refl s
  · dsimp only
    split
    · exact .with_profiles s
    · exact (recomputeMismatch_quiet ..).after (.with_profiles s)

theorem cabinetGetBlock_quiet (s : State) (p : List Byte) : Quiet s (cabinetGetBlock s p).1 := by
  unfold cabinetGetBlock
  split <;> exact .refl s

theorem cabinetPutBlock_quiet (s : State) (p : List Byte) : Quiet s (cabinetPutBlock s p).1 := by
  unfold cabinetPutBlock
  split
  · exact .refl s
  · exact (judgeSettings_quiet _).after ((chordAfter_quiet ..).after (.with_profiles s))

theorem storeSaveBlock_quiet (answers : Bool) (s : State) (p : List Byte) : Quiet s (storeSaveBlock answers s p).1 := by
  unfold storeSaveBlock
  split
  · exact .refl s
  · split
    · exact .with_profiles s
    · exact .refl s

theorem storeLoadBlock_quiet (answers : Bool) (s : State) (p : List Byte) : Quiet s (storeLoadBlock answers s p).1 := by
  unfold storeLoadBlock
  split
  · exact .refl s
  · split
    · exact .with_profiles s
    · exact .refl s

end Sys2Proof.Machine

/-! ##### Every command, and the obligations that speak of every step -/

namespace Sys2Proof.Machine

/-- What a command leads to when the part keeps its power: nothing is lost that a step keeps, and no report is left. -/
structure Leads (s : State) (o : Host.Outcome State Fault Refusal) : Prop where
  steps : ∀ t, o = .next t → Steps s t
  reports : ∀ t, o = .next t → s.reports = [] → t.reports = []

theorem Leads.next {s t : State} (h : Steps s t) (hr : s.reports = [] → t.reports = []) : Leads s (.next t) :=
  ⟨fun u hu => by obtain rfl := Host.Outcome.next.inj hu; exact h,
    fun u hu => by obtain rfl := Host.Outcome.next.inj hu; exact hr⟩

theorem conclude_reports (s : State) : (conclude s).reports = [] := (choose_same _).same .reports (by decide)

theorem Leads.conclude {s t : State} (h : Steps s t) : Leads s (.next (conclude t)) :=
  .next ((conclude_quiet t).steps.after h) fun _ => conclude_reports t

/-- An event of a part with power; one without keeps all it has. -/
theorem event_leads {f : State → State} {s : State} (h : Steps s (f s)) : Leads s (event s f) := by
  unfold event whenPowered
  split
  · exact .conclude h
  · exact .next (.refl s) id

theorem request_leads {kind tag : Byte} {p : List Byte} {check : State → List Byte → Option Result}
    {block : State → List Byte → State × Option Answer} (dt : Nat) {s : State}
    (hblock : ∀ u, Steps u (block u p).1) : Leads s (request dt kind tag p check block s) :=
  event_leads ((dispatch_steps hblock).after (tick_quiet dt s).steps)

/-- A pin of the part changes with power or without (log 9). -/
theorem pin_leads {c : Prop} [Decidable c] {s t u : State} (h : Steps s t) (h' : Steps s u) (hr : u.reports = s.reports) :
    Leads s (if c then .next (conclude t) else .next u) := by
  split
  · exact .conclude h
  · exact .next h' fun hs => hr.trans hs

theorem dispatchUnknown_steps (kind tag : Byte) (p : List Byte) (s : State) :
    Steps s (dispatchUnknown kind tag p s) := by
  unfold dispatchUnknown
  split
  · next b hb =>
    have hturn : Quiet s { s with link := { s.link with buffer := b } } :=
      .with_link (.refl _) fun h => takeTurn_length hb h
    exact ((giveReply_quiet ..).after hturn).steps
  · exact (offer_quiet ..).steps

theorem gapExpires_quiet (s : State) : Quiet s (gapExpires s) := by
  unfold gapExpires
  split
  · exact .refl s
  · exact (linkError_quiet ..).after ((setRx_quiet ..).after (reach_quiet ..))

theorem execUnknownKind_leads (dt : Nat) (kind tag : Byte) (p : List Byte) (s : State) :
    Leads s (execUnknownKind dt kind tag p s) := by
  unfold execUnknownKind
  split
  · exact event_leads ((dispatchUnknown_steps ..).after (tick_quiet dt s).steps)
  · exact .next (.refl s) id

theorem execRestartEffect_leads (dt : Nat) (s : State) : Leads s (execRestartEffect dt s) := by
  refine event_leads ?_
  split
  · exact (restartPart_steps _).after (tick_quiet dt s).steps
  · exact (tick_quiet dt s).steps

/-- Every command but the two that change whether the part has power. -/
theorem exec_leads (c : Instr) (s : State) (hup : ∀ dt k, c ≠ .powerUpReset dt k) (hloss : ∀ dt, c ≠ .powerLoss dt) :
    Leads s (exec c s) := by
  have htick (dt : Nat) : Steps s (s.tick dt) := (tick_quiet dt s).steps
  cases c with
  | powerUpReset dt k => exact absurd rfl (hup dt k)
  | powerLoss dt => exact absurd rfl (hloss dt)
  | characterReceived dt c =>
    exact event_leads (f := fun s => receiveChar c (s.tick dt))
      ((receiveChar_quiet ..).steps.after (htick dt))
  | gapTimeout => exact event_leads (gapExpires_quiet s).steps
  | frameSent dt =>
    exact event_leads (f := fun s => frameEnds (s.tick dt))
      ((frameEnds_steps _).after (htick dt))
  | unknownKind dt kind tag payload => exact execUnknownKind_leads ..
  | ident dt tag payload => exact request_leads dt fun u => .refl u
  | state dt tag payload => exact request_leads dt fun u => .refl u
  | slotInfo dt tag payload => exact request_leads dt fun u => .refl u
  | slotPowerOn dt tag payload => exact request_leads dt fun u => (slotPowerBlock_keeps u _).toSteps
  | slotPowerOff dt tag payload => exact request_leads dt fun u => (slotPowerBlock_keeps u _).toSteps
  | slotRestart dt tag payload => exact request_leads dt fun u => (slotRestartBlock_keeps u _).toSteps
  | select dt tag payload => exact request_leads dt fun u => (selectBlock_keeps tag u _).toSteps
  | abort dt tag payload => exact request_leads dt fun u => (abortBlock_keeps tag u _).toSteps
  | timing dt tag payload => exact request_leads dt fun u => .refl u
  | profileGet dt tag payload => exact request_leads dt fun u => (profileGetBlock_quiet u _).steps
  | profilePut dt tag payload => exact request_leads dt fun u => (profilePutBlock_quiet u _).steps
  | cabinetGet dt tag payload => exact request_leads dt fun u => (cabinetGetBlock_quiet u _).steps
  | cabinetPut dt tag payload => exact request_leads dt fun u => (cabinetPutBlock_quiet u _).steps
  | storeSave dt tag payload answers => exact request_leads dt fun u => (storeSaveBlock_quiet answers u _).steps
  | storeLoad dt tag payload answers => exact request_leads dt fun u => (storeLoadBlock_quiet answers u _).steps
  | controlsTake dt tag payload => exact request_leads dt fun u => (controlsTakeBlock_keeps u _).toSteps
  | controlsGive dt tag payload => exact request_leads dt fun u => controlsGiveBlock_steps u _
  | coinState dt tag payload => exact request_leads dt fun u => .refl u
  | coinDeliver dt tag payload => exact request_leads dt fun u => (coinDeliverBlock_quiet u _).steps
  | coinDrain dt tag payload => exact request_leads dt fun u => (coinDrainBlock_quiet u _).steps
  | coinLock dt tag payload => exact request_leads dt fun u => (coinLockBlock_quiet u _).steps
  | coinTotalsClear dt tag payload => exact request_leads dt fun u => (coinTotalsClearBlock_quiet u _).steps
  | countersRead dt tag payload => exact request_leads dt fun u => (countersReadBlock_quiet u _).steps
  | countersMode dt tag payload => exact request_leads dt fun u => (countersModeBlock_quiet u _).steps
  | adapterRead dt tag payload => exact request_leads dt fun u => (adapterReadBlock_quiet u _).steps
  | adapterWrite dt tag payload => exact request_leads dt fun u => (adapterWriteBlock_quiet u _).steps
  | noticeMask dt tag payload => exact request_leads dt fun u => (noticeMaskBlock_quiet u _).steps
  | restart dt tag payload => exact request_leads dt fun u => (restartBlock_quiet u _).steps
  | overlay dt tag payload => exact request_leads dt fun u => (overlayBlock_quiet u _).steps
  | restartEffect dt => exact execRestartEffect_leads dt s
  | powerGoodRise dt n =>
    exact pin_leads ((settle_keeps _).toSteps.after ((powerGoodRises_quiet ..).steps.after (htick dt)))
      (setPowerGood_quiet ..).steps rfl
  | powerGoodFall dt n =>
    exact pin_leads ((settle_keeps _).toSteps.after ((powerGoodFalls_quiet ..).steps.after (htick dt)))
      (setPowerGood_quiet ..).steps rfl
  | powerGoodWindowExpiry n =>
    exact event_leads (f := fun s => settle (powerGoodExpires n s))
      ((settle_keeps _).toSteps.after (powerGoodExpires_steps n s))
  | bootWindowExpiry n =>
    exact event_leads (f := fun s => settle (bootExpires n s))
      ((settle_keeps _).toSteps.after (bootExpires_steps n s))
  | transactionAnswered a => exact event_leads (answerArrives_steps a s)
  | answerWindowExpiry received => exact event_leads (answerExpires_steps received s)
  | pollTimerExpiry => exact event_leads (pollExpires_quiet s).steps
  | verticalSync dt src =>
    exact event_leads (f := fun s => verticalSyncAt src (s.tick dt))
      ((verticalSyncAt_keeps src _).toSteps.after (htick dt))
  | lineSync dt src video =>
    exact event_leads (f := fun s => lineSyncAt src video (s.tick dt))
      ((lineSyncAt_quiet src video _).steps.after (htick dt))
  | fieldTimeout src => exact event_leads (fieldExpires_quiet src s).steps
  | syncTimerExpiry src =>
    exact event_leads (f := fun s => settle (syncTimerExpires src s))
      ((settle_keeps _).toSteps.after (syncTimerExpires_quiet src s).steps)
  | lockLimitExpiry => exact event_leads (lockLimitExpires_keeps s).toSteps
  | recoveryWatchExpiry => exact event_leads (watchExpires_keeps s).toSteps
  | outputFieldStart =>
    exact event_leads ((settle_keeps _).toSteps.after ((fieldStart_quiet _).after (reach_quiet ..)).steps)
  | settleExpiry => exact event_leads (settleExpires_keeps s).toSteps
  | audioFadeStep =>
    exact event_leads (f := fun s => settle (stepSoundFade s))
      ((settle_keeps _).toSteps.after (stepSoundFade_quiet s).steps)
  | stillTimerExpiry => exact event_leads (stillExpires_quiet s).steps
  | rawInputChange dt input closed =>
    exact pin_leads ((rawChange_quiet ..).steps.after (htick dt)) (rawPin_quiet ..).steps rfl
  | debounceExpiry input => exact event_leads (debounceExpires_quiet input s).steps
  | chordTimerExpiry => exact event_leads (chordTimerEnds_quiet s).steps
  | playTimerExpiry => exact event_leads (playTimerEnds_quiet s).steps
  | jamTimerExpiry c => exact event_leads (jamExpires_quiet c s).steps
  | pulseOnExpiry n => exact event_leads (pulseOnExpires_quiet n s).steps
  | pulseGapExpiry n => exact event_leads (pulseGapExpires_quiet n s).steps
  | meterOnExpiry m => exact event_leads (meterOnExpires_quiet m s).steps
  | meterOffExpiry m => exact event_leads (meterOffExpires_quiet m s).steps
  | storeSaveEnd dt failed =>
    exact event_leads (f := fun s => saveEnds failed (s.tick dt))
      ((saveEnds_quiet ..).steps.after (htick dt))
  | profileLoadEnd dt answers failed =>
    exact event_leads (f := fun s => loadEnds answers failed (s.tick dt))
      ((loadEnds_keeps ..).toSteps.after (htick dt))
  | adapterPluggedIn dt n own =>
    exact pin_leads ((setAdapter_quiet ..).steps.after (htick dt)) (setAdapter_quiet ..).steps rfl

/-- Every command, whatever it does to the part's power. -/
theorem exec_steps {c : Instr} {s t : State} (h : exec c s = .next t) :
    Steps s (t.repowered s.powered) ∧ (s.reports = [] → t.reports = []) ∧
      ((∀ dt k, c ≠ .powerUpReset dt k) → (∀ dt, c ≠ .powerLoss dt) → t.powered = s.powered) := by
  by_cases hup : ∃ dt k, c = .powerUpReset dt k
  · obtain ⟨dt, k, rfl⟩ := hup
    obtain rfl := Host.Outcome.next.inj h
    refine ⟨?_, fun _ => conclude_reports _, fun hne => absurd rfl (hne dt k)⟩
    exact ((conclude_quiet _).steps.repowered _).after ((powerUp_steps k (s.tick dt)).after (tick_quiet dt s).steps)
  by_cases hloss : ∃ dt, c = .powerLoss dt
  · obtain ⟨dt, rfl⟩ := hloss
    change (if s.powered then Host.Outcome.next (losePower (s.tick dt)) else .next s) = .next t at h
    split at h <;> obtain rfl := Host.Outcome.next.inj h
    · exact ⟨(losePower_steps (s.tick dt)).after (tick_quiet dt s).steps, fun _ => rfl, fun _ hne => absurd rfl (hne dt)⟩
    · exact ⟨.refl s, id, fun _ _ => rfl⟩
  have hleads := exec_leads c s (fun dt k hc => hup ⟨dt, k, hc⟩) fun dt hc => hloss ⟨dt, hc⟩
  have hsteps := hleads.steps t h
  refine ⟨?_, hleads.reports t h, fun _ _ => hsteps.powered⟩
  rw [← hsteps.powered]
  exact hsteps

/-- What every step keeps: the queue waits on, and each property of this part stays. -/
theorem step_steps {s t : State} (h : step s = .next t) :
    (LinkSound s → LinkSound t) ∧ (MoneySound s → MoneySound t) ∧ (LinesMatch s → LinesMatch t) ∧
      (OneEach s → OneEach t) ∧ (MonitorsSound s → MonitorsSound t) ∧ (PowerSound s → PowerSound t) ∧
      (OwnerSound s → OwnerSound t) := by
  unfold step at h
  split at h
  · obtain rfl := Host.Outcome.next.inj h
    exact ⟨id, id, id, id, id, id, id⟩
  · obtain ⟨hsteps, -⟩ := exec_steps h
    exact ⟨hsteps.link, hsteps.money, hsteps.lines, hsteps.buffers, hsteps.monitors, hsteps.power, hsteps.owner⟩

/-- Settles O52: every command is made of operations that keep the queue, let time pass, and leave the power alone. -/
theorem commandsKeepQueueTimeAndPower : Obligations.CommandsKeepQueueTimeAndPower := by
  intro c s t h
  obtain ⟨hsteps, hreports, hpowered⟩ := exec_steps h
  exact ⟨hsteps.pending, hsteps.now, hpowered, hreports⟩

/-- Settles O55: the imbalance of the money is the same after every operation that moves a unit. -/
theorem everyStepConservesTheMoney : Obligations.EveryStepConservesTheMoney := by
  intro s t hc hb h
  obtain ⟨-, hmoney, -⟩ := step_steps h
  exact hmoney ⟨hc, hb⟩

/-- Settles O56: a slot's lines and record change together, in the slot manager's own operations. -/
theorem everyStepKeepsTheLinesAtTheirState : Obligations.EveryStepKeepsTheLinesAtTheirState := by
  refine ⟨fun s t hs h => ?_, fun s t hs h => ?_⟩ <;> obtain ⟨-, -, hlines, -, -, hpower, -⟩ := step_steps h
  · exact hlines hs
  · exact hpower hs

/-- The 30 keys a notice can have: one of each kind but SLOT, SIGNAL and CHUTE, and those of the 8 slots, the 9 sources
and the 4 chutes (R9). -/
def allKeys : List (Fin 11 × Nat) :=
  (List.finRange 11).map (·, 0) |>.filter (fun k => k.1 ≠ 1 ∧ k.1 ≠ 2)
    |>.append ((List.range 8).map fun i => (1, i + 1))
    |>.append ((List.range 9).map fun i => (2, i + 1))
    |>.append ((List.range 4).map fun i => (5, i + 1))

theorem key_mem_allKeys (n : Notice) : n.key ∈ allKeys := by
  cases n with
  | slot n st c k => revert n; simp only [Notice.key, Notice.kind, Notice.subject]; decide
  | signal src st c cls f => revert src; simp only [Notice.key, Notice.kind, Notice.subject]; decide
  | chute c st e r => revert c; simp only [Notice.key, Notice.kind, Notice.subject]; decide
  | _ => simp only [Notice.key, Notice.kind, Notice.subject]; decide

/-- Settles O57: what posts a notice coalesces by key, and what takes a place finds one free. -/
theorem everyStepKeepsTheLinkBounded : Obligations.EveryStepKeepsTheLinkBounded := by
  refine ⟨fun s t hk hb h => ?_, fun s hk => ?_⟩
  · obtain ⟨hlink, -⟩ := step_steps h
    exact hlink ⟨hk, hb⟩
  · have hsub : s.link.notices.map (fun e => e.notice.key) ⊆ allKeys := by
      intro k hmem
      obtain ⟨e, -, rfl⟩ := List.mem_map.1 hmem
      exact key_mem_allKeys e.notice
    simpa using (hk.subperm hsub).length_le.trans (by decide : allKeys.length ≤ 30)

/-- Settles O58: a buffer is taken for FILLING or SHOWING only with the earlier one gone. -/
theorem everyStepKeepsOneBufferEach : Obligations.EveryStepKeepsOneBufferEach := by
  intro s t hs h
  obtain ⟨-, -, -, hbuffers, -⟩ := step_steps h
  exact hbuffers hs

/-- Settles O59: a start of a changeover takes the controls away, and only GRANT, a claim met and CONTROLS_GIVE give them
to the slot that is current. -/
theorem everyStepKeepsTheControlsWithTheCurrentBoard : Obligations.EveryStepKeepsTheControlsWithTheCurrentBoard := by
  intro s t hs _ h
  obtain ⟨-, -, -, -, -, -, howner⟩ := step_steps h
  exact howner hs

/-- Settles O60: each accepted field leaves the monitor's figures within the bounds of R58. -/
theorem everyStepKeepsTheMonitorsSound : Obligations.EveryStepKeepsTheMonitorsSound := by
  intro s t hs h
  obtain ⟨-, -, -, -, hmonitors, -⟩ := step_steps h
  exact hmonitors hs

end Sys2Proof.Machine

/-! ### The queue, the receiver and the turn of a request (O1 to O4, O6, O7) -/

namespace Sys2Proof.Machine

/-- Settles O1: the two cases of the queue. -/
theorem stepRunsFrontCommand : Obligations.StepRunsFrontCommand :=
  ⟨fun c rest s h => by simp only [step, h], fun s h => by simp only [step, h]⟩

theorem exec_character (dt : Nat) (c : LineChar) {s : State} (h : s.powered = true) :
    exec (.characterReceived dt c) s = .next (conclude (receiveChar c (s.tick dt))) :=
  event_powered h fun s => receiveChar c (s.tick dt)

/-- The receiver in an assembly state other than HUNT waits 20 ms for the next character (R2). -/
theorem setRx_assembling {rx : RxState} (h : rx ≠ .hunt) (dt : Nat) (s : State) :
    setRx rx (s.tick dt) =
      { s with now := s.now + dt, link := { s.link with rx := rx, gap := some (s.now + dt + 540000) } } := by
  simp only [setRx, if_neg h]
  rfl

theorem setRx_hunt (dt : Nat) (s : State) :
    setRx .hunt (s.tick dt) = { s with now := s.now + dt, link := { s.link with rx := .hunt, gap := none } } := rfl

/-- Settles O2: `receive` gives each assembly state's next one; what it ends is a link error or an offer. -/
theorem receiverTakesCharacters : Obligations.ReceiverTakesCharacters := by
  intro dt s hp
  simp only [exec_character dt _ hp]
  have hgoes {c : LineChar} {rx : RxState} (hrx : rx ≠ .hunt) (h : receive s.link.rx c = (rx, .none)) :
      Host.Outcome.next (φ := Fault) (ρ := Refusal) (conclude (receiveChar c (s.tick dt))) = .next (conclude
        { s with now := s.now + dt, link := { s.link with rx := rx, gap := some (s.now + dt + 540000) } }) := by
    rw [receiveChar_goes (s := s.tick dt) h, setRx_assembling hrx]
  have hhunts {c : LineChar} (h : receive s.link.rx c = (.hunt, .none)) :
      Host.Outcome.next (φ := Fault) (ρ := Refusal) (conclude (receiveChar c (s.tick dt))) = .next (conclude
        { s with now := s.now + dt, link := { s.link with rx := .hunt, gap := none } }) := by
    rw [receiveChar_goes (s := s.tick dt) h, setRx_hunt]
  have herror {c : LineChar} {e : LinkCause} (h : receive s.link.rx c = (.hunt, .error e)) :
      Host.Outcome.next (φ := Fault) (ρ := Refusal) (conclude (receiveChar c (s.tick dt))) = .next (conclude
        (linkError e { s with now := s.now + dt, link := { s.link with rx := .hunt, gap := none } })) := by
    rw [receiveChar_error (s := s.tick dt) h, setRx_hunt]
  refine ⟨fun hrx => ⟨hgoes (by simp) (by simp [hrx, receive]), fun b hb => hhunts (by rw [hrx, receive, if_neg hb]),
    hhunts (by simp [hrx, receive])⟩, fun hrx => herror ?_, fun hrx b => ⟨fun hb => hgoes (by simp) ?_, fun hb => herror ?_⟩,
    fun len hrx b => hgoes (by simp) (by simp [hrx, receive]), fun len k hrx b => hgoes ?_ (by simp [hrx, receive]),
    fun len k t got hrx b => hgoes ?_ (by simp [hrx, receive]), fun k t p hrx b => ?_⟩
  · cases hs : s.link.rx with
    | hunt => exact absurd hs hrx
    | header len k => cases k <;> rfl
    | length | payload | check => rfl
  · simp [hrx, receive, Nat.not_lt.2 hb]
  · simp [hrx, receive, hb]
  · split <;> simp
  · split <;> simp
  · have hcheck := checkByte_iff k t b p
    refine ⟨fun hsum => herror ?_, fun hsum hk => herror ?_, fun hsum hk hroom => ?_, fun hsum hk hfull => ?_⟩
    · simp [hrx, receive, mt hcheck.1 hsum]
    · simp [hrx, receive, hcheck.2 hsum, hk]
    all_goals
      have hrequest : receive (s.tick dt).link.rx (.whole b) = (.hunt, .request k t p) := by
        simp [hrx, receive, hcheck.2 hsum, Nat.not_le.2 hk]
      rw [receiveChar_request hrequest, setRx_hunt, offer]
    · rw [if_pos hroom]
    · rw [if_neg (Nat.not_lt.2 hfull)]

/-! #### A whole frame -/

/-- What the receiver's place in a frame leaves as it was: all but time, the link's other parts, the latch and the
reports; the buffer stands. -/
structure Hearing (s t : State) (rx : RxState) : Prop where
  powered : t.powered = true
  rx : t.link.rx = rx
  buffer : t.link.buffer = s.link.buffer
  same : SameOutside [.now, .link, .router, .reports] s t

/-- The transmitter's choice at the end of a step leaves the receiver alone. -/
theorem conclude_receiver (s : State) :
    (conclude s).link.rx = s.link.rx ∧ (conclude s).link.gap = s.link.gap ∧
      (conclude s).link.buffer = s.link.buffer := by
  unfold conclude choose
  split
  · exact ⟨rfl, rfl, rfl⟩
  · split
    · exact ⟨rfl, rfl, rfl⟩
    · split
      · exact ⟨rfl, rfl, rfl⟩
      · dsimp only
        split <;> exact ⟨rfl, rfl, rfl⟩

theorem execAll_append (l l' : List Instr) {s t : State} (h : execAll l s = .next t) :
    execAll (l ++ l') s = execAll l' t := by
  induction l generalizing s with
  | nil =>
    obtain rfl := Host.Outcome.next.inj h
    rfl
  | cons c l ih =>
    rw [List.cons_append, execAll]
    rw [execAll] at h
    split at h
    · exact ih h
    · next hne => exact absurd h (hne t)

/-- A character that goes on with the frame. -/
theorem Hearing.character {s t : State} {rx rx' : RxState} {b : Byte} (h : Hearing s t rx) (dt : Nat)
    (hb : receive rx (.whole b) = (rx', .none)) :
    ∃ u, execAll [.characterReceived dt (.whole b)] t = .next u ∧ Hearing s u rx' := by
  obtain ⟨hpow, hrx, hbuf, hsame⟩ := h
  refine ⟨conclude (setRx rx' (t.tick dt)), ?_, ?_⟩
  · rw [execAll, exec_character dt _ hpow, receiveChar_goes (s := t.tick dt) (by rw [State.tick_link, hrx]; exact hb)]
    rfl
  · obtain ⟨hcrx, -, hcbuf⟩ := conclude_receiver (setRx rx' (t.tick dt))
    refine ⟨?_, hcrx, hcbuf.trans hbuf, ?_⟩
    · exact (conclude_quiet _).powered.trans hpow
    · have htick : SameOutside [.now, .link, .router, .reports] t (conclude (setRx rx' (t.tick dt))) :=
        (conclude_same _).after ((setRx_same ..).after ((State.tick_same ..).mono (by decide)) (by decide)) (by decide)
      exact hsame.trans htick

/-- The payload of a frame, character by character. -/
theorem Hearing.payload {s : State} {k tag : Byte} (dt : Nat) (rest : List Byte) {t : State} {got : List Byte}
    (hrest : rest ≠ []) (h : Hearing s t (.payload (got.length + rest.length) k tag got)) :
    ∃ u, execAll (rest.map fun b => .characterReceived dt (.whole b)) t = .next u ∧
      Hearing s u (.check k tag (got ++ rest)) := by
  induction rest generalizing t got with
  | nil => exact absurd rfl hrest
  | cons b rest ih =>
    cases rest with
    | nil => exact h.character dt (by simp [receive])
    | cons c rest =>
      obtain ⟨u, hu, hhear⟩ := h.character (b := b) dt
        (rx' := .payload ((got ++ [b]).length + (c :: rest).length) k tag (got ++ [b])) (by
          simp [receive]
          omega)
      obtain ⟨v, hv, hcheck⟩ := ih (by simp) hhear
      refine ⟨v, ?_, by simpa using hcheck⟩
      rw [List.map_cons, ← List.singleton_append, execAll_append _ _ hu]
      exact hv

/-- Settles O3, by induction on the payload: each character takes the receiver one place further in the frame, and the
check byte offers the request. -/
theorem receiverAssemblesEveryRequestFrame : Obligations.ReceiverAssemblesEveryRequestFrame := by
  intro dt kind tag check p s _ hpow hrx hroom hlen hkind hsum
  have hstart : Hearing s s .hunt := ⟨hpow, hrx, rfl, .refl _ s⟩
  obtain ⟨s₁, h₁, hh₁⟩ := hstart.character (b := 0xA5) (rx' := .length) dt rfl
  have hlenByte : (BitVec.ofNat 8 p.length).toNat = p.length := by
    rw [BitVec.toNat_ofNat, Nat.mod_eq_of_lt (by omega)]
  obtain ⟨s₂, h₂, hh₂⟩ := hh₁.character (b := BitVec.ofNat 8 p.length) (rx' := .header p.length none) dt (by
    simp only [receive, hlenByte, if_neg (Nat.not_lt.2 hlen)])
  obtain ⟨s₃, h₃, hh₃⟩ := hh₂.character (b := kind) (rx' := .header p.length (some kind)) dt rfl
  have hpayload : ∃ u, execAll ((tag :: p).map fun b => .characterReceived dt (.whole b)) s₃ = .next u ∧
      Hearing s u (.check kind tag p) := by
    by_cases hp : p = []
    · subst hp
      exact hh₃.character dt rfl
    · obtain ⟨u, hu, hhu⟩ := hh₃.character (b := tag) (rx' := .payload p.length kind tag []) dt (by simp [receive, hp])
      obtain ⟨v, hv, hhv⟩ := Hearing.payload dt p (got := []) hp (by simpa using hhu)
      refine ⟨v, ?_, by simpa using hhv⟩
      rw [List.map_cons, ← List.singleton_append, execAll_append _ _ hu]
      exact hv
  obtain ⟨s₄, h₄, hh₄⟩ := hpayload
  have hrequest : receive s₄.link.rx (.whole check) = (.hunt, .request kind tag p) := by
    rw [hh₄.rx]
    simp [receive, (checkByte_iff kind tag check p).2 hsum, Nat.not_le.2 hkind]
  have hoffer : offer kind tag p (setRx .hunt (s₄.tick dt)) =
      { setRx .hunt (s₄.tick dt) with
        link := { (setRx .hunt (s₄.tick dt)).link with buffer := s.link.buffer ++ [⟨kind, tag, p, .waiting⟩] } } := by
    have hbuf : (setRx .hunt (s₄.tick dt)).link.buffer = s.link.buffer := hh₄.buffer
    rw [offer, hbuf, if_pos hroom]
  refine ⟨conclude (offer kind tag p (setRx .hunt (s₄.tick dt))), ?_, ?_⟩
  · rw [show [0xA5, BitVec.ofNat 8 p.length, kind, tag] ++ p ++ [check] =
        [0xA5] ++ ([BitVec.ofNat 8 p.length] ++ ([kind] ++ ((tag :: p) ++ [check]))) by simp]
    simp only [List.map_append]
    refine (execAll_append _ _ h₁).trans ((execAll_append _ _ h₂).trans ((execAll_append _ _ h₃).trans
      ((execAll_append _ _ h₄).trans ?_)))
    simp only [List.map_cons, List.map_nil, execAll, exec_character dt _ hh₄.powered]
    rw [receiveChar_request (s := s₄.tick dt) hrequest]
  · rw [hoffer]
    obtain ⟨hcrx, hcgap, hcbuf⟩ := conclude_receiver { setRx .hunt (s₄.tick dt) with
      link := { (setRx .hunt (s₄.tick dt)).link with buffer := s.link.buffer ++ [⟨kind, tag, p, .waiting⟩] } }
    have hhunt : SameOutside [.now, .link, .router, .reports] s₄ (setRx .hunt (s₄.tick dt)) :=
      (setRx_same ..).after ((State.tick_same ..).mono (by decide)) (by decide)
    have hsame := hh₄.same.trans ((conclude_same _).after (hhunt.with_link (x :=
      { (setRx .hunt (s₄.tick dt)).link with buffer := s.link.buffer ++ [⟨kind, tag, p, .waiting⟩] }) (by decide))
      (by decide))
    exact ⟨hcrx, hcgap, hcbuf, hsame.same .counters (by decide), hsame.same .slots (by decide),
      hsame.same .co (by decide), hsame.same .coins (by decide), hsame.same .profiles (by decide)⟩

/-! #### Link errors -/

theorem tableWith_keeps {n : Notice} {l : List Entry} {e : Entry} (h : e ∈ l) (hk : e.notice.key ≠ n.key) :
    e ∈ tableWith n l := by
  induction l with
  | nil => exact absurd h List.not_mem_nil
  | cons x l ih =>
    unfold tableWith
    rcases List.mem_cons.1 h with rfl | h
    · simp [hk]
    · split
      · exact List.mem_cons_of_mem _ h
      · exact List.mem_cons_of_mem _ (ih h)

/-- An entry of another kind stands as it was after an event. -/
theorem post_keeps_other {n : Notice} {s : State} {e : Entry} (h : e ∈ s.link.notices)
    (hk : e.notice.kind ≠ n.kind) : e ∈ (post n s).link.notices := by
  unfold post
  split
  · exact tableWith_keeps h fun hkey => hk (congrArg Prod.fst hkey)
  · exact h

theorem increment_keeps_other {i : CounterId} {s : State} {e : Entry} (h : e ∈ s.link.notices)
    (hk : e.notice.kind ≠ 6) : e ∈ (increment i s).link.notices := by
  unfold increment
  split
  · exact h
  · dsimp only
    split
    · exact post_keeps_other h hk
    · exact h

/-- Settles O4: a link error is an increment and a LINK event, each of which touches entries of its own kind only. -/
theorem linkErrorsAndTheGapTimeout : Obligations.LinkErrorsAndTheGapTimeout := by
  refine ⟨fun c s => ⟨?_, fun hm => ?_, fun hm e he _ => ?_, ?_, fun e he h9 h6 => ?_, linkError_same c s⟩,
    fun s hp => ⟨fun t ht => ?_, fun ht => ?_⟩⟩
  · exact (post_same ..).same .counters (by decide)
  · exact exists_post (fun m => by cases m <;> rfl) (by rw [increment_mask]; exact hm)
  · rcases mem_post he with he | ⟨hmask, -⟩
    · exact mem_increment he (by simp [*])
    · rw [increment_mask] at hmask
      exact absurd (hm.symm.trans hmask) (by decide)
  · rw [linkError, post_link, increment_link]
  · exact post_keeps_other (increment_keeps_other he h6) h9
  · exact (event_powered hp _).trans (by simp only [gapExpires, ht]; rfl)
  · exact (event_powered hp _).trans (by simp only [gapExpires, ht])

/-! #### The turn of a request -/

/-- Every request of the catalogue is dispatched with a check of its own, which refuses a length that its fixed layout
does not allow (R7). -/
theorem exec_request {c : Instr} {dt : Nat} {kind tag : Byte} {p : List Byte} (h : requestOf c = some (dt, kind, tag, p)) :
    ∃ (check : State → List Byte → Option Result) (block : State → List Byte → State × Option Answer),
      (∀ s, exec c s = request dt kind tag p check block s) ∧
        ∀ len, requestLength kind = some len → p.length ≠ len → ∀ s, check s p = some .badLength := by
  have hfixed (n : Nat) (fields : List Byte → List FieldCheck) (len : Nat) (hn : some n = some len)
      (hl : p.length ≠ len) (s : State) : fixedLayout n fields s p = some .badLength := by
    obtain rfl := Option.some.inj hn
    simp [fixedLayout, hl]
  cases c <;> simp only [requestOf, Option.some.injEq, Prod.mk.injEq, reduceCtorEq] at h
  case profilePut | adapterWrite =>
    obtain ⟨rfl, rfl, rfl, rfl⟩ := h
    exact ⟨_, _, fun _ => rfl, fun len hl => by simp [requestLength] at hl⟩
  all_goals
    obtain ⟨rfl, rfl, rfl, rfl⟩ := h
    exact ⟨_, _, fun _ => rfl, fun len hl => hfixed _ _ len (by simpa [requestLength, cabinetLength] using hl)⟩

/-- Settles O6: with no turn the request is offered to the receive buffer. -/
theorem requestOutOfTurnIsBuffered : Obligations.RequestOutOfTurnIsBuffered := by
  intro c dt kind tag p s hc hp hturn
  obtain ⟨check, block, hexec, -⟩ := exec_request hc
  rw [hexec, request_waits hp hturn]
  refine ⟨fun hroom => ?_, fun hfull => ?_⟩
  · rw [offer, if_pos (show (s.tick dt).link.buffer.length < 4 from hroom)]
    rfl
  · rw [offer, if_neg (show ¬ (s.tick dt).link.buffer.length < 4 from Nat.not_lt.2 hfull)]
    rfl

/-- Settles O7: the checks of R7 in their order, before any block sees the request. -/
theorem requestsAreChecked : Obligations.RequestsAreChecked := by
  refine ⟨fun dt kind tag p s b hp hkind hlow hturn => ?_, fun c dt kind tag p s b hc hp hturn => ?_⟩
  · have hunknown : isUnknownKind kind = true := by
      rcases hkind with rfl | hkind
      · rfl
      · simp [isUnknownKind, hlow, hkind]
    change execUnknownKind dt kind tag p s = _
    rw [execUnknownKind, if_pos hunknown, event_powered hp]
    simp only [dispatchUnknown, State.tick_link, hturn]
    rw [giveReply_turn hturn rfl]
    rfl
  · obtain ⟨check, block, hexec, hlength⟩ := exec_request hc
    refine ⟨fun htag => ?_, fun len hlen htag hp' => ?_⟩
    · subst htag
      rw [hexec, request_tagZero hp hturn]
    · rw [hexec, request_refused ⟨hp, htag, hturn⟩ (hlength len hlen hp' _)]

end Sys2Proof.Machine

/-! ### The transmitter, frames and codes (O5) -/

namespace Sys2Proof.Machine

theorem conclude_sending {s : State} {f : Sending} (h : s.link.sending = some f) :
    conclude s = { s with reports := [] } := by
  simp only [conclude, choose, h]

theorem conclude_reply {s : State} {r : Reply} {rest : List Reply} (h : s.link.sending = none)
    (hr : s.link.replies = r :: rest) :
    conclude s = { s with
      reports := []
      link := { s.link with replies := rest, sending := some (.reply r.bytes (r.kind = 0x1B && r.result = .ok)) } } := by
  simp only [conclude, choose, h, hr]

theorem conclude_notice {s : State} {e : Entry} {rest : List Entry} (h : s.link.sending = none)
    (hr : s.link.replies = []) (hn : s.link.notices = e :: rest) :
    conclude s = { s with
      reports := []
      link := { s.link with notices := rest, sending := some (.notice e.bytes) }
      router := if e.notice.kind = 3 then { s.router with latch := Tab.all 60 false } else s.router } := by
  simp only [conclude, choose, h, hr, hn]
  split <;> rfl

theorem conclude_nothing {s : State} (h : s.link.sending = none) (hr : s.link.replies = [])
    (hn : s.link.notices = []) : conclude s = { s with reports := [] } := by
  simp only [conclude, choose, h, hr, hn]

theorem exec_frameSent (dt : Nat) {s : State} (h : s.powered = true) :
    exec (.frameSent dt) s = .next (conclude (frameEnds (s.tick dt))) :=
  event_powered h fun s => frameEnds (s.tick dt)

/-- The place of the oldest answered request is the one that is freed (R4). -/
theorem freePlace_append {before after : List Place} {q : Place} (hq : q.stage = .answered)
    (h : ∀ x ∈ before, x.stage ≠ .answered) : freePlace (before ++ q :: after) = before ++ after := by
  induction before with
  | nil => simp [freePlace, hq]
  | cons x before ih =>
    simp only [List.cons_append, freePlace, if_neg (h x List.mem_cons_self)]
    rw [ih fun y hy => h y (List.mem_cons_of_mem _ hy)]

/-! #### Codes by their place in a list -/

theorem SlotState.code_eq (st : SlotState) :
    st.code = BitVec.ofNat 8 ([SlotState.empty, .off, .powering, .held, .booting, .live, .frozen, .fault].idxOf st) := by
  cases st <;> rfl

theorem CoOutcome.code_eq (o : CoOutcome) :
    o.code = BitVec.ofNat 8 ([CoOutcome.done, .superseded, .aborted, .noBoard, .powerFault, .dipMismatch, .lockTimeout,
      .classMismatch, .lostSignal].idxOf o) := by
  cases o <;> rfl

theorem ResumeResult.code_eq (r : ResumeResult) :
    r.code = BitVec.ofNat 8 ([ResumeResult.notChecked, .clean, .changed].idxOf r) := by
  cases r <;> rfl

theorem reasonCode_eq (r : Option Reason) :
    reasonCode r = BitVec.ofNat 8 ([none, some Reason.lostSignal, some .powerFault].idxOf r) := by
  rcases r with _ | r
  · rfl
  · cases r <;> rfl

theorem SlotCause.code_eq (c : SlotCause) :
    c.code = BitVec.ofNat 8 ([SlotCause.present, .absent, .removed, .kindChanged, .powerOn, .autoPower, .wake,
      .powerGood, .noPowerGood, .powerGoodLost, .dipMismatch, .released, .booted, .powerOff, .restart, .parked, .pause,
      .pauseEnd, .partRestart].idxOf c) := by
  cases c <;> rfl

theorem MonState.code_eq (st : MonState) :
    st.code = BitVec.ofNat 8 ([MonState.dark, .seeking, .locked, .weak].idxOf st) := by
  cases st <;> rfl

theorem SignalCause.code_eq (c : SignalCause) :
    c.code = BitVec.ofNat 8 ([SignalCause.locked, .weak, .changed, .lost].idxOf c) := by
  cases c <;> rfl

theorem SigClass.code_eq (c : SigClass) :
    c.code = BitVec.ofNat 8 ([SigClass.none, .low, .medium, .high, .outOfClass].idxOf c) := by
  cases c <;> rfl

theorem ChuteEvent.code_eq (e : ChuteEvent) :
    e.code = BitVec.ofNat 8 ([ChuteEvent.accepted, .rejectedShort, .rejectedLong, .jammed, .cleared, .lockout].idxOf e) := by
  cases e <;> rfl

theorem BankEvent.code_eq (e : BankEvent) :
    e.code = BitVec.ofNat 8 ([BankEvent.limit, .overflow, .returned, .cleared].idxOf e) := by
  cases e <;> rfl

theorem OutClass.code_eq (c : OutClass) :
    c.code = BitVec.ofNat 8 ([OutClass.low, .medium, .high].idxOf c + 1) := by
  cases c <;> rfl

theorem LinkCause.code_eq (c : LinkCause) :
    c.code = BitVec.ofNat 8 ([LinkCause.character, .length, .gap, .check, .kind, .overrun].idxOf c) := by
  cases c <;> rfl

theorem slotCode_eq (n : Option Slot) : slotCode n = n.elim 0 fun n => BitVec.ofNat 8 (n.val + 1) := by
  cases n <;> rfl

/-! #### Sets of inputs -/

theorem testBit_packed (bits : List Bool) (j : Nat) :
    (bits.foldr (fun (b : Bool) (acc : Nat) => b.toNat + 2 * acc) 0).testBit j = bits.getD j false := by
  induction bits generalizing j with
  | nil => simp
  | cons b bits ih =>
    cases j with
    | zero => cases b <;> simp [Nat.testBit_zero, Nat.add_mod, Nat.mul_mod]
    | succ j =>
      rw [List.foldr_cons, Nat.testBit_succ, List.getD_cons_succ, ← ih]
      congr 1
      cases b <;> simp <;> omega

theorem packByte_bit (bits : List Bool) {j : Nat} (hj : j < 8) : (packByte bits).getLsbD j = bits.getD j false := by
  rw [packByte, byteOf, BitVec.getLsbD_ofNat, testBit_packed]
  simp [hj]

/-- Input `i` stands in bit `i` modulo 8 of byte `i` / 8. -/
theorem inputBytes_bit (v : Tab Bool 60) {i : Nat} (hi : i < 64) :
    ((inputBytes v).getD (i / 8) 0).getLsbD (i % 8) = v.toList.getD i false := by
  have hbyte : (inputBytes v).getD (i / 8) 0 = packByte ((v.toList.drop (8 * (i / 8))).take 8) := by
    have hlt : i / 8 < 8 := by omega
    simp [inputBytes, List.getD_eq_getElem?_getD, hlt]
  rw [hbyte, packByte_bit _ (Nat.mod_lt _ (by decide))]
  have hsum : 8 * (i / 8) + i % 8 = i := by omega
  simp only [List.getD_eq_getElem?_getD, List.getElem?_take, List.getElem?_drop, hsum,
    if_pos (Nat.mod_lt i (show 0 < 8 by decide))]

theorem inputBytes_length (v : Tab Bool 60) : (inputBytes v).length = 8 := by simp [inputBytes]

/-! #### The bytes sent -/

/-- A notice's frame, its kind, subject and contents given. -/
theorem entry_isFrame {kind : Byte} {n : Notice} {subject count : Nat} {contents : List Byte}
    (hk : byteOf (0x40 + n.kind.val) = kind) (hs : n.subject = subject) (hc : n.contents = contents) :
    IsFrame kind 0 (BitVec.ofNat 8 subject :: BitVec.ofNat 8 count :: contents) (Entry.bytes ⟨count, n⟩) := by
  subst hk hs hc
  exact frameBytes_isFrame ..

theorem reply_isFrame {k t : Byte} {r : Result} {data payload : List Byte}
    (h : Reply.payload ⟨k, t, r, data⟩ = payload) : IsFrame (k + 0x80) t payload (Reply.bytes ⟨k, t, r, data⟩) := by
  subst h
  exact frameBytes_isFrame ..

/-- Settles O5: the transmitter's choice case by case, the end of a frame, and the contents of every frame sent. -/
theorem transmitterTakesTurns : Obligations.TransmitterTakesTurns := by
  refine ⟨fun s => ⟨fun f => conclude_sending, fun r rest => conclude_reply, fun e rest => conclude_notice,
    conclude_nothing⟩, fun dt s hp => ⟨fun hs => ?_, fun bytes hs => ?_, fun bytes before after q hs hb hq hne => ?_⟩,
    fun k t data => ⟨fun x hx => ?_, fun index => reply_isFrame rfl, fun x hx => ?_⟩, fun count => ?_⟩
  · rw [exec_frameSent dt hp, frameEnds]
    simp only [State.tick_link, hs]
    rfl
  · rw [exec_frameSent dt hp, frameEnds]
    simp only [State.tick_link, hs]
    rfl
  · rw [exec_frameSent dt hp, frameEnds]
    simp only [State.tick_link, hs, hb, freePlace_append hq hne]
    rfl
  · simp only [List.mem_cons, List.not_mem_nil, or_false] at hx
    rcases hx with rfl | rfl | rfl <;> exact reply_isFrame rfl
  · simp only [List.mem_cons, List.not_mem_nil, or_false] at hx
    rcases hx with rfl | rfl | rfl | rfl | rfl | rfl | rfl | rfl | rfl | rfl | rfl | rfl <;> exact reply_isFrame rfl
  · refine ⟨fun d => entry_isFrame rfl rfl ?_, fun n st c kind => entry_isFrame rfl rfl ?_,
      fun src st c cls fref => entry_isFrame rfl rfl ?_, fun states latch => ?_, fun chord => entry_isFrame rfl rfl rfl,
      fun c st e r => entry_isFrame rfl rfl ?_, fun units e lim st => entry_isFrame rfl rfl ?_,
      fun l => entry_isFrame rfl rfl ?_, fun load fault l => entry_isFrame rfl rfl ?_,
      fun dim pass cls dimOn => entry_isFrame rfl rfl ?_, fun c => entry_isFrame rfl rfl ?_,
      fun restart kept => entry_isFrame rfl rfl rfl⟩
    · simp only [Notice.contents, CoOutcome.code_eq, ResumeResult.code_eq, reasonCode_eq, slotCode_eq]
      rfl
    · simp only [Notice.contents, SlotState.code_eq, SlotCause.code_eq]
      rfl
    · simp only [Notice.contents, MonState.code_eq, SignalCause.code_eq, SigClass.code_eq]
      rfl
    · exact ⟨inputBytes states, inputBytes latch, inputBytes_length _, inputBytes_length _, entry_isFrame rfl rfl rfl,
        fun i hi => ⟨inputBytes_bit _ hi, inputBytes_bit _ hi⟩⟩
    · simp only [Notice.contents, ChuteEvent.code_eq]
      rfl
    · simp only [Notice.contents, BankEvent.code_eq, Reasons.code]
      simp [byteOf, le2]
    · rfl
    · simp only [Notice.contents, sectionBytes, Fin.ext_iff]
      rfl
    · simp only [Notice.contents, OutClass.code_eq]
      rfl
    · simp only [Notice.contents, LinkCause.code_eq]

end Sys2Proof.Machine

/-! ### Notices, increments, pixels and adapters (O8, O9, O18, O37, O46), and the state after reset (O53, O54) -/

namespace Sys2Proof.Machine

/-! #### Coalescing -/

theorem insertFlag_counters (f : FlagEntry) (l : List FlagEntry) :
    ∀ e ∈ insertFlag f l, e.counter = f.counter ∨ ∃ g ∈ l, e.counter = g.counter := by
  induction l with
  | nil => simp [insertFlag]
  | cons g l ih =>
    intro e he
    unfold insertFlag at he
    split at he
    · rcases List.mem_cons.1 he with rfl | he
      · exact .inr ⟨g, List.mem_cons_self, rfl⟩
      · exact .inr ⟨e, List.mem_cons_of_mem _ he, rfl⟩
    · split at he
      · rcases List.mem_cons.1 he with rfl | he
        · exact .inl rfl
        · exact .inr ⟨e, he, rfl⟩
      · rcases List.mem_cons.1 he with rfl | he
        · exact .inr ⟨e, List.mem_cons_self, rfl⟩
        · rcases ih e he with h | ⟨x, hx, h⟩
          · exact .inl h
          · exact .inr ⟨x, List.mem_cons_of_mem _ hx, h⟩

/-- A list in counter index order stays so. -/
theorem insertFlag_sorted {f : FlagEntry} {l : List FlagEntry} (h : l.Pairwise fun a b => a.counter < b.counter) :
    (insertFlag f l).Pairwise fun a b => a.counter < b.counter := by
  induction l with
  | nil => simp [insertFlag]
  | cons g l ih =>
    obtain ⟨hg, hl⟩ := List.pairwise_cons.1 h
    unfold insertFlag
    split
    · exact List.pairwise_cons.2 ⟨hg, hl⟩
    · next hne =>
      split
      · next hlt =>
        refine List.pairwise_cons.2 ⟨fun e he => ?_, h⟩
        rcases List.mem_cons.1 he with rfl | he
        · exact hlt
        · exact hlt.trans (hg e he)
      · next hge =>
        refine List.pairwise_cons.2 ⟨fun e he => ?_, ih hl⟩
        rcases insertFlag_counters f l e he with h | ⟨x, hx, h⟩
        · rw [h]
          exact lt_of_le_of_ne (not_lt.1 hge) (Ne.symm hne)
        · rw [h]
          exact hg x hx

/-- A mark of an entry, that two entries of one counter merge by an or. -/
def Merges (mark : FlagEntry → Bool) : Prop :=
  ∀ f g : FlagEntry, mark ⟨g.counter, g.half || f.half, g.full || f.full⟩ = (mark g || mark f)

/-- Whether a counter stands marked in a list. -/
def Marked (mark : FlagEntry → Bool) (i : CounterId) (l : List FlagEntry) : Prop :=
  ∃ e ∈ l, e.counter = i ∧ mark e = true

theorem marked_cons (mark : FlagEntry → Bool) (i : CounterId) (f : FlagEntry) (l : List FlagEntry) :
    Marked mark i (f :: l) ↔ (f.counter = i ∧ mark f = true) ∨ Marked mark i l := by
  simp [Marked]

theorem marked_insertFlag {mark : FlagEntry → Bool} (h : Merges mark) (i : CounterId) (f : FlagEntry)
    (l : List FlagEntry) : Marked mark i (insertFlag f l) ↔ Marked mark i (f :: l) := by
  induction l with
  | nil => rfl
  | cons g l ih =>
    unfold insertFlag
    split
    · next heq =>
      simp only [marked_cons, h f g, heq, Bool.or_eq_true]
      tauto
    · split
      · rfl
      · simp only [marked_cons] at ih ⊢
        rw [ih]
        tauto

theorem marked_foldl_insertFlag {mark : FlagEntry → Bool} (h : Merges mark) (i : CounterId) (b a : List FlagEntry) :
    Marked mark i (b.foldl (fun l f => insertFlag f l) a) ↔ Marked mark i (a ++ b) := by
  induction b generalizing a with
  | nil => simp
  | cons f b ih =>
    rw [List.foldl_cons, ih]
    have hinsert := marked_insertFlag h i f a
    simp only [Marked, List.mem_append, List.mem_cons, or_and_right, exists_or] at hinsert ⊢
    rw [hinsert, or_assoc]
    exact or_left_comm

theorem foldl_insertFlag_sorted (b : List FlagEntry) {a : List FlagEntry}
    (h : a.Pairwise fun a b => a.counter < b.counter) :
    (b.foldl (fun l f => insertFlag f l) a).Pairwise fun a b => a.counter < b.counter := by
  induction b generalizing a with
  | nil => exact h
  | cons f b ih => exact ih (insertFlag_sorted h)

theorem coalesce_replaces {a b : Notice} (h0 : b.kind ≠ 0) (h6 : b.kind ≠ 6) : coalesce a b = b := by
  cases b with
  | changeoverDone d => exact absurd rfl h0
  | counter l => exact absurd rfl h6
  | _ => cases a <;> rfl

/-- The last six of a list, and what they leave out. -/
theorem lastSix_spec (l : List Byte) :
    (lastSix l).length ≤ 6 ∧ ∃ dropped, l = dropped ++ lastSix l ∧ (dropped ≠ [] ↔ 6 < l.length) ∧
      (dropped ≠ [] → (lastSix l).length = 6) := by
  refine ⟨by simp [lastSix]; omega, l.take (l.length - 6), (List.take_append_drop ..).symm, ?_, fun h => ?_⟩
  · rw [ne_eq, ← List.length_eq_zero_iff, List.length_take]
    omega
  · rw [ne_eq, ← List.length_eq_zero_iff, List.length_take] at h
    simp only [lastSix, List.length_drop]
    omega

/-- Settles O8: `tableWith` finds the entry by its key; COUNTER lists merge in order, and of the tags the last six stay. -/
theorem eventsCoalesceByKey : Obligations.EventsCoalesceByKey := by
  refine ⟨fun n s => ⟨fun hm => ?_, fun hm hnew => ?_, fun before e after hm hn hk hb => ?_⟩,
    fun a b h0 h6 => coalesce_replaces h0 h6, fun a b ha => ?_, fun a b => ?_⟩
  · simp [post, hm]
  · rw [post, if_pos hm, tableWith_new hnew]
  · rw [post, if_pos hm, hn, tableWith_old hk hb]
  · refine ⟨_, rfl, List.pairwise_map.2 (foldl_insertFlag_sorted b (List.pairwise_map.1 ha)), fun i => ⟨?_, ?_, ?_⟩⟩
    · simpa [Marked] using marked_foldl_insertFlag (mark := fun _ => true) (fun _ _ => rfl) i b a
    · exact marked_foldl_insertFlag (mark := FlagEntry.half) (fun _ _ => rfl) i b a
    · exact marked_foldl_insertFlag (mark := FlagEntry.full) (fun _ _ => rfl) i b a
  · obtain ⟨hlen, dropped, hall, hmore, hsix⟩ :=
      lastSix_spec (a.superseded.tags ++ (if a.tag = 0 then [] else [a.tag]) ++ b.superseded.tags)
    refine ⟨_, rfl, hlen, ⟨dropped, hall, hsix, ?_⟩, rfl, rfl, rfl, rfl, rfl, rfl, rfl⟩
    rw [hmore]
    simp only [mergeDone, Bool.or_eq_true, decide_eq_true_eq]
    tauto

/-! #### NOTICE_MASK -/

theorem boolByte_eq_one (b : Bool) : (boolByte b).toNat = b.toNat := by cases b <;> rfl

theorem byteAt_mask {m : Tab Bool 11} {keep : Bool} {i : Nat} (hi : i < 11) :
    byteAt (m.toList.map boolByte ++ [boolByte keep]) i = (m.at ⟨i, hi⟩).toNat := by
  simp [byteAt, List.getD_eq_getElem?_getD, List.getElem?_append_left, hi, boolByte_eq_one, Tab.at, Vector.get_eq_getElem]

theorem byteAt_keep (m : Tab Bool 11) (keep : Bool) :
    byteAt (m.toList.map boolByte ++ [boolByte keep]) 11 = keep.toNat := by
  simp [byteAt, List.getD_eq_getElem?_getD, List.getElem?_append_right, boolByte_eq_one]

theorem readMask_mask (m : Tab Bool 11) (keep : Bool) : readMask (m.toList.map boolByte ++ [boolByte keep]) = m := by
  refine Vector.ext fun i hi => ?_
  rw [readMask, Vector.getElem_ofFn, flagAt, byteAt_mask hi]
  cases h : m.at ⟨i, hi⟩ <;> exact h.symm

theorem firstBad_append {l l' : List FieldCheck} (h : ∀ x ∈ l, x.2 = true) : firstBad (l ++ l') = firstBad l' := by
  induction l with
  | nil => rfl
  | cons x l ih =>
    obtain ⟨i, ok⟩ := x
    obtain rfl : ok = true := h _ List.mem_cons_self
    exact ih fun y hy => h y (List.mem_cons_of_mem _ hy)

theorem maskLayout (m : Tab Bool 11) (keep : Bool) (s : State) :
    fixedLayout 12 maskFields s (m.toList.map boolByte ++ [boolByte keep]) =
      if m.at 10 then none else some (.badField 10) := by
  rw [fixedLayout, if_neg (by simp), maskFields, firstBad_append]
  · have h10 : byteAt (m.toList.map boolByte ++ [boolByte keep]) 10 = (m.at 10).toNat := byteAt_mask (by decide)
    simp only [byteCheck, boolCheck, h10, byteAt_keep, firstBad]
    cases m.at 10 <;> cases keep <;> rfl
  · intro x hx
    obtain ⟨i, hi, rfl⟩ := List.mem_map.1 hx
    have hlt := List.mem_range.1 hi
    rw [boolCheck, byteAt_mask (by omega), decide_eq_true_iff]
    exact Bool.toNat_le _

/-- Settles O9: the fields are read as the mask, and READY's is checked. -/
theorem noticeMaskIsSet : Obligations.NoticeMaskIsSet := by
  intro dt tag m keep s b p hturn
  refine ⟨fun h10 => ?_, fun h10 => ?_⟩
  · refine (request_answered (check := fixedLayout 12 maskFields) (block := noticeMaskBlock) hturn
      (by rw [maskLayout, if_pos h10]) rfl ?_).trans ?_
    · split <;> rfl
    · simp only [noticeMaskBlock, p, readMask_mask, flagAt, byteAt_keep]
      cases keep <;> rfl
  · exact request_refused (check := fixedLayout 12 maskFields) hturn (by rw [maskLayout, h10]; rfl) noticeMaskBlock

/-! #### Increments -/

theorem increment_counter {i : CounterId} {s : State} (h : s.counters.freeze = false) (j : CounterId) :
    (increment i s).counter j = if j = i then (s.counter i).bump s.counters.saturate else s.counter j := by
  rw [State.counter, increment_counters, if_neg (by simp [h]), Tab.at_put]
  rfl

theorem post_link_congr {n : Notice} {s t : State} (h : t.link = s.link) : (post n t).link = (post n s).link := by
  unfold post
  rw [h]
  split
  · rfl
  · exact h

/-- COUNTER is posted exactly for a flag newly set (R178). -/
theorem increment_posts {i : CounterId} {s : State} (h : s.counters.freeze = false) :
    (increment i s).link =
      if (s.counter i).newFlag ((s.counter i).bump s.counters.saturate) then
        (post (.counter [⟨i, ((s.counter i).bump s.counters.saturate).half,
          ((s.counter i).bump s.counters.saturate).full⟩]) s).link
      else s.link := by
  rw [increment, if_neg (by simp [h])]
  dsimp only
  split
  · exact post_link_congr rfl
  · rfl

theorem newFlag_iff {c d : Counter} (hhalf : c.half = true → d.half = true) (hfull : c.full = true → d.full = true) :
    c.newFlag d = true ↔ d.half ≠ c.half ∨ d.full ≠ c.full := by
  obtain ⟨_, ch, cf⟩ := c
  obtain ⟨_, dh, df⟩ := d
  simp only [Counter.newFlag] at *
  revert ch cf dh df
  decide

/-- A flag set stays set under an increment. -/
theorem newFlag_bump_iff (saturate : Bool) (c : Counter) :
    c.newFlag (c.bump saturate) = true ↔ (c.bump saturate).half ≠ c.half ∨ (c.bump saturate).full ≠ c.full := by
  refine newFlag_iff (fun h => ?_) fun h => ?_ <;> unfold Counter.bump <;> split
  · exact h
  · simp [h]
  · exact h
  · simp [h]

/-- Settles O46: `Counter.bump` case by case of the value. -/
theorem incrementFollowsTheCounterMode : Obligations.IncrementFollowsTheCounterMode := by
  intro i s c t d
  refine ⟨fun hf => by simp [t, increment, hf], fun hf => ?_⟩
  have hd : d = c.bump s.counters.saturate := by simpa using increment_counter (i := i) hf i
  have hlink : t.link = _ := increment_posts (i := i) hf
  have hmax (h : c.value.toNat = 4294967295) : c.value = 0xFFFFFFFF := BitVec.eq_of_toNat_eq h
  refine ⟨fun hlt => ?_, fun hv hsat => ?_, fun hv hsat => ?_, fun j hj => ?_, fun hh hfull => ?_, fun hnew => ?_, ?_,
    increment_same i s⟩
  · have hne : c.value ≠ 0xFFFFFFFF := fun h => by simp [h] at hlt
    have hbump : d = ⟨c.value + 1, c.half || c.value == 0x7FFFFFFF, c.full || c.value == 0xFFFFFFFE⟩ := by
      rw [hd, Counter.bump, if_neg fun h => hne h.1, beq_false_of_ne hne, Bool.or_false]
    rw [hbump]
    refine ⟨?_, ?_, ?_⟩
    · simp only [BitVec.toNat_add]
      change (c.value.toNat + 1) % 4294967296 = _
      omega
    · exact congrArg (c.half || ·) (by rw [Bool.eq_iff_iff, beq_iff_eq, beq_iff_eq, ← BitVec.toNat_inj]; rfl)
    · exact congrArg (c.full || ·) (by rw [Bool.eq_iff_iff, beq_iff_eq, beq_iff_eq, ← BitVec.toNat_inj]; rfl)
  · rw [hd, Counter.bump, if_pos ⟨hmax hv, hsat⟩]
  · rw [hd, Counter.bump, if_neg (by simp [hsat]), hmax hv]
    simp
  · simpa [hj] using increment_counter (i := i) hf j
  · rw [hlink, if_neg]
    rw [newFlag_bump_iff, not_or, not_not, not_not, ← hd]
    exact ⟨hh, hfull⟩
  · rw [hlink, if_pos, ← hd]
    rw [newFlag_bump_iff, ← hd]
    exact hnew
  · change (increment i s).counters = { s.counters with table := (increment i s).counters.table }
    rw [increment_counters, if_neg (by simp [hf])]

/-! #### Pixels -/

theorem clampByte_le (v : Int) : clampByte v ≤ 255 := by
  unfold clampByte
  omega

theorem fadeScale_le {g f : Nat} (hg : g ≤ 255) (hf : f ≤ 256) : fadeScale g f ≤ 255 := by
  have := Nat.mul_le_mul hg hf
  unfold fadeScale
  omega

theorem dimScale_le {g f : Nat} (hg : g ≤ 255) (hf : f ≤ 256) : dimScale g f ≤ 255 := fadeScale_le hg hf

theorem blend_le {alpha m a : Nat} (halpha : alpha ≤ 256) (hm : m ≤ 255) (ha : a ≤ 255) : blend alpha m a ≤ 255 := by
  have h1 := Nat.mul_le_mul_right alpha hm
  have h2 := Nat.mul_le_mul_right (256 - alpha) ha
  unfold blend
  omega

/-- The three components lie within 0 to 255. -/
def Pixel.InRange (p : Pixel) : Prop := p.r ≤ 255 ∧ p.g ≤ 255 ∧ p.b ≤ 255

theorem Pixel.InRange.map {p : Pixel} {f : Nat → Nat} (h : p.InRange) (hf : ∀ g, g ≤ 255 → f g ≤ 255) :
    (p.map f).InRange := ⟨hf _ h.1, hf _ h.2.1, hf _ h.2.2⟩

theorem pixelOf_inRange (x : RGB) : (pixelOf x).InRange :=
  ⟨Nat.le_of_lt_succ x.r.isLt, Nat.le_of_lt_succ x.g.isLt, Nat.le_of_lt_succ x.b.isLt⟩

theorem colourPath_inRange (c : Colours) (x : RGB) : (colourPath c x).InRange :=
  ⟨clampByte_le _, clampByte_le _, clampByte_le _⟩

theorem overlayStep_inRange {o : Overlay} (ho : o.alpha ≤ 256) (present : Bool) (m : RGB) {a : Pixel} (ha : a.InRange) :
    (overlayStep o present m a).InRange := by
  obtain ⟨hmr, hmg, hmb⟩ := pixelOf_inRange m
  obtain ⟨har, hag, hab⟩ := ha
  unfold overlayStep
  split
  · exact ⟨blend_le ho hmr har, blend_le ho hmg hag, blend_le ho hmb hab⟩
  · exact ⟨har, hag, hab⟩

theorem OutField.pixel_inRange {f : OutField} (menu : RGB) (x y : Nat) (hfade : f.fade ≤ 256) (hdim : f.dim ≤ 256)
    (halpha : f.overlay.alpha ≤ 256) : (f.pixel menu x y).InRange := by
  have hscale (g : Nat) (hg : g ≤ 255) : fadeScale g f.fade ≤ 255 := fadeScale_le hg hfade
  have hdims (g : Nat) (hg : g ≤ 255) : dimScale g f.dim ≤ 255 := dimScale_le hg hdim
  unfold OutField.pixel
  split
  · exact ⟨by decide, by decide, by decide⟩
  · dsimp only
    split
    · exact ((pixelOf_inRange menu).map hscale).map hdims
    · exact ((pixelOf_inRange _).map hscale).map hdims
  · exact (overlayStep_inRange halpha _ menu ((colourPath_inRange ..).map hscale)).map hdims

theorem scale_full (g : Nat) : dimScale (fadeScale g 256) 256 = g := by
  unfold dimScale fadeScale
  omega

theorem gammaPoint_factory {k : Nat} (h : k < 8) : gammaPoint factoryColours.gamma k = 32 * k := by
  have hall : ∀ k : Fin 8, gammaPoint factoryColours.gamma k.val = 32 * (k.val : Int) := by decide
  exact hall ⟨k, h⟩

/-- The factory gamma is the line through its points up to the eighth, at 224. -/
theorem gammaStep_factory {v : Nat} (h : v ≤ 224) : gammaStep factoryColours.gamma v = v := by
  by_cases h7 : v = 224
  · subst h7
    decide
  · simp only [gammaStep, gammaPoint_factory (show v / 32 < 8 by omega), gammaPoint_factory (show v / 32 + 1 < 8 by omega),
      clampByte]
    push_cast
    omega

theorem matrixStep_unit (x : RGB) :
    matrixStep factoryColours.rowR x = x.r.toNat ∧ matrixStep factoryColours.rowG x = x.g.toNat ∧
      matrixStep factoryColours.rowB x = x.b.toNat := by
  have hr := x.r.isLt
  have hg := x.g.isLt
  have hb := x.b.isLt
  refine ⟨?_, ?_, ?_⟩ <;> simp only [matrixStep, clampByte, factoryColours] <;> omega

/-- Settles O37: every step of the conditioner stays within 0 to 255, and the factory steps are the identity. -/
theorem pixelsStayInRange : Obligations.PixelsStayInRange := by
  refine ⟨fun f menu x y hfade hdim halpha => f.pixel_inRange menu x y hfade hdim halpha, fun f menu x y h => ?_,
    fun c hr hg hb => ?_⟩
  · simp only [OutField.pixel, h]
  · obtain ⟨hmr, hmg, hmb⟩ := matrixStep_unit c
    simp only [colourPath, Pixel.map, hmr, hmg, hmb, gammaStep_factory hr, gammaStep_factory hg, gammaStep_factory hb,
      scale_full, pixelOf]

end Sys2Proof.Machine

/-! ### The adapter, timers of the sound, the router and the coin unit, and the state after reset
(O18, O35, O36, O39, O45, O53, O54) -/

namespace Sys2Proof.Machine

/-! #### The adapter -/

theorem keptValue_low {c : Fin 256} (v : Word16) (h : 3 ≤ c.val ∧ c.val ≤ 6) : keptValue c v = v &&& 0x00FF := if_pos h

theorem keptValue_other {c : Fin 256} (v : Word16) (h : ¬(3 ≤ c.val ∧ c.val ≤ 6)) : keptValue c v = v := if_neg h

theorem Adapter.write_own {c : Fin 256} (a : Adapter) (v : Word16) (h : c.val ≤ 2) : a.write c v = a := if_pos h

theorem Adapter.write_cells {c : Fin 256} (a : Adapter) (v : Word16) (h : 3 ≤ c.val) :
    a.write c v = { a with cells := a.cells.put c (keptValue c v) } := if_neg (by omega)

theorem nextFar_val (c : Fin 256) : (nextFar c).val = if c.val = 255 then 16 else c.val + 1 := by
  unfold nextFar
  split
  · next h => rw [if_neg (by omega)]
  · next h => rw [if_pos (by omega)]; rfl

/-- The cells an adapter gives values of its own, one after another. -/
def ownCells (own : List (Fin 256 × Word16)) (cells : Tab Word16 256) : Tab Word16 256 :=
  own.foldl (fun cells p => if 3 ≤ p.1.val ∧ p.1.val ≤ 6 then cells else cells.put p.1 p.2) cells

theorem ownCells_other {own : List (Fin 256 × Word16)} {c : Fin 256} (h : ∀ p ∈ own, p.1 ≠ c) (cells : Tab Word16 256) :
    (ownCells own cells).at c = cells.at c := by
  induction own generalizing cells with
  | nil => rfl
  | cons p own ih =>
    have hp := h p List.mem_cons_self
    rw [ownCells, List.foldl_cons]
    refine (ih (fun q hq => h q (List.mem_cons_of_mem _ hq)) _).trans ?_
    split
    · rfl
    · rw [Tab.at_put, if_neg hp.symm]

theorem ownCells_mem {own : List (Fin 256 × Word16)} (hdistinct : (own.map Prod.fst).Nodup)
    (hfit : ∀ p ∈ own, ¬(3 ≤ p.1.val ∧ p.1.val ≤ 6)) {p : Fin 256 × Word16} (hp : p ∈ own) (cells : Tab Word16 256) :
    (ownCells own cells).at p.1 = p.2 := by
  induction own generalizing cells with
  | nil => exact absurd hp List.not_mem_nil
  | cons q own ih =>
    obtain ⟨hq, hrest⟩ := List.nodup_cons.1 hdistinct
    rw [ownCells, List.foldl_cons, if_neg (hfit q List.mem_cons_self)]
    rcases List.mem_cons.1 hp with rfl | hp
    · refine (ownCells_other (fun r hr heq => hq ?_) _).trans (Tab.at_put_self ..)
      exact List.mem_map.2 ⟨r, hr, heq⟩
    · exact ih hrest (fun r hr => hfit r (List.mem_cons_of_mem _ hr)) hp _

/-- An adapter gives a DIP cell no value of its own (R42). -/
theorem ownCells_dip {c : Fin 256} (h : 3 ≤ c.val ∧ c.val ≤ 6) (own : List (Fin 256 × Word16)) (cells : Tab Word16 256) :
    (ownCells own cells).at c = cells.at c := by
  induction own generalizing cells with
  | nil => rfl
  | cons p own ih =>
    rw [ownCells, List.foldl_cons]
    refine (ih _).trans ?_
    split
    · rfl
    · next hp => rw [Tab.at_put, if_neg fun heq : c = p.1 => hp (heq ▸ h)]

theorem pluggedAdapter_own {own : List (Fin 256 × Word16)} (h : ownCellsFit own = true) {p : Fin 256 × Word16}
    (hp : p ∈ own) : (pluggedAdapter own).cells.at p.1 = p.2 := by
  simp only [ownCellsFit, Bool.and_eq_true, decide_eq_true_eq, List.all_eq_true, Bool.or_eq_true] at h
  obtain ⟨hdistinct, hfit⟩ := h
  refine ownCells_mem hdistinct (fun q hq => ?_) hp _
  have := hfit q hq
  omega

theorem pluggedAdapter_other {own : List (Fin 256 × Word16)} {c : Fin 256} (h : ∀ p ∈ own, p.1 ≠ c) :
    (pluggedAdapter own).cells.at c = 0 := (ownCells_other h _).trans (Tab.at_all ..)

theorem pluggedAdapter_dip {c : Fin 256} (h : 3 ≤ c.val ∧ c.val ≤ 6) (own : List (Fin 256 × Word16)) :
    (pluggedAdapter own).cells.at c = 0 := (ownCells_dip h _ _).trans (Tab.at_all ..)

/-- Settles O18: each transaction by its case, and an adapter's own cells one after another. -/
theorem adapterCellsAndPointer : Obligations.AdapterCellsAndPointer := by
  refine ⟨fun a c v => ⟨rfl, rfl, a.write_own v, fun h3 h6 => ?_, fun h7 => ?_, rfl, rfl, rfl, nextFar_val _, fun h16 => ?_,
    nextFar_val _⟩, fun dt n own s hfits => ?_⟩
  · rw [Adapter.perform, a.write_cells v h3, keptValue_low v ⟨h3, h6⟩]
  · rw [Adapter.perform, a.write_cells v (by omega), keptValue_other v (by omega)]
  · change (a.write a.pointer v).cells = _
    rw [a.write_cells v (by omega), keptValue_other v (by omega)]
  · refine ⟨pluggedAdapter own, rfl, rfl, fun p hp => pluggedAdapter_own hfits hp, fun c hc => pluggedAdapter_other hc,
      fun hp => ?_, fun hp => ?_⟩
    · exact if_pos hp
    · exact if_neg (by simp [hp])

/-! #### Settle, sound and still timers -/

theorem exec_settleExpiry {s : State} (h : s.powered = true) :
    exec .settleExpiry s = .next (conclude (settleExpires s)) := event_powered h settleExpires

theorem exec_audioFadeStep {s : State} (h : s.powered = true) :
    exec .audioFadeStep s = .next (conclude (settle (stepSoundFade s))) :=
  event_powered h fun s => settle (stepSoundFade s)

theorem exec_stillTimerExpiry {s : State} (h : s.powered = true) :
    exec .stillTimerExpiry s = .next (conclude (stillExpires s)) := event_powered h stillExpires

/-- The end of a settle with no changeover in flight. -/
theorem settleDone_idle {s : State} (h : s.co.record = none) :
    settleDone s = { s with
      out := { s.out with settle := none, startMark := false }
      frame := if s.out.startMark then { s.frame with blank := false } else s.frame } := by
  simp only [settleDone, State.inFlight, h, Option.isSome_none, Bool.not_false, Bool.and_true]
  split <;> rfl

/-- The state in which a still timer's end dims the picture, before the count and the notice. -/
def dimmedStill (s : State) : State :=
  { s with pic := { s.pic with stillTimer := none, dimmed := true, dim := s.cabinet.dimLevel } }

theorem stillExpiry_eq (s : State) :
    stillExpiry s = postOutput true (match s.pic.watched with
      | some n => increment (stillDims n) (dimmedStill s)
      | none => dimmedStill s) := rfl

/-- What a still timer's end does (R135). -/
theorem stillExpiry_spec (s : State) :
    (stillExpiry s).now = s.now ∧
      (stillExpiry s).pic = { s.pic with stillTimer := none, dimmed := true, dim := s.cabinet.dimLevel } ∧
      (∀ n, s.pic.watched = some n → (stillExpiry s).counters = (increment (stillDims n) s).counters) ∧
      (s.pic.watched = none → (stillExpiry s).counters = s.counters) ∧
      (s.link.mask.at 8 = true →
        ∃ e ∈ (stillExpiry s).link.notices, e.notice = .output true s.out.pass s.out.cls true) := by
  have hcount : SameOutside [.link, .counters] (dimmedStill s) (match s.pic.watched with
      | some n => increment (stillDims n) (dimmedStill s)
      | none => dimmedStill s) := by
    split
    · exact increment_same ..
    · exact .refl _ _
  have hmask : (match s.pic.watched with
      | some n => increment (stillDims n) (dimmedStill s)
      | none => dimmedStill s).link.mask = s.link.mask := by
    split
    · rw [increment_mask]
      rfl
    · rfl
  have hcounters (n : Slot) (h : s.pic.watched = some n) : (match s.pic.watched with
      | some n => increment (stillDims n) (dimmedStill s)
      | none => dimmedStill s).counters = (increment (stillDims n) s).counters := by
    rw [h]
    exact increment_counters_congr _ rfl
  have hsame (h : s.pic.watched = none) : (match s.pic.watched with
      | some n => increment (stillDims n) (dimmedStill s)
      | none => dimmedStill s).counters = s.counters := by
    rw [h]
    rfl
  rw [stillExpiry_eq]
  generalize (match s.pic.watched with
      | some n => increment (stillDims n) (dimmedStill s)
      | none => dimmedStill s) = u at hcount hmask hcounters hsame ⊢
  have hpost := postOutput_same true u
  have hpic : u.pic = _ := hcount.same .pic (by decide)
  have hout : u.out = s.out := hcount.same .out (by decide)
  refine ⟨(hpost.same .now (by decide)).trans (hcount.same .now (by decide)), (hpost.same .pic (by decide)).trans hpic,
    fun n h => (hpost.same .counters (by decide)).trans (hcounters n h),
    fun h => (hpost.same .counters (by decide)).trans (hsame h), fun hm => ?_⟩
  obtain ⟨e, he, hn, -⟩ := exists_post (n := .output true u.out.pass u.out.cls u.pic.dimmed) (s := u)
    (fun m => by cases m <;> rfl) (by rw [hmask]; exact hm)
  refine ⟨e, he, ?_⟩
  rw [hn, hout, hpic]
  rfl

theorem clampSample_eq (x : Int) :
    clampSample x = if x < -32768 then -32768 else if 32767 < x then 32767 else x := by
  unfold clampSample
  split_ifs <;> omega

theorem scaleSample_full (x : Int) : scaleSample x 256 = x := by
  unfold scaleSample
  push_cast
  omega

/-- Settles O35: each timer's end by its case, and the speaker sample by its three steps. -/
theorem pictureAndSoundTimersExpire : Obligations.PictureAndSoundTimersExpire := by
  refine ⟨fun s hp hset => ⟨fun h => ?_, fun t h => ?_, fun h => ?_, fun f h => ?_, fun h => ?_, fun t h => ?_⟩,
    fun s board menu => ?_⟩
  · rw [exec_settleExpiry hp, settleExpires, h]
  · rw [exec_settleExpiry hp, settleExpires, h]
    dsimp only
    rw [settle_settled ⟨?_, ?_⟩]
    all_goals rw [settleDone_idle (s := s.reach t) hset.1]
    · rfl
    · exact hset.1
    · exact hset.2
  · rw [exec_audioFadeStep hp, stepSoundFade, h]
    dsimp only
    rw [settle_settled hset]
  · rw [exec_audioFadeStep hp, stepSoundFade, h]
    dsimp only
    rw [settle_settled (by exact ⟨hset.1, hset.2⟩)]
    simp only [State.reach, ms, Config.ticksPerMs, Nat.mul_comm (f.steps + 1) 27000]
    rfl
  · rw [exec_stillTimerExpiry hp, stillExpires, h]
  · obtain ⟨hnow, hpic, hwatched, hnone, hpost⟩ := stillExpiry_spec (s.reach t)
    refine ⟨stillExpiry (s.reach t), ?_, hnow, hpic, fun n hn => (hwatched n hn).trans (increment_counters_congr _ rfl),
      hnone, hpost, ?_⟩
    · rw [exec_stillTimerExpiry hp, stillExpires, h]
    · exact (stillExpiry_same _).after ((State.reach_same ..).mono (by decide)) (by decide)
  · have hsample : speakerSample s board menu = clampSample
        (((if s.snd.source = none then 0 else (board * s.snd.gain + 128) / 256) *
          (if s.snd.ducked then s.cabinet.duckLevel else 256 : Nat) + 128) / 256 +
            (menu * s.cabinet.menuAudio + 128) / 256) := by
      unfold speakerSample
      cases s.snd.source <;> rfl
    refine ⟨by rw [hsample, clampSample_eq], ?_, ?_, fun hsource hgain hduck hmenu hlow hhigh => ?_⟩
    · rw [hsample]
      exact le_max_left ..
    · rw [hsample]
      unfold clampSample
      omega
    · rw [hsample, if_neg hsource, hgain, hduck, hmenu]
      simp only [Bool.false_eq_true, ↓reduceIte]
      unfold clampSample
      push_cast
      omega

end Sys2Proof.Machine

/-! ### OVERLAY, the router's and the coin unit's timers, and the state after reset (O36, O39, O45, O53, O54) -/

namespace Sys2Proof.Machine

/-! #### OVERLAY -/

theorem overlayLayout (en mr mg mb nr ng nb xr xg xb lo hi : Byte) (s : State) :
    fixedLayout 12 overlayFields s [en, mr, mg, mb, nr, ng, nb, xr, xg, xb, lo, hi] =
      if 1 < en.toNat then some (.badField 0)
      else if 256 < lo.toNat + 256 * hi.toNat then some (.badField 10) else none := by
  simp only [fixedLayout, overlayFields, boolCheck, wordCheck, word2, byteAt, firstBad, List.getD_cons_zero,
    List.getD_cons_succ, List.length_cons, List.length_nil, ne_eq, not_true_eq_false, ↓reduceIte, Nat.zero_le, true_and,
    decide_eq_true_eq]
  split_ifs <;> first | rfl | omega

theorem readOverlay_bytes (en mr mg mb nr ng nb xr xg xb lo hi : Byte) :
    readOverlay [en, mr, mg, mb, nr, ng, nb, xr, xg, xb, lo, hi] =
      ⟨decide (en = 1), ⟨mr, mg, mb⟩, ⟨nr, ng, nb⟩, ⟨xr, xg, xb⟩, lo.toNat + 256 * hi.toNat⟩ := by
  simp [readOverlay, flagAt_eq_decide, word2, byteAt]

/-- Settles O36: the fields checked in their order, read, and the duck judged by the new enable. -/
theorem overlayIsReplaced : Obligations.OverlayIsReplaced := by
  intro dt tag en mr mg mb nr ng nb xr xg xb lo hi s b p alpha hturn
  refine ⟨fun hen halpha => ?_, fun hen => ?_, fun hen halpha => ?_⟩
  · refine (request_answered (check := fixedLayout 12 overlayFields) (block := overlayBlock) hturn ?_ rfl rfl).trans ?_
    · rw [overlayLayout, if_neg (Nat.not_lt.2 hen), if_neg (Nat.not_lt.2 halpha)]
    · simp only [p, readOverlay_bytes]
      rfl
  · exact request_refused (check := fixedLayout 12 overlayFields) hturn (by rw [overlayLayout, if_pos hen]) overlayBlock
  · exact request_refused (check := fixedLayout 12 overlayFields) hturn
      (by rw [overlayLayout, if_neg (Nat.not_lt.2 hen), if_pos halpha]) overlayBlock

/-! #### The chord and play timers -/

theorem exec_chordTimerExpiry {s : State} (h : s.powered = true) :
    exec .chordTimerExpiry s = .next (conclude (chordTimerEnds s)) := event_powered h chordTimerEnds

theorem exec_playTimerExpiry {s : State} (h : s.powered = true) :
    exec .playTimerExpiry s = .next (conclude (playTimerEnds s)) := event_powered h playTimerEnds

/-- Settles O39: each timer's end by its case. -/
theorem chordAndPlayTimersExpire : Obligations.ChordAndPlayTimersExpire := by
  intro s hp
  refine ⟨fun h => ?_, fun t h => ⟨chordExpires (s.reach t), ?_, ?_, ?_, fun hm => ?_, ?_⟩, fun h => ?_,
    fun t n h howner => ⟨increment (playSeconds n) { s.reach t with
      router := { s.router with playTimer := some (max s.now t + 27000000) } }, ?_, ?_, ?_, increment_counters_congr _ rfl, ?_⟩⟩
  · rw [exec_chordTimerExpiry hp, chordTimerEnds, h]
  · rw [exec_chordTimerExpiry hp, chordTimerEnds, h]
  · exact (post_same ..).same .now (by decide)
  · exact (post_same ..).same .router (by decide)
  · obtain ⟨e, he, hn, -⟩ := exists_post (n := .menuCall true)
      (s := { s.reach t with router := { s.router with chordTimer := none, chordArmed := false } })
      (fun m => by cases m <;> rfl) hm
    exact ⟨e, he, hn⟩
  · exact (post_same ..).after (((State.reach_same ..).mono (by decide)).with_router (by decide)) (by decide)
  · rw [exec_playTimerExpiry hp, playTimerEnds, h]
  · rw [exec_playTimerExpiry hp, playTimerEnds, h]
    simp only [playExpires, State.reach, howner]
    rfl
  · exact (increment_same ..).same .now (by decide)
  · exact (increment_same ..).same .router (by decide)
  · exact (increment_same ..).after (((State.reach_same ..).mono (by decide)).with_router (by decide)) (by decide)

/-! #### The coin unit's timers -/

theorem exec_jamTimerExpiry (c : Chute) {s : State} (h : s.powered = true) :
    exec (.jamTimerExpiry c) s = .next (conclude (jamExpires c s)) := event_powered h (jamExpires c)

theorem exec_pulseOnExpiry (n : Slot) {s : State} (h : s.powered = true) :
    exec (.pulseOnExpiry n) s = .next (conclude (pulseOnExpires n s)) := event_powered h (pulseOnExpires n)

theorem exec_pulseGapExpiry (n : Slot) {s : State} (h : s.powered = true) :
    exec (.pulseGapExpiry n) s = .next (conclude (pulseGapExpires n s)) := event_powered h (pulseGapExpires n)

theorem exec_meterOnExpiry (m : Meter) {s : State} (h : s.powered = true) :
    exec (.meterOnExpiry m) s = .next (conclude (meterOnExpires m s)) := event_powered h (meterOnExpires m)

theorem exec_meterOffExpiry (m : Meter) {s : State} (h : s.powered = true) :
    exec (.meterOffExpiry m) s = .next (conclude (meterOffExpires m s)) := event_powered h (meterOffExpires m)

/-- A pulse too long jams its chute (R159). -/
theorem jamExpiry_inPulse {c : Chute} {s : State} {start : Nat} (active : Bool) (h : (s.chute c).state = .inPulse start) :
    (jamExpiry c active s).coins = { s.coins with chutes := s.coins.chutes.put c { s.chute c with
        state := .jammed
        reasons := { (s.chute c).reasons with jam := true }
        jamTimer := if active then none else some (s.now + ms 2000) } } ∧
      (jamExpiry c active s).counters = (increment (chuteJams c) s).counters := by
  have hincrement := increment_same (chuteJams c) (s.setChute c { s.chute c with
    state := .jammed, jamTimer := if active then none else some (s.now + ms 2000) })
  have hcounters := increment_counters_congr (chuteJams c) (t := s.setChute c { s.chute c with
    state := .jammed, jamTimer := if active then none else some (s.now + ms 2000) }) (s := s) rfl
  unfold jamExpiry
  rw [h]
  dsimp only
  generalize increment (chuteJams c) (s.setChute c { s.chute c with
    state := .jammed, jamTimer := if active then none else some (s.now + ms 2000) }) = u at hincrement hcounters ⊢
  have hcoins : u.coins = _ := hincrement.same .coins (by decide)
  have hchute : u.chute c = { s.chute c with
      state := .jammed, jamTimer := if active then none else some (s.now + ms 2000) } := by
    rw [State.chute, hcoins]
    exact Tab.at_put_self ..
  refine ⟨((postChute_same ..).same .coins (by decide)).trans ?_,
    ((postChute_same ..).same .counters (by decide)).trans
      (((setReasons_same ..).same .counters (by decide)).trans hcounters)⟩
  rw [judgeJam, setReasons_coins, hchute, hcoins]
  simp only [State.setChute, Tab.put_put, beq_self_eq_true]

/-- A chute that was JAMMED is ready again (R159). -/
theorem jamExpiry_jammed {c : Chute} {s : State} (active : Bool) (h : (s.chute c).state = .jammed) :
    (jamExpiry c active s).coins = { s.coins with chutes := s.coins.chutes.put c { s.chute c with
        state := .ready, jamTimer := none, reasons := { (s.chute c).reasons with jam := false } } } ∧
      SameOutside [.link, .coins] s (jamExpiry c active s) := by
  have hset : SameOutside [.link, .coins] s (s.setChute c { s.chute c with state := .ready, jamTimer := none }) :=
    (State.setChute_same ..).mono (by decide)
  unfold jamExpiry
  rw [h]
  dsimp only
  refine ⟨((postChute_same ..).same .coins (by decide)).trans ?_,
    (postChute_same ..).after ((setReasons_same ..).after hset (by decide)) (by decide)⟩
  have hchute : (s.setChute c { s.chute c with state := .ready, jamTimer := none }).chute c =
      { s.chute c with state := .ready, jamTimer := none } := Tab.at_put_self ..
  rw [judgeJam, setReasons_coins, hchute]
  simp only [State.setChute, Tab.put_put]
  rfl

/-- With no tick owed an idle meter stays as it is (R173). -/
theorem judgeMeter_none {m : Meter} {s : State} (h : (s.meter m).owed = 0) : judgeMeter m s = s := by
  unfold judgeMeter
  rw [h]
  split <;> first | rfl | contradiction

theorem judgeMeterFull_coins (s : State) :
    (judgeMeterFull s).coins = { s.coins with chutes := (judgeMeterFull s).coins.chutes } := by
  have hall (l : List Chute) (s : State) :
      (forAll l (fun c s => setReasons c { (s.chute c).reasons with meterFull := meterFull c s } s) s).coins =
        { s.coins with chutes :=
          (forAll l (fun c s => setReasons c { (s.chute c).reasons with meterFull := meterFull c s } s) s).coins.chutes } := by
    induction l generalizing s with
    | nil => rfl
    | cons c l ih =>
      refine (ih _).trans ?_
      rw [setReasons_coins]
      rfl
  exact hall allFour s

/-- Settles O45: each timer's end by its case, and the outputs read off the state. -/
theorem coinTimersExpire : Obligations.CoinTimersExpire := by
  refine ⟨fun c n m s hp => ⟨fun h => ?_, fun t start h hst => ?_, fun t h hst => ?_, fun line t gap h => ?_,
    fun t h => ⟨fun hno => ?_, fun line rest hq hcur howner => ?_⟩, fun t h => ?_, fun t h => ⟨fun hz => ?_, fun k hk => ?_⟩⟩,
    fun c n k m s => ?_⟩
  · rw [exec_jamTimerExpiry c hp, jamExpires, h]
  · obtain ⟨hcoins, hcounters⟩ := jamExpiry_inPulse (s := s.reach t) (inputActive s (coinInput c)) hst
    refine ⟨jamExpiry c (inputActive s (coinInput c)) (s.reach t), ?_, (jamExpiry_same ..).same .now (by decide), hcoins,
      hcounters.trans (increment_counters_congr _ rfl), ?_⟩
    · rw [exec_jamTimerExpiry c hp, jamExpires, h]
    · exact (jamExpiry_same ..).after ((State.reach_same ..).mono (by decide)) (by decide)
  · obtain ⟨hcoins, hsame⟩ := jamExpiry_jammed (s := s.reach t) (inputActive s (coinInput c)) hst
    refine ⟨jamExpiry c (inputActive s (coinInput c)) (s.reach t), ?_, hsame.same .now (by decide), hcoins, ?_⟩
    · rw [exec_jamTimerExpiry c hp, jamExpires, h]
    · exact hsame.after ((State.reach_same ..).mono (by decide)) (by decide)
  · rw [exec_pulseOnExpiry n hp, pulseOnExpires, h]
    rfl
  · rw [exec_pulseGapExpiry n hp, pulseGapExpires, h]
    dsimp only
    rw [judgePulse, if_neg]
    · rfl
    · rw [mayPulse_iff]
      rintro ⟨-, hq, hcur, howner⟩
      rcases hno with h | h | h
      · exact hq h
      · exact h hcur
      · exact h howner
  · obtain ⟨-, hcoins, hcounters⟩ := judgePulse_starts (n := n) (s := (s.reach t).setGenerator n .idle)
      ((mayPulse_iff ..).2 ⟨Tab.at_put_self .., by
        change s.queue n ≠ []
        simp [hq], hcur, howner⟩) hq
    refine ⟨judgePulse n ((s.reach t).setGenerator n .idle), ?_, (judgePulse_same ..).same .now (by decide), ?_,
      hcounters.trans (increment_counters_congr _ rfl), ?_⟩
    · rw [exec_pulseGapExpiry n hp, pulseGapExpires, h]
    · rw [hcoins]
      simp only [pulseStarted, State.setGenerator, Tab.put_put, ms, Config.ticksPerMs, State.reach, Nat.mul_comm _ 27000]
      rfl
    · exact (judgePulse_same ..).after ((State.setGenerator_same ..).after ((State.reach_same ..).mono (by decide))
        (by decide)) (by decide)
  · rw [exec_meterOnExpiry m hp, meterOnExpires, h]
    rfl
  · rw [exec_meterOffExpiry m hp, meterOffExpires, h]
    dsimp only
    have hrecord : ((s.reach t).setMeter m { (s.reach t).meter m with driver := .idle }).meter m =
        { s.meter m with driver := .idle } := Tab.at_put_self ..
    rw [judgeMeter_none (by rw [hrecord, hz])]
    rfl
  · have hrecord : ((s.reach t).setMeter m { (s.reach t).meter m with driver := .idle }).meter m =
        { s.meter m with driver := .idle } := Tab.at_put_self ..
    have hexpires : meterOffExpires m s =
        judgeMeterFull ((s.reach t).setMeter m ⟨k, .on (max s.now t + 1620000)⟩) := by
      rw [meterOffExpires, h]
      dsimp only
      rw [judgeMeter, hrecord, hk]
      simp only [State.setMeter, Tab.put_put]
      rfl
    refine ⟨meterOffExpires m s, exec_meterOffExpiry m hp, ?_, ?_, ?_⟩ <;> rw [hexpires]
    · exact (judgeMeterFull_same _).same .now (by decide)
    · exact judgeMeterFull_coins _
    · exact (judgeMeterFull_same _).after ((State.setMeter_same ..).after ((State.reach_same ..).mono (by decide))
        (by decide)) (by decide)
  · intro r high
    refine ⟨?_, fun hsup => ?_, fun hsup => ⟨fun t gap hg => ?_, fun hg => ?_⟩, ?_⟩
    · rw [coilEngaged, bne_iff_ne, ne_eq]
      change ¬r = _ ↔ _
      obtain ⟨l, j, b, f, st⟩ := r
      cases l <;> cases j <;> cases b <;> cases f <;> cases st <;> simp [Reasons.clear]
    · rw [coinLine, if_neg (by simp [hsup])]
    · simp only [coinLine, hsup, hg, ↓reduceIte]
      rfl
    · rw [coinLine, if_pos hsup]
      dsimp only
      split
      · next line t gap hon => exact if_neg fun heq => hg t gap (by rw [hon, ← heq])
      · rfl
    · unfold meterOutput
      cases (s.meter m).driver <;> simp

/-! #### The state after reset -/

/-- Settles O53: each value read off the state after a reset with memory lost. -/
theorem resetLeavesTheStatedValues : Obligations.ResetLeavesTheStatedValues := by
  refine ⟨rfl, rfl, rfl, rfl, rfl, by decide, rfl, rfl, by decide, rfl, rfl, rfl, rfl, rfl, rfl, rfl, by decide, rfl,
    rfl, rfl, rfl, rfl, rfl, rfl, rfl, rfl, rfl, rfl, rfl, rfl, by decide, rfl, by decide, rfl, rfl⟩

theorem reset_slot (n : Slot) : State.reset.slot n = .initial false := Tab.at_all ..

/-- Settles O54: nothing is queued, posted, buffered, watched or owned yet, and every slot is EMPTY. -/
theorem invariantsHoldAtReset : Obligations.InvariantsHoldAtReset := by
  have hmoney : MoneySound State.reset := lost_moneySound rfl
  refine ⟨hmoney.1, hmoney.2, fun n => ?_, ⟨fun n => ?_, fun n => ?_, fun n => ?_, ?_, List.nodup_nil⟩, List.nodup_nil,
    Nat.zero_le _, fun b c => ?_, Unowned.ownerSound ⟨fun n h => ?_, rfl⟩, fun src => ?_, rfl⟩
  · rw [reset_slot]
    rfl
  · simp [reset_slot, SlotRecord.initial]
  · simp [reset_slot, SlotRecord.initial]
  · simp [reset_slot, SlotRecord.initial]
  · exact fun r hr => absurd hr List.not_mem_nil
  · have hfree : ∀ b : Fin 3, (State.reset.buffer b).state = .free := by decide
    simp [hfree]
  · nomatch h
  · have hmonitor : State.reset.monitor src = .initial (decide (src = 8)) := by
      change Monitor.initialAll.at src = _
      rw [Monitor.initialAll, Tab.at_put]
      split <;> simp_all
    rw [hmonitor]
    exact Monitor.initial_sound _

end Sys2Proof.Machine

/-! ### The rules of the coin unit's judgements and returns, and power-up reset (O51) -/

namespace Sys2Proof.Machine

/-! #### What an operation posts -/

/-- Of the link `t` differs from `s` by events taken into the notice table alone, all of the kinds listed. -/
def Posts (kinds : List (Fin 11)) (s t : State) : Prop :=
  ∃ ns : List Notice, (∀ n ∈ ns, n.kind ∈ kinds) ∧
    t.link = { s.link with notices := ns.foldl (fun l n => tableWith n l) s.link.notices }

theorem Posts.of_eq {kinds : List (Fin 11)} {s t : State} (h : t.link = s.link) : Posts kinds s t :=
  ⟨[], by simp, by rw [h]; rfl⟩

theorem Posts.refl (kinds : List (Fin 11)) (s : State) : Posts kinds s s := .of_eq rfl

theorem Posts.trans {kinds : List (Fin 11)} {s t u : State} (h : Posts kinds s t) (h' : Posts kinds t u) :
    Posts kinds s u := by
  obtain ⟨ns, hns, ht⟩ := h
  obtain ⟨ms, hms, hu⟩ := h'
  refine ⟨ns ++ ms, fun n hn => ?_, by rw [hu, ht, List.foldl_append]⟩
  rcases List.mem_append.1 hn with hn | hn
  · exact hns n hn
  · exact hms n hn

theorem Posts.mono {kinds kinds' : List (Fin 11)} {s t : State} (h : Posts kinds s t) (hk : kinds ⊆ kinds') :
    Posts kinds' s t := by
  obtain ⟨ns, hns, ht⟩ := h
  exact ⟨ns, fun n hn => hk (hns n hn), ht⟩

theorem Posts.forAll {kinds : List (Fin 11)} {α : Type} {f : α → State → State} (hf : ∀ a u, Posts kinds u (f a u))
    (l : List α) (s : State) : Posts kinds s (forAll l f s) := by
  induction l generalizing s with
  | nil => exact .refl _ s
  | cons a l ih => exact (hf a s).trans (ih (f a s))

theorem post_posts {kinds : List (Fin 11)} {n : Notice} (hn : n.kind ∈ kinds) (s : State) : Posts kinds s (post n s) := by
  unfold post
  split
  · exact ⟨[n], by simpa using hn, rfl⟩
  · exact .refl _ s

theorem Posts.linkKept {kinds : List (Fin 11)} {s t : State} (h : Posts kinds s t) : LinkKept s t := by
  obtain ⟨ns, -, ht⟩ := h
  rw [LinkKept, ht]

/-- An entry of another kind stays as it is. -/
theorem Posts.keeps {kinds : List (Fin 11)} {s t : State} (h : Posts kinds s t) {e : Entry} (he : e ∈ s.link.notices)
    (hk : e.notice.kind ∉ kinds) : e ∈ t.link.notices := by
  obtain ⟨ns, hns, ht⟩ := h
  rw [ht]
  dsimp only
  clear ht
  generalize s.link.notices = l at he
  induction ns generalizing l with
  | nil => exact he
  | cons n ns ih =>
    refine ih (fun m hm => hns m (List.mem_cons_of_mem _ hm)) _ (tableWith_keeps he fun hkey => hk ?_)
    rw [show e.notice.kind = n.kind from congrArg Prod.fst hkey]
    exact hns n List.mem_cons_self

/-- The oldest entry keeps its place when it is of another kind. -/
theorem Posts.keeps_head {kinds : List (Fin 11)} {s t : State} (h : Posts kinds s t) {e : Entry} {rest : List Entry}
    (he : s.link.notices = e :: rest) (hk : e.notice.kind ∉ kinds) : ∃ rest, t.link.notices = e :: rest := by
  obtain ⟨ns, hns, ht⟩ := h
  rw [ht, he]
  dsimp only
  clear he ht
  induction ns generalizing rest with
  | nil => exact ⟨rest, rfl⟩
  | cons n ns ih =>
    have hkey : e.notice.key ≠ n.key := fun hkey => hk (by
      rw [show e.notice.kind = n.kind from congrArg Prod.fst hkey]
      exact hns n List.mem_cons_self)
    rw [List.foldl_cons, tableWith, if_neg hkey]
    exact ih fun m hm => hns m (List.mem_cons_of_mem _ hm)

/-- The kind of the COIN notices, of a chute and of the bank. -/
def coinKinds : List (Fin 11) := [5]

theorem postChute_posts (c : Chute) (ev : ChuteEvent) (s : State) : Posts coinKinds s (postChute c ev s) :=
  post_posts (kinds := coinKinds) (List.mem_cons_self (l := [])) s

theorem postBank_posts (ev : BankEvent) (s : State) : Posts coinKinds s (postBank ev s) :=
  post_posts (kinds := coinKinds) (List.mem_cons_self (l := [])) s

theorem setReasons_posts_coin (c : Chute) (r : Reasons) (s : State) : Posts coinKinds s (setReasons c r s) := by
  unfold setReasons
  split
  · exact .refl _ s
  · exact (Posts.of_eq (State.setChute_link ..)).trans (postChute_posts ..)

theorem judgeTogether_posts (f : Chute → State → Reasons) (s : State) : Posts coinKinds s (judgeTogether f s) := by
  have hall : Posts coinKinds s (forAll allFour (fun c s => setReasons c (f c s) s) s) :=
    .forAll (fun _ _ => setReasons_posts_coin ..) ..
  unfold judgeTogether
  dsimp only
  split
  · exact hall.trans (postBank_posts ..)
  · exact hall

theorem addUnits_posts (n : Nat) (s : State) : Posts coinKinds s (addUnits n s) := by
  have hjudge : Posts coinKinds s (if n = 0 then unitsAdded n s else judgeBankLimit (unitsAdded n s)) := by
    split
    · exact .of_eq rfl
    · exact (Posts.of_eq rfl).trans (judgeTogether_posts _ (unitsAdded n s))
  unfold addUnits
  dsimp only
  split
  · exact hjudge.trans (postBank_posts ..)
  · exact hjudge

theorem returnQueue_posts (n : Slot) (s : State) : Posts coinKinds s (returnQueue n s) := by
  unfold returnQueue
  split
  · exact .refl _ s
  · exact ((Posts.of_eq rfl).trans (addUnits_posts _ (s.setQueue n []))).trans (postBank_posts ..)

theorem judgeMeter_posts (m : Meter) (s : State) : Posts coinKinds s (judgeMeter m s) := by
  unfold judgeMeter
  split
  · exact (Posts.of_eq rfl).trans (.forAll (fun _ _ => setReasons_posts_coin ..) ..)
  · exact .refl _ s

/-! #### Reasons judged for several chutes -/

/-- A chute's record with the reasons `f` judges of it. -/
def judgedBy (f : Chute → State → Reasons) (s : State) (c : Chute) : ChuteRecord := { s.chute c with reasons := f c s }

/-- A judgement that one chute's judgement leaves as it was, taken for a list of chutes, touches the chutes of the list
alone. -/
theorem forAll_setReasons_coins {f : Chute → State → Reasons}
    (hf : ∀ c d s, judgedBy f (setReasons c (f c s) s) d = judgedBy f s d) (l : List Chute) (s : State) :
    (forAll l (fun c s => setReasons c (f c s) s) s).coins =
      { s.coins with chutes := Vector.ofFn fun c => if c ∈ l then judgedBy f s c else s.chute c } := by
  induction l generalizing s with
  | nil =>
    refine congrArg (fun v => { s.coins with chutes := v }) (Tab.ext_at fun c => ?_)
    simp [forAll, State.chute]
  | cons c l ih =>
    rw [forAll, List.foldl_cons]
    refine (ih _).trans ?_
    rw [setReasons_coins]
    refine congrArg (fun v => { s.coins with chutes := v }) (Tab.ext_at fun d => ?_)
    simp only [Tab.at_ofFn, hf, setReasons_chute, List.mem_cons]
    by_cases hd : d = c
    · subst hd
      simp [judgedBy]
    · simp [hd]

theorem mem_allFour (c : Chute) : c ∈ allFour := by
  revert c
  decide

theorem judgeTogether_coins {f : Chute → State → Reasons}
    (hf : ∀ c d s, judgedBy f (setReasons c (f c s) s) d = judgedBy f s d) (s : State) :
    (judgeTogether f s).coins = { s.coins with chutes := Vector.ofFn (judgedBy f s) } := by
  have hjudged := forAll_setReasons_coins hf allFour s
  simp only [mem_allFour, ↓reduceIte] at hjudged
  unfold judgeTogether
  dsimp only
  split
  · exact ((postBank_same ..).same .coins (by decide)).trans hjudged
  · exact hjudged

theorem meterFull_setReasons (c d : Chute) (r : Reasons) (s : State) : meterFull d (setReasons c r s) = meterFull d s := by
  have hprofiles : (setReasons c r s).profiles = s.profiles := (setReasons_same c r s).same .profiles (by decide)
  rw [meterFull, meterFull, State.cabinet, State.cabinet, hprofiles]
  split
  · rfl
  · rw [State.meter, setReasons_coins]
    rfl

theorem judgeMeterFull_chutes (s : State) :
    (judgeMeterFull s).coins = { s.coins with
      chutes := Vector.ofFn (judgedBy (fun c s => { (s.chute c).reasons with meterFull := meterFull c s }) s) } := by
  have hjudged := forAll_setReasons_coins (f := fun c s => { (s.chute c).reasons with meterFull := meterFull c s })
    (fun c d s => by
      simp only [judgedBy, meterFull_setReasons, setReasons_chute]
      split
      · next h =>
        subst h
        rfl
      · rfl) allFour s
  simp only [mem_allFour, ↓reduceIte] at hjudged
  exact hjudged

/-- BANK_LIMIT and METER_FULL judged are judged for all four chutes, and change nothing else of the coin unit. -/
theorem judgeSettings_coins (s : State) :
    (judgeSettings s).coins = { s.coins with
      chutes := Vector.ofFn
        (judgedBy (fun c s => { (s.chute c).reasons with bankLimit := bankAtLimit s, meterFull := meterFull c s }) s) } :=
  judgeTogether_coins (fun c d s => by
    simp only [judgedBy, meterFull_setReasons, bankAtLimit_setReasons, setReasons_chute]
    split
    · next h =>
      subst h
      rfl
    · rfl) s

/-! #### A queue returned, and a meter's tick -/

/-- Every chute has its power-up state with the reasons as they are judged now (R157). -/
def StartJudged (s : State) : Prop := ∀ c, s.chute c = .initial (startReasons c s)

/-- What a return does to the coin unit: the slot's queue joins the bank as far as there is room (R165). -/
theorem returnQueue_spec (n : Slot) (s : State) :
    let k := (s.queue n).length
    let u := returnQueue n s
    (u.coins.bank = s.coins.bank + min k (65535 - s.coins.bank) ∧
      u.coins.drained = s.coins.drained + BitVec.ofNat 32 (k - min k (65535 - s.coins.bank)) ∧
      u.coins.queues = s.coins.queues.put n []) ∧
    (u.coins.accepted = s.coins.accepted ∧ u.coins.delivered = s.coins.delivered ∧
      u.coins.startup = s.coins.startup ∧ u.coins.generators = s.coins.generators ∧ u.coins.meters = s.coins.meters) ∧
    (StartJudged s → StartJudged u) := by
  intro k u
  have hprofiles : u.profiles = s.profiles := (returnQueue_same n s).same .profiles (by decide)
  rcases hq : s.queue n with _ | ⟨line, rest⟩
  · have hu : u = s := by
      change returnQueue n s = s
      rw [returnQueue, hq]
      rfl
    have hk : k = 0 := by simp [k, hq]
    rw [hu, hk]
    refine ⟨⟨by simp, by simp, ?_⟩, ⟨rfl, rfl, rfl, rfl, rfl⟩, id⟩
    rw [← hq]
    exact (Tab.put_at ..).symm
  · have hk : k = rest.length + 1 := by simp [k, hq]
    have hcoins : u.coins =
        { (unitsAdded k (s.setQueue n [])).coins with
          chutes := Vector.ofFn (limitJudged (unitsAdded k (s.setQueue n []))) } := by
      change (returnQueue n s).coins = _
      rw [returnQueue, hq]
      refine ((postBank_same ..).same .coins (by decide)).trans ?_
      rw [hk, ← judgeBankLimit_coins, addUnits]
      dsimp only
      split
      · exact (postBank_same ..).same .coins (by decide)
      · rfl
    refine ⟨?_, ?_, fun h c => ?_⟩
    · rw [hcoins]
      exact ⟨rfl, rfl, rfl⟩
    · rw [hcoins]
      exact ⟨rfl, rfl, rfl, rfl, rfl⟩
    · have hc : s.chute c = .initial (startReasons c s) := h c
      have hbank : bankAtLimit u = bankAtLimit (unitsAdded k (s.setQueue n [])) := by
        rw [bankAtLimit, hcoins, State.cabinet, hprofiles]
        rfl
      have hfull : meterFull c u = meterFull c s := by
        rw [meterFull, meterFull, State.cabinet, hprofiles, State.cabinet]
        split
        · rfl
        · rw [State.meter, hcoins]
          rfl
      rw [startReasons, hbank, hfull, State.chute, hcoins]
      have hchute : (unitsAdded k (s.setQueue n [])).chute c = s.chute c := rfl
      simp only [Tab.at_ofFn, limitJudged, hchute, hc]
      rfl

/-- What a meter's judgement leaves of the coin unit (R173). -/
theorem judgeMeter_spec (m : Meter) (s : State) :
    let u := judgeMeter m s
    (u.coins.bank = s.coins.bank ∧ u.coins.drained = s.coins.drained ∧ u.coins.queues = s.coins.queues) ∧
    (u.coins.accepted = s.coins.accepted ∧ u.coins.delivered = s.coins.delivered ∧
      u.coins.startup = s.coins.startup ∧ u.coins.generators = s.coins.generators) ∧
    (StartJudged s → StartJudged u) ∧ (∀ l, l ≠ m → u.meter l = s.meter l) ∧
    ((s.meter m).driver = .idle → u.meter m = match (s.meter m).owed with
      | 0 => ⟨0, .idle⟩
      | k + 1 => ⟨k, .on (s.now + 1620000)⟩) := by
  intro u
  have hprofiles : u.profiles = s.profiles := (judgeMeter_same m s).same .profiles (by decide)
  by_cases hticks : (s.meter m).driver = .idle ∧ (s.meter m).owed ≠ 0
  · obtain ⟨hidle, hne⟩ := hticks
    obtain ⟨k, hk⟩ := Nat.exists_eq_succ_of_ne_zero hne
    have hu : u = judgeMeterFull (s.setMeter m ⟨k, .on (s.now + ms 60)⟩) := by
      change judgeMeter m s = _
      rw [judgeMeter, hidle, hk]
    have hcoins : u.coins = _ := (congrArg State.coins hu).trans (judgeMeterFull_chutes _)
    refine ⟨by rw [hcoins]; exact ⟨rfl, rfl, rfl⟩, by rw [hcoins]; exact ⟨rfl, rfl, rfl, rfl⟩, fun h c => ?_,
      fun l hl => ?_, fun _ => ?_⟩
    · have hc : s.chute c = .initial (startReasons c s) := h c
      have hbank : bankAtLimit u = bankAtLimit s := by
        rw [bankAtLimit, hcoins, State.cabinet, hprofiles]
        rfl
      have hfull : meterFull c u = meterFull c (s.setMeter m ⟨k, .on (s.now + ms 60)⟩) := by
        rw [meterFull, State.cabinet, hprofiles, meterFull]
        change (match s.cabinet.chuteMeter.at c with
          | none => false
          | some m => decide (240 ≤ (u.meter m).owed)) = match s.cabinet.chuteMeter.at c with
          | none => false
          | some l => decide (240 ≤ ((s.setMeter m ⟨k, .on (s.now + ms 60)⟩).meter l).owed)
        split
        · rfl
        · rw [State.meter, hcoins]
          rfl
      rw [startReasons, hbank, hfull, State.chute, hcoins]
      have hchute : (s.setMeter m ⟨k, .on (s.now + ms 60)⟩).chute c = s.chute c := rfl
      simp only [Tab.at_ofFn, judgedBy, hchute, hc]
      rfl
    · rw [State.meter, hcoins]
      exact (Tab.at_put ..).trans (if_neg hl)
    · rw [State.meter, hcoins, hk]
      exact Tab.at_put_self ..
  · have hu : u = s := by
      change judgeMeter m s = s
      unfold judgeMeter
      split
      · next k hidle hk => exact absurd ⟨hidle, by rw [hk]; exact Nat.succ_ne_zero _⟩ hticks
      · rfl
    rw [hu]
    refine ⟨⟨rfl, rfl, rfl⟩, ⟨rfl, rfl, rfl, rfl⟩, id, fun _ _ => rfl, fun hidle => ?_⟩
    have hz : (s.meter m).owed = 0 := by
      by_contra hne
      exact hticks ⟨hidle, hne⟩
    rw [hz]
    generalize s.meter m = r at *
    obtain ⟨o, d⟩ := r
    dsimp only at hidle hz
    rw [hidle, hz]

end Sys2Proof.Machine

/-! #### Power-up reset (O51) -/

namespace Sys2Proof.Machine

theorem StartJudged.congr {s t : State} (hc : t.coins = s.coins) (hp : t.profiles = s.profiles) (h : StartJudged s) :
    StartJudged t := by
  intro c
  have := h c
  simp only [State.chute, startReasons, bankAtLimit, meterFull, State.cabinet, State.meter, hc, hp] at this ⊢
  exact this

/-- What a coin item keeps while queues are returned. -/
def Coins.items (c : Coins) : Word32 × Word32 × Bool × Tab Generator 8 × Tab MeterRecord 4 :=
  (c.accepted, c.delivered, c.startup, c.generators, c.meters)

/-- The queues of a list of slots returned, where the bank has room for them all. -/
theorem forAll_returnQueue (l : List Slot) (hl : l.Nodup) (s : State)
    (hroom : s.coins.bank + (l.map fun n => (s.queue n).length).sum ≤ 65535) :
    let u := forAll l returnQueue s
    u.coins.bank = s.coins.bank + (l.map fun n => (s.queue n).length).sum ∧ u.coins.drained = s.coins.drained := by
  induction l generalizing s with
  | nil => exact ⟨rfl, rfl⟩
  | cons n l ih =>
    obtain ⟨hn, hl⟩ := List.nodup_cons.1 hl
    obtain ⟨⟨hbank, hdrained, hqueues⟩, -, -⟩ := returnQueue_spec n s
    simp only [List.map_cons, List.sum_cons] at hroom ⊢
    have hothers : (l.map fun m => ((returnQueue n s).queue m).length) = l.map fun m => (s.queue m).length := by
      refine List.map_congr_left fun m hm => ?_
      have hne : m ≠ n := fun heq => hn (heq ▸ hm)
      rw [State.queue, hqueues, Tab.at_put, if_neg hne]
      rfl
    have hmin : min (s.queue n).length (65535 - s.coins.bank) = (s.queue n).length := by omega
    rw [hmin] at hbank hdrained
    obtain ⟨hb, hd⟩ := ih hl (returnQueue n s) (by rw [hothers, hbank]; omega)
    refine ⟨hb.trans (by rw [hothers, hbank]; omega), hd.trans (by rw [hdrained]; simp)⟩

/-- The queues of a list of slots returned: what it leaves of the coin unit, and the queues empty. -/
theorem forAll_returnQueue_keeps (l : List Slot) (s : State) :
    let u := forAll l returnQueue s
    u.coins.items = s.coins.items ∧ (∀ n, n ∈ l ∨ s.queue n = [] → u.queue n = []) ∧ (StartJudged s → StartJudged u) := by
  induction l generalizing s with
  | nil => exact ⟨rfl, fun n h => h.resolve_left List.not_mem_nil, id⟩
  | cons n l ih =>
    obtain ⟨⟨-, -, hqueues⟩, ⟨ha, hd, hst, hg, hm⟩, hjudged⟩ := returnQueue_spec n s
    obtain ⟨hitems, hempty, hjudged'⟩ := ih (returnQueue n s)
    refine ⟨hitems.trans (by simp only [Coins.items, ha, hd, hst, hg, hm]), fun m hm => hempty m ?_, hjudged' ∘ hjudged⟩
    by_cases hmn : m = n
    · refine .inr ?_
      rw [hmn, State.queue, hqueues]
      exact Tab.at_put_self ..
    · refine (hm.imp (fun h => (List.mem_cons.1 h).resolve_left hmn) fun h => ?_)
      rw [State.queue, hqueues, Tab.at_put, if_neg hmn]
      exact h

/-- What a coin item keeps while meters are judged. -/
def Coins.counts (c : Coins) : Nat × Word32 × Word32 × Word32 × Tab (List CoinLine) 8 × Bool × Tab Generator 8 :=
  (c.bank, c.accepted, c.delivered, c.drained, c.queues, c.startup, c.generators)

/-- A meter as its judgement leaves it, when its driver is IDLE (R173). -/
def ticked (now : Nat) (m : MeterRecord) : MeterRecord :=
  match m.owed with
  | 0 => ⟨0, .idle⟩
  | k + 1 => ⟨k, .on (now + 1620000)⟩

/-- The meters of a list judged, their drivers IDLE. -/
theorem forAll_judgeMeter (l : List Meter) (hl : l.Nodup) (s : State) (hidle : ∀ m ∈ l, (s.meter m).driver = .idle) :
    let u := forAll l judgeMeter s
    u.coins.counts = s.coins.counts ∧ (∀ m ∈ l, u.meter m = ticked s.now (s.meter m)) ∧
      (∀ m, m ∉ l → u.meter m = s.meter m) ∧ (StartJudged s → StartJudged u) := by
  induction l generalizing s with
  | nil => exact ⟨rfl, by simp, fun _ _ => rfl, id⟩
  | cons m l ih =>
    obtain ⟨hm, hl⟩ := List.nodup_cons.1 hl
    obtain ⟨⟨hb, hdr, hq⟩, ⟨ha, hde, hst, hg⟩, hjudged, hother, hself⟩ := judgeMeter_spec m s
    have hne (k : Meter) (hk : k ∈ l) : (judgeMeter m s).meter k = s.meter k := hother k fun heq => hm (heq ▸ hk)
    have hnow : (judgeMeter m s).now = s.now := (judgeMeter_same ..).same .now (by decide)
    obtain ⟨hcounts, hin, hout, hjudged'⟩ := ih hl (judgeMeter m s) fun k hk => by
      rw [hne k hk]
      exact hidle k (List.mem_cons_of_mem _ hk)
    refine ⟨hcounts.trans (by simp only [Coins.counts, hb, hdr, hq, ha, hde, hst, hg]), fun k hk => ?_, fun k hk => ?_,
      hjudged' ∘ hjudged⟩
    · rcases List.mem_cons.1 hk with rfl | hk
      · exact (hout k hm).trans (hself (hidle k List.mem_cons_self))
      · exact (hin k hk).trans (by rw [hne k hk, hnow])
    · rw [List.mem_cons, not_or] at hk
      exact (hout k hk.2).trans (hother k hk.1)

/-! #### The blocks after power-up reset -/

/-- The part with power applied, before the queues are returned and the meters judged. -/
def startedBlocks (kept : Bool) (s : State) : State := post (.ready false kept) (setStartReasons (powerUpBlocks kept s))

theorem startUp_eq (kept : Bool) (s : State) :
    startUp kept s = forAll allFour judgeMeter (forAll allSlots returnQueue (startedBlocks kept s)) := rfl

theorem startedBlocks_same (kept : Bool) (s : State) :
    SameOutside [.link, .coins] (powerUpBlocks kept s) (startedBlocks kept s) :=
  (post_same ..).after (.with_coins (.refl _ _) (by decide)) (by decide)

theorem startedBlocks_coins (kept : Bool) (s : State) :
    (startedBlocks kept s).coins = (setStartReasons (powerUpBlocks kept s)).coins :=
  (post_same ..).same .coins (by decide)

theorem startUp_after (kept : Bool) (s : State) : SameOutside [.link, .coins] (powerUpBlocks kept s) (startUp kept s) := by
  rw [startUp_eq]
  exact (SameOutside.forAll (.refl _ _) fun m t => judgeMeter_same ..).after
    ((SameOutside.forAll (.refl _ _) fun n t => returnQueue_same ..).after (startedBlocks_same kept s) (by decide))
    (by decide)

theorem startUp_posts (kept : Bool) (s : State) : Posts coinKinds (startedBlocks kept s) (startUp kept s) := by
  rw [startUp_eq]
  exact (Posts.forAll (fun _ _ => returnQueue_posts ..) ..).trans (.forAll (fun _ _ => judgeMeter_posts ..) ..)

theorem startedBlocks_judged (kept : Bool) (s : State) : StartJudged (startedBlocks kept s) := by
  refine StartJudged.congr (startedBlocks_coins kept s) ((post_same ..).same .profiles (by decide)) fun c => ?_
  exact Tab.at_ofFn ..

theorem mem_allSlots (n : Slot) : n ∈ allSlots := by
  revert n
  decide

/-- The coin unit after power-up: every queue is empty, the owed ticks are begun, and the reasons are judged (R157). -/
theorem startUp_coins (kept : Bool) (s : State) (hidle : ∀ m, ((powerUpBlocks kept s).meter m).driver = .idle) :
    let b := powerUpBlocks kept s
    let u := startUp kept s
    (StartJudged u ∧ (∀ n, u.queue n = []) ∧ ∀ m, u.meter m = ticked s.now (b.meter m)) ∧
      (u.coins.accepted = b.coins.accepted ∧ u.coins.delivered = b.coins.delivered ∧
        u.coins.startup = b.coins.startup ∧ u.coins.generators = b.coins.generators) ∧
      (b.coins.bank + queuedUnits b ≤ 65535 →
        u.coins.bank = b.coins.bank + queuedUnits b ∧ u.coins.drained = b.coins.drained) := by
  intro b u
  have hcoins := startedBlocks_coins kept s
  have hu : u = forAll allFour judgeMeter (forAll allSlots returnQueue (startedBlocks kept s)) := startUp_eq kept s
  obtain ⟨hitems, hempty, hreturned⟩ := forAll_returnQueue_keeps allSlots (startedBlocks kept s)
  have hbank := forAll_returnQueue allSlots (by decide) (startedBlocks kept s)
  have hnow : (forAll allSlots returnQueue (startedBlocks kept s)).now = s.now :=
    ((SameOutside.forAll (startedBlocks_same kept s) fun n t => returnQueue_same n t).same .now (by decide))
  generalize forAll allSlots returnQueue (startedBlocks kept s) = q at *
  have hqueue (n : Slot) : (startedBlocks kept s).queue n = b.queue n := by
    rw [State.queue, hcoins]
    rfl
  obtain ⟨hacc, hdel, hstart, hgen, hmet⟩ : q.coins.accepted = b.coins.accepted ∧ q.coins.delivered = b.coins.delivered ∧
      q.coins.startup = b.coins.startup ∧ q.coins.generators = b.coins.generators ∧ q.coins.meters = b.coins.meters := by
    simpa [Coins.items, hcoins, setStartReasons, b] using hitems
  have hmeter (m : Meter) : q.meter m = b.meter m := congrArg (fun v => Tab.at v m) hmet
  obtain ⟨hcounts, hin, -, hticked⟩ := forAll_judgeMeter allFour (by decide) q fun m _ => by
    rw [hmeter]
    exact hidle m
  rw [← hu] at hcounts hin hticked
  simp only [Coins.counts, Prod.mk.injEq] at hcounts
  obtain ⟨hb, ha, hde, hdr, hq, hst, hg⟩ := hcounts
  refine ⟨⟨hticked (hreturned (startedBlocks_judged kept s)), fun n => ?_, fun m => ?_⟩,
    ⟨ha.trans hacc, hde.trans hdel, hst.trans hstart, hg.trans hgen⟩, fun hroom => ?_⟩
  · rw [State.queue, hq]
    exact hempty n (.inl (mem_allSlots n))
  · rw [hin m (mem_allFour m), hmeter, hnow]
  · rw [hb, hdr]
    simp only [hqueue, hcoins] at hbank
    exact hbank hroom

theorem request_unpowered {s : State} (h : s.powered = false) (dt : Nat) (kind tag : Byte) (p : List Byte)
    (check : State → List Byte → Option Result) (block : State → List Byte → State × Option Answer) :
    request dt kind tag p check block s = .next s := by
  simp [request, event, whenPowered, h]

theorem factoryCabinet_meter (c : Chute) : factoryCabinet.chuteMeter.at c = some c := by
  revert c
  decide

/-- What power-up makes of the coins (R157, R187). -/
theorem powerUpBlocks_meter (kept : Bool) (s : State) (m : Meter) :
    (powerUpBlocks kept s).meter m = ⟨if kept then (s.meter m).owed else 0, .idle⟩ := by
  cases kept
  · exact Tab.at_all ..
  · exact Tab.at_ofFn ..

theorem powerUpBlocks_kept (s : State) :
    (powerUpBlocks true s).coins.bank = s.coins.bank ∧ queuedUnits (powerUpBlocks true s) = queuedUnits s := ⟨rfl, rfl⟩

theorem queuedUnits_lost (s : State) : queuedUnits (powerUpBlocks false s) = 0 := by
  simp only [queuedUnits, State.queue, powerUpBlocks, Coins.lost, Bool.false_eq_true, ↓reduceIte, Tab.at_all]
  decide

theorem startUp_ready {kept : Bool} {s : State} (h : (powerUpBlocks kept s).link.mask.at 10 = true) :
    ∃ rest, (startUp kept s).link.notices = ⟨1, .ready false kept⟩ :: rest := by
  refine (startUp_posts kept s).keeps_head (e := ⟨1, .ready false kept⟩) (rest := []) ?_ (by
    change (10 : Fin 11) ∉ coinKinds
    decide)
  have hm : (setStartReasons (powerUpBlocks kept s)).link.mask.at (Notice.ready false kept).kind = true := h
  rw [startedBlocks, post, if_pos hm]
  rfl

/-- A chute's record after power-up, its reasons read off the bank and the meters (R157, R160). -/
theorem StartJudged.chute {s : State} (h : StartJudged s) (hw : s.profiles.working = factoryWorking) (c : Chute) :
    s.chute c = ⟨.ready, none, false, ⟨false, false, decide (factoryCabinet.bankLimit ≤ s.coins.bank),
      decide (240 ≤ (s.meter c).owed), true⟩⟩ := by
  have hcabinet : s.cabinet = factoryCabinet := by
    rw [State.cabinet, hw]
    rfl
  rw [h c]
  simp only [startReasons, bankAtLimit, meterFull, hcabinet, factoryCabinet_meter, ChuteRecord.initial, Reasons.clear]

/-- Settles O51: the blocks of power-up, which the returns and the meters' ticks leave alone beside the link and the
coins. -/
theorem powerUpKeepsTheRetainedItems : Obligations.PowerUpKeepsTheRetainedItems := by
  intro dt kept s
  have habandon : SameOutside [.now, .profiles, .free] s (abandonSave (s.tick dt)) :=
    (abandonSave_same _).after ((State.tick_same ..).mono (by decide)) (by decide)
  have hnow : (abandonSave (s.tick dt)).now = s.now + dt := (abandonSave_same (s.tick dt)).same .now (by decide)
  have hstore (h : s.profiles.saving = none) : (abandonSave (s.tick dt)).profiles.store = s.profiles.store := by
    rw [abandonSave, show (s.tick dt).profiles.saving = none from h]
    rfl
  have hcounters := habandon.same .counters (by decide)
  have hlink := habandon.same .link (by decide)
  have hslots := habandon.same .slots (by decide)
  have hadapters := habandon.same .adapters (by decide)
  have hrouter := habandon.same .router (by decide)
  have hcoins := habandon.same .coins (by decide)
  have hpending := habandon.same .pending (by decide)
  simp only [Block.same] at hcounters hlink hslots hadapters hrouter hcoins hpending
  refine ⟨⟨powerUp kept (s.tick dt), rfl, ?_⟩, fun hp => ?_, fun hp => ?_⟩
  · rw [powerUp]
    generalize abandonSave (s.tick dt) = a at *
    have hafter := startUp_after kept a
    have hkept : LinkKept (powerUpBlocks kept a) (startUp kept a) :=
      (post_linkKept (.ready false kept) (setStartReasons (powerUpBlocks kept a))).trans (startUp_posts kept a).linkKept
    have hready := startUp_ready (kept := kept) (s := a)
    obtain ⟨⟨hjudged, hqueue, hmeter⟩, ⟨hacc, hdel, hstart, hgen⟩, hbank⟩ :=
      startUp_coins kept a fun m => by rw [powerUpBlocks_meter]
    have hprofiles := hafter.same .profiles (by decide)
    have hslot (n : Slot) : (startUp kept a).slot n = .initial (s.slot n).powerGood := by
      rw [State.slot, show (startUp kept a).slots = _ from hafter.same .slots (by decide)]
      refine (powerUpBlocks_slot kept a n).trans ?_
      rw [State.slot, hslots]
      rfl
    have hadapter (n : Slot) : (startUp kept a).adapter n = pluggedAdapter (s.adapter n).own := by
      rw [State.adapter, show (startUp kept a).adapters = _ from hafter.same .adapters (by decide)]
      refine (Tab.at_ofFn ..).trans ?_
      rw [Adapter.powered, State.adapter, hadapters]
      rfl
    have hmask : (startUp kept a).link.mask = (powerUpBlocks kept a).link.mask := by rw [hkept]
    have hrouted : (startUp kept a).router = .initial (s.now + dt) s.router.raw := by
      rw [show (startUp kept a).router = _ from hafter.same .router (by decide), ← hnow, ← hrouter]
      rfl
    have howed (m : Meter) : (a.meter m).owed = (s.meter m).owed := by rw [State.meter, hcoins]; rfl
    simp only [Block.same] at hprofiles
    generalize startUp kept a = u at *
    refine ⟨hafter.same .powered (by decide), (hafter.same .now (by decide)).trans hnow,
      (hafter.same .counters (by decide)).trans ?_, ?_, ?_, ?_, ?_, ?_, ?_, ?_, ?_, fun hm => hready (by rwa [← hmask]),
      hslot, fun n => ?_, hafter.same .monitors (by decide), hafter.same .co (by decide), hafter.same .frame (by decide),
      hafter.same .pic (by decide), hafter.same .snd (by decide), (hafter.same .bus (by decide)).trans ?_,
      (hafter.same .out (by decide)).trans ?_, ?_, fun i => ?_, fun c => ?_, fun n => ⟨hqueue n, ?_⟩,
      ?_, fun hk => ?_, fun hk hroom => ?_, fun hk => ?_, fun hk m hz => ?_, fun hk m k hm => ?_, ?_, ?_, ?_, ?_, fun h => ?_,
      (hafter.same .pending (by decide)).trans hpending⟩
    · rw [← hcounters]
      rfl
    · rw [hkept, ← hlink]
      rfl
    · rw [hkept]
      rfl
    · rw [hkept]
      rfl
    · rw [hkept]
      rfl
    · rw [hkept]
      rfl
    · rw [hkept]
      rfl
    · rw [hkept]
      rfl
    · rw [hkept]
      rfl
    · rw [hadapter n]
      exact ⟨rfl, rfl, fun c h3 h6 => pluggedAdapter_dip ⟨h3, h6⟩ _, fun h p hp => pluggedAdapter_own h hp,
        fun c hc => pluggedAdapter_other hc⟩
    · exact congrArg Bus.initial hnow
    · exact congrArg Output.initial hnow
    · rw [hrouted]
      rfl
    · rw [hrouted]
      exact Tab.at_ofFn ..
    · rw [hjudged.chute (by rw [hprofiles]; rfl) c]
      exact ⟨rfl, rfl, rfl, rfl⟩
    · rw [State.generator, hgen]
      cases kept <;> exact Tab.at_all ..
    · rw [hstart]
      cases kept <;> rfl
    · subst hk
      rw [hacc, hdel, ← hcoins]
      exact ⟨rfl, rfl⟩
    · subst hk
      have hsum : queuedUnits a = queuedUnits s := by simp only [queuedUnits, State.queue, hcoins]
      obtain ⟨hb, hd⟩ := hbank (by rw [(powerUpBlocks_kept a).1, (powerUpBlocks_kept a).2, hsum, hcoins]; exact hroom)
      rw [hb, hd, (powerUpBlocks_kept a).1, (powerUpBlocks_kept a).2, hsum, hcoins]
      exact ⟨rfl, (congrArg Coins.drained hcoins :)⟩
    · subst hk
      obtain ⟨hb, hd⟩ := hbank (by rw [queuedUnits_lost]; exact Nat.zero_le _)
      refine ⟨hb.trans ?_, hacc, hdel, hd, fun m => ?_⟩
      · rw [queuedUnits_lost]
        rfl
      · rw [hmeter m, powerUpBlocks_meter]
        rfl
    · rw [hmeter m, powerUpBlocks_meter, hk, if_pos rfl, howed, hz]
      rfl
    · rw [hmeter m, powerUpBlocks_meter, hk, if_pos rfl, howed, hm, ← hnow]
      rfl
    · rw [hprofiles]
      rfl
    · rw [hprofiles]
      rfl
    · rw [hprofiles]
      rfl
    · rw [hprofiles]
      rfl
    · rw [hprofiles]
      exact hstore h
  · refine ⟨losePower (s.tick dt), by simp only [exec, execPowerLoss, whenPowered, hp, ↓reduceIte], ?_⟩
    rw [losePower]
    generalize abandonSave (s.tick dt) = a at *
    refine ⟨rfl, hcounters, (congrArg Link.maskDefault hlink :), (congrArg Coins.bank hcoins :), (congrArg Coins.queues hcoins :),
      (congrArg Coins.accepted hcoins :), (congrArg Coins.delivered hcoins :), (congrArg Coins.drained hcoins :), fun m => ?_, hstore,
      fun c dt' kind tag p hc => ?_⟩
    · refine (congrArg MeterRecord.owed (powerUpBlocks_meter true a m)).trans ?_
      rw [if_pos rfl, State.meter, hcoins]
      rfl
    · obtain ⟨check, block, hexec, -⟩ := exec_request hc
      rw [hexec]
      exact request_unpowered rfl ..
  · simp [exec, execPowerLoss, whenPowered, hp]

end Sys2Proof.Machine

/-! ### Sections and settings as bytes: what is read is written back (R182 to R184) -/

namespace Sys2Proof.Machine

/-! #### Bytes of a payload -/

/-- The `n` bytes of a payload from offset `i` on. -/
def bytesFrom (p : List Byte) (i n : Nat) : List Byte := (List.range n).map fun k => p.getD (i + k) 0

theorem bytesFrom_append (p : List Byte) (i a b : Nat) :
    bytesFrom p i a ++ bytesFrom p (i + a) b = bytesFrom p i (a + b) := by
  simp only [bytesFrom, List.range_add, List.map_append, List.map_map, Function.comp_def, Nat.add_assoc]

theorem bytesFrom_zero (p : List Byte) : bytesFrom p 0 p.length = p := by
  refine List.ext_getElem (by simp [bytesFrom]) fun k h _ => ?_
  simp only [bytesFrom, List.length_map, List.length_range] at h
  simp [bytesFrom, h]

theorem byteOf_byteAt (p : List Byte) (i : Nat) : byteOf (byteAt p i) = p.getD i 0 := by
  rw [byteOf, byteAt, BitVec.ofNat_toNat, BitVec.setWidth_eq]

theorem byteAt_lt (p : List Byte) (i : Nat) : byteAt p i < 256 := (p.getD i 0).isLt

/-- One byte written back. -/
theorem byte_bytes (p : List Byte) (i : Nat) : [byteOf (byteAt p i)] = bytesFrom p i 1 := by
  rw [byteOf_byteAt]
  rfl

theorem getD_bytes (p : List Byte) (i : Nat) : [p.getD i 0] = bytesFrom p i 1 := rfl

/-- A word written back. -/
theorem le2_word2 (p : List Byte) (i : Nat) : le2 (word2 p i) = bytesFrom p i 2 := by
  have hlow : byteOf (word2 p i) = byteOf (byteAt p i) := by
    refine BitVec.eq_of_toNat_eq ?_
    have := byteAt_lt p i
    simp only [byteOf, word2, BitVec.toNat_ofNat]
    omega
  have hhigh : word2 p i / 256 = byteAt p (i + 1) := by
    have := byteAt_lt p i
    rw [word2]
    omega
  rw [le2, hlow, hhigh, byteOf_byteAt, byteOf_byteAt]
  rfl

theorem word2_lt (p : List Byte) (i : Nat) : word2 p i < 65536 := by
  have := byteAt_lt p i
  have := byteAt_lt p (i + 1)
  rw [word2]
  omega

/-- A signed word written back. -/
theorem sle2_sword2 (p : List Byte) (i : Nat) : sle2 (sword2 p i) = bytesFrom p i 2 := by
  rw [sle2, sword2, BitVec.ofInt_toInt, BitVec.toNat_ofNat, Nat.mod_eq_of_lt (word2_lt p i), le2_word2]

/-- A signed byte written back. -/
theorem sle1_sbyte (p : List Byte) (i : Nat) : sle1 (sbyte p i) = bytesFrom p i 1 := by
  rw [sle1, sbyte, BitVec.ofInt_toInt, ← byte_bytes]
  rfl

/-- A table of bytes written back, each with a code that agrees with the byte read. -/
theorem table_bytes {α : Type} {n : Nat} (p : List Byte) (i : Nat) (read : Nat → α) (write : α → Byte)
    (h : ∀ k < n, write (read (byteAt p (i + k))) = byteOf (byteAt p (i + k))) :
    (Vector.ofFn fun k : Fin n => read (byteAt p (i + k.val))).toList.map write = bytesFrom p i n := by
  refine List.ext_getElem (by simp [bytesFrom]) fun k hk _ => ?_
  simp only [List.length_map, Vector.length_toList] at hk
  simp only [bytesFrom, List.getElem_map, Vector.getElem_toList, Vector.getElem_ofFn, List.getElem_range, h k hk,
    byteOf_byteAt]

/-! #### Codes that agree with the byte read -/

theorem boolByte_beq_one {x : Nat} (h : x ≤ 1) : boolByte (x == 1) = byteOf x := by
  interval_cases x <;> rfl

theorem boolByte_ne_zero {x : Nat} (h : x ≤ 1) : boolByte (!(x == 0)) = byteOf x := by
  interval_cases x <;> rfl

theorem classOrAnyCode_read {x : Nat} (h : x ≤ 3) : classOrAnyCode (readClassOrAny x) = byteOf x := by
  interval_cases x <;> rfl

theorem classChoiceCode_read {x : Nat} (h : x ≤ 2) : classChoiceCode (readClass x) = byteOf x := by
  interval_cases x <;> rfl

theorem standingCode_read {x : Nat} (h : x ≤ 3) : standingCode (readStanding x) = byteOf x := by
  interval_cases x <;> rfl

theorem fourOrNoneCode_read {x : Nat} (h : x ≤ 4) : fourOrNoneCode (readFourOrNone x) = byteOf x := by
  interval_cases x <;> rfl

theorem lineOf_val {x : Nat} (h : x ≤ 54) : (lineOf x).val = x := by
  rw [lineOf, dif_pos (by omega)]

/-! #### Checks passed -/

theorem firstBad_eq_none {l : List FieldCheck} : firstBad l = none ↔ ∀ c ∈ l, c.2 = true := by
  induction l with
  | nil => simp [firstBad]
  | cons c l ih =>
    obtain ⟨i, ok⟩ := c
    cases ok <;> simp [firstBad, ih]

/-! #### The five sections -/

theorem writeGeneral_read {base : Nat} {p : List Byte} (hlen : p.length = generalLength)
    (h : firstBad (checkGeneral base p) = none) : writeGeneral (readGeneral p) = p := by
  simp only [firstBad_eq_none, checkGeneral, List.mem_append, List.mem_cons, List.mem_map, List.mem_range, List.not_mem_nil,
    or_false, or_imp, forall_and, forall_exists_index, and_imp, forall_apply_eq_imp_iff₂, forall_eq,
    byteCheck, boolCheck, wordCheck, decide_eq_true_eq] at h
  obtain ⟨⟨⟨-, hclass⟩, ⟨-, hstanding⟩, -, -, -, hresume, hpower⟩, hflags⟩ := h
  have hlines := table_bytes (n := 55) p 11 (fun x => x == 0) levelCode fun k hk => boolByte_ne_zero (hflags k (by omega))
  have hways := table_bytes (n := 4) p 66 (fun x => x == 1) boolByte fun k hk => by
    rw [show 66 + k = 11 + (55 + k) by omega]
    exact boolByte_beq_one (hflags (55 + k) (by omega))
  calc writeGeneral (readGeneral p)
    _ = bytesFrom p 0 3 ++ bytesFrom p 3 2 ++ bytesFrom p 5 2 ++ bytesFrom p 7 2 ++ bytesFrom p 9 2 ++ bytesFrom p 11 55 ++
        bytesFrom p 66 4 := by
      simp only [writeGeneral, readGeneral, le2_word2, flagAt, classOrAnyCode_read hclass, standingCode_read hstanding,
        boolByte_beq_one hresume, boolByte_beq_one hpower, byteOf_byteAt, hlines, hways]
      rfl
    _ = bytesFrom p 0 p.length := by
      rw [bytesFrom_append p 0 3 2, bytesFrom_append p 0 5 2, bytesFrom_append p 0 7 2, bytesFrom_append p 0 9 2,
        bytesFrom_append p 0 11 55, bytesFrom_append p 0 66 4, hlen, generalLength]
    _ = p := bytesFrom_zero p

theorem writeRow_read (p : List Byte) (k : Nat) : writeRow (readRow p k) = bytesFrom p (6 * k) 6 := by
  simp only [writeRow, readRow, sle2_sword2]
  rw [bytesFrom_append p (6 * k) 2 2, bytesFrom_append p (6 * k) 4 2]

theorem writePicture_read {base : Nat} {p : List Byte} (hlen : p.length = pictureLength)
    (h : firstBad (checkPicture base p) = none) : writePicture (readPicture p) = p := by
  have hfollow : byteAt p 38 ≤ 1 := by
    simpa [boolCheck] using firstBad_eq_none.1 h (boolCheck base 38 p) (by simp [checkPicture])
  have hgamma := table_bytes (n := 9) p 21 (fun x => x) byteOf fun k hk => rfl
  calc writePicture (readPicture p)
    _ = bytesFrom p 0 6 ++ bytesFrom p 6 6 ++ bytesFrom p 12 6 ++ bytesFrom p 18 1 ++ bytesFrom p 19 1 ++
        bytesFrom p 20 1 ++ bytesFrom p 21 9 ++ bytesFrom p 30 2 ++ bytesFrom p 32 1 ++ bytesFrom p 33 2 ++
        bytesFrom p 35 1 ++ bytesFrom p 36 2 ++ bytesFrom p 38 1 := by
      simp only [writePicture, readPicture, writeRow_read, le2_word2, flagAt, boolByte_beq_one hfollow, byte_bytes, hgamma]
      simp only [readRow, sle1_sbyte]
    _ = bytesFrom p 0 p.length := by
      rw [bytesFrom_append p 0 6 6, bytesFrom_append p 0 12 6, bytesFrom_append p 0 18 1, bytesFrom_append p 0 19 1,
        bytesFrom_append p 0 20 1, bytesFrom_append p 0 21 9, bytesFrom_append p 0 30 2, bytesFrom_append p 0 32 1,
        bytesFrom_append p 0 33 2, bytesFrom_append p 0 35 1, bytesFrom_append p 0 36 2, bytesFrom_append p 0 38 1, hlen,
        pictureLength]
    _ = p := bytesFrom_zero p

/-- The checks of an entry of a CONTROLS page that its bytes are in range (R184). -/
def entryFits (p : List Byte) (i : Nat) : Prop :=
  byteAt p (1 + 3 * i) ≤ 54 ∧ byteAt p (2 + 3 * i) ≤ 54 ∧ byteAt p (3 + 3 * i) ≤ 1

theorem writeEntry_read {p : List Byte} {i : Nat} (h : entryFits p i) :
    writeEntry (readEntry p i) = bytesFrom p (1 + 3 * i) 3 := by
  obtain ⟨hsource, htarget, hinvert⟩ := h
  simp only [writeEntry, readEntry, lineOf_val hsource, lineOf_val htarget, flagAt, boolByte_beq_one hinvert,
    byteOf_byteAt, bytesFrom]
  rw [show 2 + 3 * i = 1 + 3 * i + 1 by omega, show 3 + 3 * i = 1 + 3 * i + 2 by omega]
  rfl

theorem writeEntries_read {p : List Byte} (n : Nat) (h : ∀ i < n, entryFits p i) :
    ((List.range n).map (readEntry p)).flatMap writeEntry = bytesFrom p 1 (3 * n) := by
  induction n with
  | zero => rfl
  | succ n ih =>
    rw [List.range_succ, List.map_append, List.flatMap_append, ih fun i hi => h i (by omega), Nat.mul_succ,
      ← bytesFrom_append, ← writeEntry_read (h n (by omega))]
    simp

theorem writePage_read {base : Nat} {p : List Byte} {others : List MapEntry} (hlen : p.length = 1 + 3 * byteAt p 0)
    (h : firstBad (checkPage base p others) = none) : writePage (readPage p) = p := by
  rw [firstBad_eq_none] at h
  have hfits (i : Nat) (hi : i < byteAt p 0) : entryFits p i := by
    have hentry (c : FieldCheck) (hc : c ∈ checkEntry base p others i) : c.2 = true :=
      h c (List.mem_cons_of_mem _ (List.mem_flatMap.2 ⟨i, List.mem_range.2 hi, hc⟩))
    simp only [checkEntry, List.forall_mem_cons, byteCheck, boolCheck, decide_eq_true_eq] at hentry
    obtain ⟨⟨-, hsource⟩, -, ⟨-, htarget⟩, hinvert, -⟩ := hentry
    exact ⟨hsource, htarget, hinvert⟩
  calc writePage (readPage p)
    _ = bytesFrom p 0 1 ++ bytesFrom p 1 (3 * byteAt p 0) := by
      simp only [writePage, readPage, writeEntries_read _ hfits, List.length_map, List.length_range, ← byte_bytes]
      rfl
    _ = bytesFrom p 0 p.length := by rw [bytesFrom_append p 0 1, ← hlen]
    _ = p := bytesFrom_zero p

theorem writeCoins_read {base : Nat} {p : List Byte} (hlen : p.length = coinsLength)
    (h : firstBad (checkCoins base p) = none) : writeCoins (readCoins p) = p := by
  simp only [firstBad_eq_none, checkCoins, List.forall_mem_cons, byteCheck, boolCheck, wordCheck, decide_eq_true_eq] at h
  obtain ⟨hdirect, ⟨-, h1⟩, ⟨-, h2⟩, ⟨-, h3⟩, ⟨-, h4⟩, -, -, h8, h9, h10, h11, -⟩ := h
  have hmap := table_bytes (n := 4) p 1 readFourOrNone fourOrNoneCode fun k hk =>
    fourOrNoneCode_read (by interval_cases k <;> assumption)
  have hlines := table_bytes (n := 4) p 8 (fun x => x == 0) levelCode fun k hk =>
    boolByte_ne_zero (by interval_cases k <;> assumption)
  calc writeCoins (readCoins p)
    _ = bytesFrom p 0 1 ++ bytesFrom p 1 4 ++ bytesFrom p 5 1 ++ bytesFrom p 6 2 ++ bytesFrom p 8 4 := by
      simp only [writeCoins, readCoins, le2_word2, boolByte_ne_zero hdirect, byte_bytes, hmap, hlines]
    _ = bytesFrom p 0 p.length := by
      rw [bytesFrom_append p 0 1 4, bytesFrom_append p 0 5 1, bytesFrom_append p 0 6 2, bytesFrom_append p 0 8 4, hlen,
        coinsLength]
    _ = p := bytesFrom_zero p

theorem writeDips_read {base : Nat} {p : List Byte} (hlen : p.length = dipsLength)
    (h : firstBad (checkDips base p) = none) : writeDips (readDips p) = p := by
  simp only [firstBad_eq_none, checkDips, List.forall_mem_cons, boolCheck, decide_eq_true_eq] at h
  obtain ⟨happly, -⟩ := h
  calc writeDips (readDips p)
    _ = bytesFrom p 0 1 ++ bytesFrom p 1 4 := by
      simp only [writeDips, readDips, flagAt, boolByte_beq_one happly, byteOf_byteAt]
      rfl
    _ = bytesFrom p 0 p.length := by rw [bytesFrom_append p 0 1 4, hlen, dipsLength]
    _ = p := bytesFrom_zero p

/-! #### The cabinet settings -/

theorem writeChord_read {a b : Nat} (ha : chordByteOk a = true) (hb : chordByteOk b = true)
    (hab : ((a == 255) == (b == 255)) = true) : writeChord (readChord a b) = [byteOf a, byteOf b] := by
  simp only [chordByteOk, Bool.or_eq_true, decide_eq_true_eq, beq_iff_eq] at ha hb hab
  unfold readChord
  split
  · next h =>
    have hb : b = 255 := by simpa [h] using hab
    rw [h, hb]
    rfl
  · next h =>
    have hb' : b ≠ 255 := by simpa [h] using hab
    rw [writeChord, lineOf_val (ha.resolve_right h), lineOf_val (hb.resolve_right hb')]

theorem writeCabinet_read {p : List Byte} (hlen : p.length = 47) (h : firstBad (checkCabinet p) = none) :
    writeCabinet (readCabinet p) = p := by
  simp only [firstBad_eq_none, checkCabinet, List.mem_append, List.mem_cons, List.mem_map, List.mem_range, List.not_mem_nil,
    or_false, or_imp, forall_and, forall_exists_index, and_imp, forall_apply_eq_imp_iff₂, forall_eq,
    byteCheck, boolCheck, wordCheck, decide_eq_true_eq, Bool.and_eq_true] at h
  obtain ⟨⟨⟨⟨⟨⟨hsync, ⟨-, hclass⟩, -, -, -, hhold, -, -, hfallback, -, ha, ⟨⟨hb, hab⟩, -⟩, -, -, -, -, -⟩, -⟩, -⟩, -⟩,
    -, hmeters⟩, -⟩ := h
  have hvalue := table_bytes (n := 4) p 29 (fun x => x) byteOf fun k hk => rfl
  have hmin := table_bytes (n := 4) p 33 (fun x => x) byteOf fun k hk => rfl
  have hmax := table_bytes (n := 4) p 37 (fun x => x) byteOf fun k hk => rfl
  have hmeter := table_bytes (n := 4) p 41 readFourOrNone fourOrNoneCode fun k hk => fourOrNoneCode_read (hmeters k hk)
  calc writeCabinet (readCabinet p)
    _ = bytesFrom p 0 2 ++ bytesFrom p 2 2 ++ bytesFrom p 4 2 ++ bytesFrom p 6 2 ++ bytesFrom p 8 1 ++ bytesFrom p 9 2 ++
        bytesFrom p 11 2 ++ bytesFrom p 13 2 ++ bytesFrom p 15 2 ++ bytesFrom p 17 2 ++ bytesFrom p 19 2 ++
        bytesFrom p 21 4 ++ bytesFrom p 25 2 ++ bytesFrom p 27 2 ++ bytesFrom p 29 4 ++ bytesFrom p 33 4 ++
        bytesFrom p 37 4 ++ bytesFrom p 41 4 ++ bytesFrom p 45 2 := by
      simp only [writeCabinet, readCabinet, le2_word2, flagAt, boolByte_beq_one hsync, classChoiceCode_read hclass,
        boolByte_beq_one hhold, boolByte_ne_zero hfallback, writeChord_read ha hb hab, byteOf_byteAt, hvalue, hmin, hmax,
        hmeter]
      rfl
    _ = bytesFrom p 0 p.length := by
      rw [bytesFrom_append p 0 2 2, bytesFrom_append p 0 4 2, bytesFrom_append p 0 6 2, bytesFrom_append p 0 8 1,
        bytesFrom_append p 0 9 2, bytesFrom_append p 0 11 2, bytesFrom_append p 0 13 2, bytesFrom_append p 0 15 2,
        bytesFrom_append p 0 17 2, bytesFrom_append p 0 19 2, bytesFrom_append p 0 21 4, bytesFrom_append p 0 25 2,
        bytesFrom_append p 0 27 2, bytesFrom_append p 0 29 4, bytesFrom_append p 0 33 4, bytesFrom_append p 0 37 4,
        bytesFrom_append p 0 41 4, bytesFrom_append p 0 45 2, hlen]
    _ = p := bytesFrom_zero p

end Sys2Proof.Machine

/-! #### PROFILE_PUT and PROFILE_GET (O48) -/

namespace Sys2Proof.Machine

theorem exec_profilePut (dt : Nat) (tag : Byte) (p : List Byte) (s : State) :
    exec (.profilePut dt tag p) s = request dt 0x0A tag p profilePutCheck profilePutBlock s := rfl

theorem exec_profileGet (dt : Nat) (tag : Byte) (p : List Byte) (s : State) :
    exec (.profileGet dt tag p) s = request dt 0x09 tag p (fixedLayout 3 profileFields) profileGetBlock s := rfl

/-- A page that a section has: 0, or 0 to 3 for CONTROLS. -/
def pageKnown (sec page : Byte) : Prop := page = 0 ∨ (sec = 2 ∧ page.toNat ≤ 3)

theorem pageField_iff (x sec page : Byte) (rest : List Byte) :
    (pageField (x :: sec :: page :: rest)).2 = true ↔ pageKnown sec page := by
  have hzero : page.toNat = 0 ↔ page = 0 := by
    rw [← BitVec.toNat_inj]
    rfl
  have htwo : sec.toNat = 2 ↔ sec = 2 := by
    rw [← BitVec.toNat_inj]
    rfl
  simp [pageField, byteAt, pageKnown, hzero, htwo]

/-- The checks of PROFILE_GET in their order (R184). -/
theorem profileGetLayout (x sec page : Byte) (s : State) :
    (x.toNat = 0 ∨ 8 < x.toNat → fixedLayout 3 profileFields s [x, sec, page] = some (.badField 0)) ∧
    (∀ n, x = slotByte n →
      (4 < sec.toNat → fixedLayout 3 profileFields s [x, sec, page] = some (.badField 1)) ∧
      (sec.toNat ≤ 4 → ¬pageKnown sec page → fixedLayout 3 profileFields s [x, sec, page] = some (.badField 2)) ∧
      (sec.toNat ≤ 4 → pageKnown sec page → fixedLayout 3 profileFields s [x, sec, page] = none)) := by
  have hpage := pageField_iff x sec page []
  have hlayout : fixedLayout 3 profileFields s [x, sec, page] =
      (firstBad [slotField [x, sec, page], byteCheck 0 1 0 4 [x, sec, page], pageField [x, sec, page]]).map .badField := rfl
  have hsec : byteCheck 0 1 0 4 [x, sec, page] = (1, decide (sec.toNat ≤ 4)) := by simp [byteCheck, byteAt]
  have hindex : pageField [x, sec, page] = (2, (pageField [x, sec, page]).2) := rfl
  refine ⟨fun h => ?_, fun n hn => ?_⟩
  · rw [hlayout, slotField_outside (h.imp_left fun h => BitVec.eq_of_toNat_eq h)]
    rfl
  · rw [hlayout, hn, slotField_slotByte, ← hn, hsec, hindex]
    refine ⟨fun h => ?_, fun h hk => ?_, fun h hk => ?_⟩
    · rw [decide_eq_false (by omega)]
      rfl
    · rw [decide_eq_true h, Bool.eq_false_iff.2 (hpage.not.2 hk)]
      rfl
    · rw [decide_eq_true h, hpage.2 hk]
      rfl

theorem payloadPage_bytes (x sec page : Byte) (rest : List Byte) :
    payloadPage (x :: sec :: page :: rest) = Fin.ofNat 4 page.toNat := rfl

/-! ##### A section put -/

/-- A section put leaves the other sections of the profile alone. -/
theorem putSection_keeps (x : SlotProfile) {sec : Nat} (h : sec ≤ 4) (page : Fin 4) (contents : List Byte) :
    (sec ≠ 0 → (putSection x sec page contents).general = x.general) ∧
    (sec ≠ 1 → (putSection x sec page contents).picture = x.picture) ∧
    (sec ≠ 2 → (putSection x sec page contents).controls = x.controls) ∧
    (sec ≠ 3 → (putSection x sec page contents).coins = x.coins) ∧
    (sec ≠ 4 → (putSection x sec page contents).dips = x.dips) := by
  interval_cases sec <;> simp [putSection]

/-- A section put whose length and fields are in order is read back byte for byte. -/
theorem sectionContents_put {x y : SlotProfile} {sec : Nat} (h : sec ≤ 4) {page : Fin 4} {contents : List Byte}
    (hlen : contents.length = sectionLength sec contents)
    (hfields : firstBad (sectionFields y sec page contents) = none) :
    sectionContents (putSection x sec page contents) sec page = contents := by
  interval_cases sec
  · exact writeGeneral_read hlen hfields
  · exact writePicture_read hlen hfields
  · refine (congrArg writePage (Tab.at_put_self ..)).trans (writePage_read hlen hfields)
  · exact writeCoins_read hlen hfields
  · exact writeDips_read hlen hfields

/-- What the checks of PROFILE_PUT let pass (R184). -/
theorem profilePutCheck_none {n : Slot} {sec page : Byte} {contents : List Byte} {s : State}
    (h : profilePutCheck s ([slotByte n, sec, page] ++ contents) = none) :
    sec.toNat ≤ 4 ∧ pageKnown sec page ∧ contents.length = sectionLength sec.toNat contents ∧
      firstBad (sectionFields (s.profile n) sec.toNat (Fin.ofNat 4 page.toNat) contents) = none := by
  have hslot : payloadSlot ([slotByte n, sec, page] ++ contents) = n := payloadSlot_slotByte ..
  have hsec : byteAt ([slotByte n, sec, page] ++ contents) 1 = sec.toNat := rfl
  have hdrop : ([slotByte n, sec, page] ++ contents).drop 3 = contents := rfl
  have hpage : payloadPage ([slotByte n, sec, page] ++ contents) = Fin.ofNat 4 page.toNat := rfl
  simp only [profilePutCheck, hslot, hsec, hdrop, hpage] at h
  split_ifs at h with hshort hfour hlen
  rw [Option.map_eq_none_iff, firstBad_eq_none] at h
  have hknown := h (pageField ([slotByte n, sec, page] ++ contents)) (by simp [profileFields])
  refine ⟨by omega, (pageField_iff ..).1 hknown, ?_, firstBad_eq_none.2 fun c hc => h c (List.mem_append_right _ hc)⟩
  push_neg at hlen
  obtain ⟨hlen, -⟩ := hlen
  simp only [List.length_append, List.length_cons, List.length_nil] at hlen
  omega

/-- The state with a section put into a slot's working profile, the mismatch flag computed afresh when the expected kind
changed (R24, R184). -/
def sectionPut (n : Slot) (sec page : Byte) (contents : List Byte) (s : State) : State :=
  let new := putSection (s.profile n) sec.toNat (Fin.ofNat 4 page.toNat) contents
  if new.general.expectedKind = (s.profile n).general.expectedKind then s.setProfile n new
  else recomputeMismatch n (s.setProfile n new)

theorem profilePutBlock_done (n : Slot) (sec page : Byte) (contents : List Byte) {s : State}
    (h : s.profiles.loading = false) :
    profilePutBlock s ([slotByte n, sec, page] ++ contents) = unchanged .ok (sectionPut n sec page contents s) := by
  have hslot : payloadSlot ([slotByte n, sec, page] ++ contents) = n := payloadSlot_slotByte ..
  simp only [profilePutBlock, h, Bool.false_eq_true, ↓reduceIte, hslot]
  rfl

theorem recomputeMismatch_slot {n m : Slot} (h : m ≠ n) (s : State) : (recomputeMismatch n s).slot m = s.slot m := by
  unfold recomputeMismatch
  split
  · exact (Tab.at_put ..).trans (if_neg h)
  · rfl

theorem sectionPut_after (n : Slot) (sec page : Byte) (contents : List Byte) (s : State) :
    SameOutside [.slots, .profiles] s (sectionPut n sec page contents s) ∧
      (sectionPut n sec page contents s).profiles =
        (s.setProfile n (putSection (s.profile n) sec.toNat (Fin.ofNat 4 page.toNat) contents)).profiles ∧
      ∀ m, m ≠ n → (sectionPut n sec page contents s).slot m = s.slot m := by
  have hset (x : SlotProfile) : SameOutside [.slots, .profiles] s (s.setProfile n x) := (State.setProfile_same ..).mono (by decide)
  unfold sectionPut
  dsimp only
  split
  · exact ⟨hset _, rfl, fun m hm => rfl⟩
  · exact ⟨(recomputeMismatch_same ..).after (hset _) (by decide), (recomputeMismatch_same ..).same .profiles (by decide),
      fun m hm => recomputeMismatch_slot hm _⟩

theorem profileGetBlock_loading {s : State} (h : s.profiles.loading = true) (p : List Byte) :
    profileGetBlock s p = (s, some (.plain .busy)) := if_pos h

theorem profileGetBlock_answers {s : State} (h : s.profiles.loading = false) (n : Slot) (sec page : Byte) :
    profileGetBlock s [slotByte n, sec, page] =
      (s, some ⟨.ok, sectionContents (s.profile n) sec.toNat (Fin.ofNat 4 page.toNat)⟩) := by
  rw [profileGetBlock, if_neg (by simp [h]), payloadSlot_slotByte]
  rfl

/-- Settles O48: the section put is the section read, its bytes those of the PUT; the checks of PROFILE_GET in order. -/
theorem profilePutThenGetReturnsTheContents : Obligations.ProfilePutThenGetReturnsTheContents := by
  refine ⟨fun dt tag n sec page contents s b => ?_, fun dt tag x sec page s b hturn => ?_⟩
  · intro p hturn hcheck
    obtain ⟨hsec, hknown, hlen, hfields⟩ := profilePutCheck_none hcheck
    refine ⟨fun hl => ?_, fun hl => ?_⟩
    · exact request_quiet (a := .plain .busy) hturn hcheck (if_pos hl)
    · obtain ⟨hsame, hprofiles, hslots⟩ := sectionPut_after n sec page contents (s.inService dt b)
      have hlink : (sectionPut n sec page contents (s.inService dt b)).link = (s.inService dt b).link :=
        hsame.same .link (by decide)
      have hblock := profilePutBlock_done n sec page contents (s := s.inService dt b) hl
      refine ⟨(sectionPut n sec page contents (s.inService dt b)).replying b ⟨0x0A, tag, .ok, []⟩,
        request_done hturn hcheck hblock (.of_eq hlink), ?_⟩
      generalize sectionPut n sec page contents (s.inService dt b) = u at *
      have hprofile (m : Slot) : u.profile m =
          if m = n then putSection (s.profile n) sec.toNat (Fin.ofNat 4 page.toNat) contents else s.profile m := by
        rw [State.profile, hprofiles]
        exact Tab.at_put ..
      have hself : u.profile n = putSection (s.profile n) sec.toNat (Fin.ofNat 4 page.toNat) contents := by
        rw [hprofile, if_pos rfl]
      have hne (k : Byte) (h : sec ≠ k) : sec.toNat ≠ k.toNat := fun heq => h (BitVec.eq_of_toNat_eq heq)
      obtain ⟨hgeneral, hpicture, hcontrols, hcoins, hdips⟩ :=
        putSection_keeps (s.profile n) hsec (Fin.ofNat 4 page.toNat) contents
      refine ⟨replying_now hsame (by decide) _, ?_, fun m hm => ⟨(hprofile m).trans (if_neg hm), hslots m hm⟩, ?_, ?_, ?_, ?_,
        fun h => ?_, fun h => ?_, fun h => ?_, fun h => ?_, fun h => ?_, replying_same hsame (by decide) (by decide) (by decide) _,
        fun dt' tag' t b' ht hturn' => ?_⟩
      · rw [State.replying, hlink]
        rfl
      · exact (congrArg (fun x : Profiles => x.working.cabinet) hprofiles :)
      · exact (congrArg Profiles.store hprofiles :)
      · exact (congrArg Profiles.saving hprofiles :)
      · exact (congrArg Profiles.loading hprofiles :).trans hl
      · exact (congrArg SlotProfile.general hself :).trans (hgeneral (hne 0 h))
      · exact (congrArg SlotProfile.picture hself :).trans (hpicture (hne 1 h))
      · exact (congrArg SlotProfile.controls hself :).trans (hcontrols (hne 2 h))
      · exact (congrArg SlotProfile.coins hself :).trans (hcoins (hne 3 h))
      · exact (congrArg SlotProfile.dips hself :).trans (hdips (hne 4 h))
      · have hloading : t.profiles.loading = false := by
          rw [ht]
          exact (congrArg Profiles.loading hprofiles :).trans hl
        have hread : t.profile n = putSection (s.profile n) sec.toNat (Fin.ofNat 4 page.toNat) contents := by
          rw [State.profile, ht]
          exact hself
        have hanswer := profileGetBlock_answers (s := t.inService dt' b') hloading n sec page
        rw [show (t.inService dt' b').profile n = _ from hread, sectionContents_put hsec hlen hfields] at hanswer
        exact request_quiet hturn' (((profileGetLayout ..).2 n rfl).2.2 hsec hknown) hanswer
  · intro said known
    have hlayout := profileGetLayout x sec page (s.inService dt b)
    obtain ⟨hslot, hfields⟩ := hlayout
    refine ⟨fun h => request_refused hturn (hslot h) _, fun n hn => ?_⟩
    obtain ⟨hsection, hpage, hok⟩ := hfields n hn
    refine ⟨fun h => request_refused hturn (hsection h) _, fun h hk => request_refused hturn (hpage h hk) _,
      fun h hk => ⟨fun hl => ?_, fun hl => ?_⟩⟩
    · exact request_quiet (a := .plain .busy) hturn (hok h hk) (profileGetBlock_loading (s := s.inService dt b) hl _)
    · subst hn
      exact request_quiet hturn (hok h hk) (profileGetBlock_answers (s := s.inService dt b) hl n sec page)

/-! #### CABINET_PUT and CABINET_GET (O49) -/

theorem exec_cabinetPut (dt : Nat) (tag : Byte) (p : List Byte) (s : State) :
    exec (.cabinetPut dt tag p) s = request dt 0x0C tag p (fixedLayout cabinetLength checkCabinet) cabinetPutBlock s := rfl

theorem exec_cabinetGet (dt : Nat) (tag : Byte) (p : List Byte) (s : State) :
    exec (.cabinetGet dt tag p) s = request dt 0x0B tag p noPayload cabinetGetBlock s := rfl

/-- The working cabinet settings replaced, before anything else takes the change. -/
def cabinetPlaced (c : Cabinet) (s : State) : State :=
  { s with profiles := { s.profiles with working := { s.profiles.working with cabinet := c } } }

/-- A chute as the judgement of new settings leaves it: BANK_LIMIT and METER_FULL read afresh (R160). -/
def settingsJudged (c : Cabinet) (s : State) (k : Chute) : ChuteRecord :=
  { s.chute k with reasons := { (s.chute k).reasons with
    bankLimit := decide (c.bankLimit ≤ s.coins.bank)
    meterFull := match c.chuteMeter.at k with
      | none => false
      | some m => decide (240 ≤ (s.meter m).owed) } }

theorem putCabinet_after (c : Cabinet) (s : State) :
    SameOutside [.link, .router, .coins, .profiles] s (putCabinet c s) ∧ LinkKept s (putCabinet c s) ∧
      (putCabinet c s).profiles = (cabinetPlaced c s).profiles ∧
      (putCabinet c s).coins = { s.coins with chutes := Vector.ofFn (settingsJudged c s) } := by
  have hchord : SameOutside [.router] (cabinetPlaced c s) (chordAfter s.cabinet (cabinetPlaced c s)) := chordAfter_same ..
  have heq : putCabinet c s = judgeSettings (chordAfter s.cabinet (cabinetPlaced c s)) := rfl
  have hprofiles := hchord.same .profiles (by decide)
  have hcoins := hchord.same .coins (by decide)
  have hlink := hchord.same .link (by decide)
  simp only [Block.same] at hprofiles hcoins hlink
  rw [heq]
  generalize chordAfter s.cabinet (cabinetPlaced c s) = u at *
  have hplaced : SameOutside [.profiles] s (cabinetPlaced c s) := .with_profiles (.refl _ _) (by decide)
  refine ⟨((hplaced.mono (by decide)).trans (hchord.mono (by decide))).trans ((judgeSettings_same u).mono (by decide)), ?_, ?_, ?_⟩
  · exact (LinkKept.of_eq hlink).trans (judgeTogether_posts _ u).linkKept
  · exact ((judgeSettings_same u).same .profiles (by decide)).trans hprofiles
  · rw [judgeSettings_coins]
    have hjudged : judgedBy (fun c s =>
        { (s.chute c).reasons with bankLimit := bankAtLimit s, meterFull := meterFull c s }) u = settingsJudged c s := by
      funext k
      simp only [judgedBy, State.chute, bankAtLimit, meterFull, State.cabinet, State.meter, hcoins, hprofiles]
      rfl
    rw [hjudged, hcoins]
    rfl

theorem writeCabinet_length (c : Cabinet) : (writeCabinet c).length = 47 := by
  have hchord : (writeChord c.chord).length = 2 := by
    rcases c.chord with _ | ⟨a, b⟩ <;> rfl
  simp [writeCabinet, le2, hchord]

theorem cabinetGetBlock_answers {s : State} (h : s.profiles.loading = false) (p : List Byte) :
    cabinetGetBlock s p = (s, some ⟨.ok, writeCabinet s.cabinet⟩) := if_neg (by simp [h])

/-- Settles O49: the settings put are the settings read, their bytes those of the PUT. -/
theorem cabinetPutThenGetReturnsTheSettings : Obligations.CabinetPutThenGetReturnsTheSettings := by
  refine ⟨fun dt tag p s b hturn hlen hfields => ?_, fun dt tag s b hturn => ⟨fun hl => ?_, fun hl => ⟨writeCabinet_length _, ?_⟩⟩⟩
  · have hcheck : fixedLayout cabinetLength checkCabinet (s.inService dt b) p = none := by
      rw [fixedLayout, if_neg (by rw [hlen]; decide), hfields]
      rfl
    refine ⟨fun hl => request_quiet (a := .plain .busy) hturn hcheck (if_pos hl), fun hl => ?_⟩
    obtain ⟨hsame, hlink, hprofiles, hcoins⟩ := putCabinet_after (readCabinet p) (s.inService dt b)
    have hblock : cabinetPutBlock (s.inService dt b) p = unchanged .ok (putCabinet (readCabinet p) (s.inService dt b)) :=
      if_neg (by simp [State.inService, State.tick, hl])
    refine ⟨(putCabinet (readCabinet p) (s.inService dt b)).replying b ⟨0x0C, tag, .ok, []⟩,
      request_done hturn hcheck hblock hlink, ?_⟩
    generalize putCabinet (readCabinet p) (s.inService dt b) = u at *
    have hcabinet : u.cabinet = readCabinet p := by
      rw [State.cabinet, hprofiles]
      rfl
    refine ⟨replying_now hsame (by decide) _, replying_link hlink _, ?_, ?_, fun c => ?_,
      replying_same hsame (by decide) (by decide) (by decide) _, fun dt' tag' t b' ht hturn' => ?_⟩
    · rw [show (u.replying b ⟨0x0C, tag, .ok, []⟩).cabinet = _ from hcabinet]
      exact hprofiles
    · change u.coins = { s.coins with chutes := u.coins.chutes }
      rw [hcoins]
      rfl
    · rw [show (u.replying b ⟨0x0C, tag, .ok, []⟩).cabinet = _ from hcabinet]
      change u.coins.chutes.at c = _
      rw [hcoins]
      exact Tab.at_ofFn ..
    · have hloading : t.profiles.loading = false := by
        rw [ht]
        exact (congrArg Profiles.loading hprofiles :).trans hl
      have hread : t.cabinet = readCabinet p := by
        rw [State.cabinet, ht]
        exact hcabinet
      have hanswer := cabinetGetBlock_answers (s := t.inService dt' b') hloading []
      rw [show (t.inService dt' b').cabinet = _ from hread, writeCabinet_read hlen hfields] at hanswer
      exact request_quiet hturn' (noPayload_nil _) hanswer
  · exact request_quiet (a := .plain .busy) hturn (noPayload_nil _) (if_pos hl)
  · exact request_quiet hturn (noPayload_nil _) (cabinetGetBlock_answers (s := s.inService dt b) hl [])

end Sys2Proof.Machine

/-! ### The slot bus: the arbiter and pass-through runs (O19, O20) -/

namespace Sys2Proof.Machine

/-! #### The arbiter's choice (R46) -/

theorem arbitrate_busy {s : State} (h : s.bus.current ≠ none) : arbitrate s = s := by
  obtain ⟨t, ht⟩ := Option.ne_none_iff_exists'.1 h
  rw [arbitrate, ht]

/-- An idle bus begins the next transaction of the oldest DIP apply. -/
theorem arbitrate_sequence {s : State} (h : s.bus.current = none) {r : ApplyRun} {op : BusOp} {ops : List BusOp}
    {rest : List ApplyRun} (hs : s.bus.sequence = r :: rest) (ht : r.todo = op :: ops) :
    arbitrate s = { s with bus := { s.bus with
      sequence := { r with todo := ops } :: rest, current := some ⟨r.slot, op, .sequence, s.now, false⟩ } } := by
  simp only [arbitrate, h, beginSequence, hs, ht, Option.some_or, Option.getD_some]
  rfl

theorem beginSequence_none {s : State} (h : s.bus.sequence = []) : beginSequence s = none := by
  rw [beginSequence, h]

/-- With no DIP apply an idle bus begins a waiting poll inside a pass-through run. -/
theorem arbitrate_pollInside {s : State} (h : s.bus.current = none) (hs : s.bus.sequence = []) {n : Slot} {r : LinkRun}
    (hw : s.bus.waitingPoll = some n) (hl : s.bus.linkRun = some r) (hb : r.begun = true) :
    arbitrate s = { s with bus := { s.bus with
      waitingPoll := none, current := some ⟨n, .read 0, .poll, s.now, false⟩ } } := by
  simp only [arbitrate, h, beginSequence_none hs, linkRunBegun, hl, hb, ↓reduceIte, beginPoll, hw, Option.none_or,
    Option.some_or, Option.getD_some]
  rfl

/-- With no DIP apply and no poll to let in, an idle bus begins the pass-through run's next transaction. -/
theorem arbitrate_link {s : State} (h : s.bus.current = none) (hs : s.bus.sequence = []) {r : LinkRun} {op : BusOp}
    {ops : List BusOp} (hl : s.bus.linkRun = some r) (ht : r.todo = op :: ops)
    (hb : r.begun = false ∨ s.bus.waitingPoll = none) :
    arbitrate s = { s with bus := { s.bus with
      linkRun := some { r with todo := ops, begun := true }, current := some ⟨r.slot, op, .link, s.now, false⟩ } } := by
  have hlink : beginLink s = some (beginTransaction r.slot op .link
      { s with bus := { s.bus with linkRun := some { r with todo := ops, begun := true } } }) := by
    rw [beginLink, hl]
    dsimp only
    rw [ht]
  simp only [arbitrate, h, beginSequence_none hs, linkRunBegun, hl, hlink, Option.none_or]
  rcases hb with hb | hw
  · rw [hb]
    rfl
  · rw [beginPoll, hw]
    cases r.begun <;> rfl

/-- With nothing else for it to do an idle bus begins the waiting poll. -/
theorem arbitrate_poll {s : State} (h : s.bus.current = none) (hs : s.bus.sequence = []) {n : Slot}
    (hw : s.bus.waitingPoll = some n) (hl : s.bus.linkRun = none) :
    arbitrate s = { s with bus := { s.bus with
      waitingPoll := none, current := some ⟨n, .read 0, .poll, s.now, false⟩ } } := by
  simp only [arbitrate, h, beginSequence_none hs, linkRunBegun, beginLink, hl, Bool.false_eq_true, ↓reduceIte, beginPoll,
    hw, Option.none_or, Option.getD_some]
  rfl

theorem arbitrate_nothing {s : State} (hs : s.bus.sequence = []) (hw : s.bus.waitingPoll = none)
    (hl : s.bus.linkRun = none) : arbitrate s = s := by
  simp only [arbitrate, beginSequence_none hs, linkRunBegun, beginLink, hl, beginPoll, hw]
  split <;> rfl

/-! #### The words of a payload -/

/-- A word as a payload carries it, its low byte first. -/
def wordBytes (v : Word16) : List Byte := [v.setWidth 8, (v >>> 8).setWidth 8]

theorem byteAt_append (pre rest : List Byte) (i : Nat) : byteAt (pre ++ rest) (pre.length + i) = byteAt rest i := by
  rw [byteAt, byteAt, List.getD_append_right _ _ _ _ (Nat.le_add_right ..), Nat.add_sub_cancel_left]

theorem word2_wordBytes (v : Word16) (rest : List Byte) : word2 (wordBytes v ++ rest) 0 = v.toNat := by
  have := v.isLt
  simp only [word2, byteAt, wordBytes, List.cons_append, List.getD_cons_zero, List.getD_cons_succ, BitVec.toNat_setWidth,
    BitVec.toNat_ushiftRight, Nat.shiftRight_eq_div_pow]
  omega

theorem word2_append (pre rest : List Byte) (i : Nat) : word2 (pre ++ rest) (pre.length + i) = word2 rest i := by
  rw [word2, word2, byteAt_append, Nat.add_assoc, byteAt_append]

/-- The words a payload carries are read back one by one. -/
theorem word2_words (pre : List Byte) (values : List Word16) {i : Nat} (h : i < values.length) :
    BitVec.ofNat 16 (word2 (pre ++ values.flatMap wordBytes) (pre.length + 2 * i)) = values.getD i 0 := by
  rw [word2_append]
  induction values generalizing i with
  | nil => exact absurd h (Nat.not_lt_zero _)
  | cons v values ih =>
    rw [List.flatMap_cons]
    cases i with
    | zero =>
      rw [Nat.mul_zero, word2_wordBytes, BitVec.ofNat_toNat, BitVec.setWidth_eq]
      rfl
    | succ i =>
      rw [show 2 * (i + 1) = (wordBytes v).length + 2 * i by simp only [wordBytes, List.length_cons, List.length_nil]; omega,
        word2_append, List.getD_cons_succ]
      exact ih (Nat.lt_of_succ_lt_succ h)

/-! #### ADAPTER_READ and ADAPTER_WRITE (R52, R53) -/

theorem exec_adapterRead (dt : Nat) (tag : Byte) (p : List Byte) (s : State) :
    exec (.adapterRead dt tag p) s = request dt 0x18 tag p (fixedLayout 3 adapterReadFields) adapterReadBlock s := rfl

theorem exec_adapterWrite (dt : Nat) (tag : Byte) (p : List Byte) (s : State) :
    exec (.adapterWrite dt tag p) s = request dt 0x19 tag p adapterWriteCheck adapterWriteBlock s := rfl

/-- A run within the limits of R52. -/
def runFits (cell : Byte) (count : Nat) : Prop :=
  1 ≤ count ∧ count ≤ 32 ∧ (16 ≤ cell.toNat ∨ cell.toNat + count ≤ 16)

theorem countByte_toNat {count : Nat} (h : count ≤ 32) : (BitVec.ofNat 8 count).toNat = count := by
  rw [BitVec.toNat_ofNat]
  omega

theorem countField_fits {cell : Byte} {count : Nat} (h : runFits cell count) (x : Byte) (rest : List Byte) :
    countField (x :: cell :: BitVec.ofNat 8 count :: rest) = (2, true) := by
  obtain ⟨hlow, hhigh, hcells⟩ := h
  simp [countField, byteAt, countByte_toNat hhigh, hlow, hhigh, hcells]

theorem adapterReadCheck_none {cell : Byte} {count : Nat} (h : runFits cell count) (n : Slot) (s : State) :
    fixedLayout 3 adapterReadFields s [slotByte n, cell, BitVec.ofNat 8 count] = none := by
  simp only [fixedLayout, adapterReadFields, slotField_slotByte, countField_fits h, firstBad]
  rfl

theorem length_flatMap_wordBytes (values : List Word16) : (values.flatMap wordBytes).length = 2 * values.length := by
  induction values with
  | nil => rfl
  | cons v values ih =>
    rw [List.flatMap_cons, List.length_append, ih, List.length_cons, wordBytes]
    simp only [List.length_cons, List.length_nil]
    omega

theorem adapterWriteCheck_none {cell : Byte} {values : List Word16} (h : runFits cell values.length) (hcell : 3 ≤ cell.toNat)
    (n : Slot) (s : State) :
    adapterWriteCheck s ([slotByte n, cell, BitVec.ofNat 8 values.length] ++ values.flatMap wordBytes) = none := by
  have hcount : byteAt ([slotByte n, cell, BitVec.ofNat 8 values.length] ++ values.flatMap wordBytes) 2 = values.length :=
    countByte_toNat h.2.1
  have hcell' : byteAt ([slotByte n, cell, BitVec.ofNat 8 values.length] ++ values.flatMap wordBytes) 1 = cell.toNat := rfl
  rw [adapterWriteCheck, hcount, hcell', if_neg, decide_eq_true hcell]
  · simp only [List.cons_append, List.nil_append, slotField_slotByte, countField_fits h, firstBad]
    rfl
  · simp only [List.length_append, length_flatMap_wordBytes, List.length_cons, List.length_nil]
    omega

/-- The transactions of a write run are those of its values in order (R53). -/
theorem writeOps_values (cell : Nat) (pre : List Byte) (hpre : pre.length = 3) (values : List Word16) :
    writeOps cell values.length (pre ++ values.flatMap wordBytes) =
      if cell < 16 then (List.range values.length).map fun i => .write (Fin.ofNat 256 (cell + i)) (values.getD i 0)
      else .point (Fin.ofNat 256 cell) :: values.map .writeOn := by
  have hword {i : Nat} (h : i < values.length) :
      BitVec.ofNat 16 (word2 (pre ++ values.flatMap wordBytes) (3 + 2 * i)) = values.getD i 0 := by
    rw [← hpre]
    exact word2_words pre values h
  unfold writeOps
  dsimp only
  split
  · exact List.map_congr_left fun i hi => by rw [hword (List.mem_range.1 hi)]
  · refine congrArg (BusOp.point _ :: ·) (List.ext_getElem (by simp) fun i hi _ => ?_)
    have hi : i < values.length := by simpa using hi
    simp only [List.getElem_map, List.getElem_range, hword hi, List.getD_eq_getElem _ _ hi]

/-- A run queued on the bus: on an idle bus with no DIP apply its first transaction begins at once (R46). -/
def runQueued (n : Slot) (ops : List BusOp) (isRead : Bool) (s : State) : Bus :=
  match s.bus.current, s.bus.sequence, ops with
  | none, [], op :: rest =>
    { s.bus with current := some ⟨n, op, .link, s.now, false⟩, linkRun := some ⟨n, rest, 0, true, [], isRead⟩ }
  | _, _, _ => { s.bus with linkRun := some ⟨n, ops, 0, false, [], isRead⟩ }

theorem runQueued_idle {n : Slot} {op : BusOp} {ops : List BusOp} {isRead : Bool} {s : State}
    (hc : s.bus.current = none) (hs : s.bus.sequence = []) :
    runQueued n (op :: ops) isRead s = { s.bus with
      current := some ⟨n, op, .link, s.now, false⟩, linkRun := some ⟨n, ops, 0, true, [], isRead⟩ } := by
  unfold runQueued
  split
  · next heq =>
    cases heq
    rfl
  · next hno => exact absurd rfl (hno op ops hc hs)

theorem runQueued_busy {n : Slot} {op : BusOp} {ops : List BusOp} {isRead : Bool} {s : State} (hc : s.bus.current ≠ none) :
    runQueued n (op :: ops) isRead s = { s.bus with linkRun := some ⟨n, op :: ops, 0, false, [], isRead⟩ } := by
  unfold runQueued
  split
  · next h _ _ => exact absurd h hc
  · rfl

/-- A run queued before the arbiter is asked. -/
def runWaiting (n : Slot) (ops : List BusOp) (isRead : Bool) (s : State) : State :=
  { s with bus := { s.bus with linkRun := some ⟨n, ops, 0, false, [], isRead⟩ } }

theorem startLinkRun_eq {n : Slot} {op : BusOp} {ops : List BusOp} {isRead : Bool} {s : State}
    (h : s.bus.current = none → s.bus.sequence = []) :
    startLinkRun n (op :: ops) isRead s = { s with bus := runQueued n (op :: ops) isRead s } := by
  by_cases hc : s.bus.current = none
  · rw [runQueued_idle hc (h hc)]
    exact arbitrate_link (s := runWaiting n (op :: ops) isRead s) hc (h hc) rfl rfl (.inl rfl)
  · rw [runQueued_busy hc]
    exact arbitrate_busy (s := runWaiting n (op :: ops) isRead s) hc

theorem readOps_ne_nil {cell count : Nat} (h : 1 ≤ count) : ∃ op ops, readOps cell count = op :: ops := by
  obtain ⟨k, rfl⟩ := Nat.exists_eq_add_of_le' h
  unfold readOps
  split
  · rw [List.range_succ_eq_map]
    exact ⟨_, _, rfl⟩
  · exact ⟨_, _, rfl⟩

theorem writeOps_ne_nil {cell count : Nat} (h : 1 ≤ count) (p : List Byte) : ∃ op ops, writeOps cell count p = op :: ops := by
  obtain ⟨k, rfl⟩ := Nat.exists_eq_add_of_le' h
  unfold writeOps
  dsimp only
  split
  · rw [List.range_succ_eq_map]
    exact ⟨_, _, rfl⟩
  · exact ⟨_, _, rfl⟩

/-- Settles O19: the arbiter's choices case by case, and a run queued with its transactions. -/
theorem passThroughRunsBegin : Obligations.PassThroughRunsBegin := by
  refine ⟨fun s => ?_, fun dt tag n cell count values s b hlow hhigh hlen hcells => ?_⟩
  · intro begins
    exact ⟨arbitrate_busy, fun h => ⟨fun r op ops rest hs ht => arbitrate_sequence h hs ht, fun hs =>
      ⟨fun n r hw hl hb => arbitrate_pollInside h hs hw hl hb, fun r op ops hl ht hb => arbitrate_link h hs hl ht hb,
        fun n hw hl => arbitrate_poll h hs hw hl, fun hw hl => arbitrate_nothing hs hw hl⟩⟩⟩
  · intro pr pw reads writes begun hidle
    subst hlen
    have hfits : runFits cell values.length := ⟨hlow, hhigh, hcells⟩
    refine ⟨fun hturn => ⟨fun he => ?_, fun he => ?_⟩, fun hturn hcell => ⟨fun he => ?_, fun he => ?_⟩⟩
    · have hblock : adapterReadBlock (s.inService dt b) pr = unchanged .noBoard (s.inService dt b) :=
        if_pos (by rw [payloadSlot_slotByte]; exact he)
      exact request_quiet (a := .plain .noBoard) hturn (adapterReadCheck_none hfits n _) hblock
    · have hreads : readOps (byteAt pr 1) (byteAt pr 2) = reads := by
        rw [show byteAt pr 2 = values.length from countByte_toNat hhigh]
        rfl
      obtain ⟨op, ops, hops⟩ := readOps_ne_nil (cell := byteAt pr 1) (count := values.length) hlow
      have hblock : adapterReadBlock (s.inService dt b) pr =
          ({ s.inService dt b with bus := begun reads true }, none) := by
        rw [adapterReadBlock, payloadSlot_slotByte]
        refine (if_neg he).trans ?_
        rw [hreads, ← hreads, show byteAt pr 2 = values.length from countByte_toNat hhigh, hops, startLinkRun_eq (s := s.inService dt b) hidle]
        rfl
      exact request_kept hturn (adapterReadCheck_none hfits n _) hblock
    · have hblock : adapterWriteBlock (s.inService dt b) pw = unchanged .noBoard (s.inService dt b) :=
        if_pos (by rw [show payloadSlot pw = n from payloadSlot_slotByte ..]; exact he)
      exact request_quiet (a := .plain .noBoard) hturn (adapterWriteCheck_none hfits hcell n _) hblock
    · have hcount : byteAt pw 2 = values.length := countByte_toNat hhigh
      have hwrites : writeOps (byteAt pw 1) values.length pw = writes := writeOps_values cell.toNat pr rfl values
      obtain ⟨op, ops, hops⟩ := writeOps_ne_nil (cell := byteAt pw 1) (count := values.length) hlow pw
      have hblock : adapterWriteBlock (s.inService dt b) pw =
          ({ s.inService dt b with bus := begun writes false }, none) := by
        rw [adapterWriteBlock, show payloadSlot pw = n from payloadSlot_slotByte ..]
        refine (if_neg he).trans ?_
        rw [hcount, ← hwrites, hops, startLinkRun_eq (s := s.inService dt b) hidle]
        rfl
      exact request_kept hturn (adapterWriteCheck_none hfits hcell n _) hblock

end Sys2Proof.Machine

/-! #### The end of a transaction (R44), and pass-through runs (O20) -/

namespace Sys2Proof.Machine

/-- A transaction over at a moment, its adapter as it left it, before its result is delivered. -/
def transactionOver (n : Slot) (moment : Nat) (a : Adapter) (s : State) : State :=
  { s with now := max s.now moment, adapters := s.adapters.put n a, bus := { s.bus with current := none } }

/-- The adapter after a transaction it may not have received. -/
def performedIf (received : Bool) (op : BusOp) (a : Adapter) : Adapter := if received then a.perform op else a

theorem withOwn_none (a : Adapter) (op : BusOp) : a.withOwn op none = a := by
  unfold Adapter.withOwn
  split
  · next h => cases h
  · rfl

theorem exec_answered {s : State} (hp : s.powered = true) {t : Transaction} (h : s.bus.current = some t) :
    exec (.transactionAnswered (.good none)) s = .next (conclude (settle (arbitrate (deliverResult t
      (.answered (t.op.answer (s.adapter t.slot)))
      (transactionOver t.slot (t.began + 13500) ((s.adapter t.slot).perform t.op) s))))) := by
  refine (event_powered hp fun s => answerArrives (.good none) s).trans ?_
  simp only [answerArrives, h, withOwn_none]
  rfl

theorem exec_badParity {s : State} (hp : s.powered = true) {t : Transaction} (h : s.bus.current = some t)
    (received : Bool) :
    exec (.transactionAnswered (.badParity received)) s = .next (conclude (settle (arbitrate (deliverResult t .badAnswer
      (transactionOver t.slot (t.began + 13500) (performedIf received t.op (s.adapter t.slot)) s))))) := by
  refine (event_powered hp fun s => answerArrives (.badParity received) s).trans ?_
  simp only [answerArrives, h]
  rfl

theorem exec_noAnswer {s : State} (hp : s.powered = true) {t : Transaction} (h : s.bus.current = some t)
    (received : Bool) :
    exec (.answerWindowExpiry received) s = .next (conclude (settle (arbitrate (deliverResult t .noAnswer
      (transactionOver t.slot (t.began + 54000) (performedIf received t.op (s.adapter t.slot)) s))))) := by
  refine (event_powered hp fun s => answerExpires received s).trans ?_
  simp only [answerExpires, h]
  rfl

theorem settled_transactionOver {s : State} (h : Settled s) (n : Slot) (moment : Nat) (a : Adapter) :
    Settled (transactionOver n moment a s) := h

/-- A read that is not of the status cell hands the slot manager nothing. -/
theorem statusRead_other {t : Transaction} (h : t.op ≠ .read 2) (res : TxResult) (s : State) : statusRead t res s = s := by
  unfold statusRead
  split
  · next c v _ hop =>
    refine if_neg fun hc => h ?_
    rw [hop, hc]
  · rfl

theorem giveReply_found {a : Answer} {q : Place} {s : State} (h : s.link.buffer.find? (fun x => x.stage == .inService) = some q) :
    giveReply a s = { s with link := s.link.replied s.link.buffer ⟨q.kind, q.tag, a.result, a.data⟩ } := by
  rw [giveReply, h]
  rfl

/-- The data of a pass-through reply, word by word. -/
theorem linkData_eq (values : List Word16) : linkData values = values.flatMap wordBytes := by
  unfold linkData
  exact congrArg (fun f => values.flatMap f) (funext le2_toNat)

/-- A pass-through run that is over answers its request, and leaves the bus idle. -/
theorem arbitrate_endLinkRun {a : Answer} {q : Place} {s : State} (hs : s.bus.sequence = []) (hw : s.bus.waitingPoll = none)
    (hq : s.link.buffer.find? (fun x => x.stage == .inService) = some q) :
    arbitrate (endLinkRun a s) = { s with
      bus := { s.bus with linkRun := none }
      link := s.link.replied s.link.buffer ⟨q.kind, q.tag, a.result, a.data⟩ } := by
  rw [endLinkRun, giveReply_found (by exact hq)]
  exact arbitrate_nothing hs hw rfl

theorem deliverResult_link {t : Transaction} (ho : t.owner = .link) (hd : t.discard = false) (hop : t.op ≠ .read 2)
    (res : TxResult) (s : State) : deliverResult t res s = linkEnds res s := by
  rw [deliverResult, hd, ho, statusRead_other hop]
  rfl

/-- Settles O20: the end of a transaction by its result; the run goes on, or its request is answered. -/
theorem passThroughTransactionsEnd : Obligations.PassThroughTransactionsEnd := by
  intro n op began r q s hp hsettled hcur hrun hseq hpoll hop hfind a values reply idle soon
  have hdeliver := deliverResult_link (t := ⟨n, op, .link, began, false⟩) rfl rfl hop
  refine ⟨fun o rest htodo => ?_, fun htodo => ?_, fun received => ?_, fun received => ?_⟩
  · rw [exec_answered hp hcur, hdeliver]
    have hends : linkEnds (.answered (op.answer a)) (transactionOver n (began + 13500) (a.perform op) s) =
        { transactionOver n (began + 13500) (a.perform op) s with bus := { s.bus with
          current := none, linkRun := some { r with ended := r.ended + 1, values := values } } } := by
      simp only [linkEnds, transactionOver, hrun, htodo, List.isEmpty_cons, Bool.false_eq_true, ↓reduceIte]
      rfl
    refine congrArg (fun u => Host.Outcome.next (conclude u)) ?_
    dsimp only
    rw [hends, arbitrate_link (by rfl) (by exact hseq) (by rfl) (by exact htodo) (by exact .inr hpoll), settle_settled (by exact hsettled)]
    rfl
  · rw [exec_answered hp hcur, hdeliver]
    have hends : linkEnds (.answered (op.answer a)) (transactionOver n (began + 13500) (a.perform op) s) =
        endLinkRun ⟨.ok, linkData values⟩ (transactionOver n (began + 13500) (a.perform op) s) := by
      simp only [linkEnds, transactionOver, hrun, htodo, List.isEmpty_nil, ↓reduceIte]
      rfl
    refine congrArg (fun u => Host.Outcome.next (conclude u)) ?_
    dsimp only
    rw [hends, arbitrate_endLinkRun (by exact hseq) (by exact hpoll) (by exact hfind), settle_settled (by exact hsettled), linkData_eq]
    rfl
  · rw [exec_badParity hp hcur, hdeliver]
    have hends (u : Adapter) : linkEnds .badAnswer (transactionOver n (began + 13500) u s) =
        endLinkRun (.plain .badAnswer) (transactionOver n (began + 13500) u s) := by
      simp only [linkEnds, transactionOver, hrun]
    refine congrArg (fun u => Host.Outcome.next (conclude u)) ?_
    dsimp only
    rw [hends, arbitrate_endLinkRun (by exact hseq) (by exact hpoll) (by exact hfind), settle_settled (by exact hsettled)]
    rfl
  · rw [exec_noAnswer hp hcur, hdeliver]
    have hends (u : Adapter) : linkEnds .noAnswer (transactionOver n (began + 54000) u s) =
        endLinkRun (.plain .noAnswer) (transactionOver n (began + 54000) u s) := by
      simp only [linkEnds, transactionOver, hrun]
    refine congrArg (fun u => Host.Outcome.next (conclude u)) ?_
    dsimp only
    rw [hends, arbitrate_endLinkRun (by exact hseq) (by exact hpoll) (by exact hfind), settle_settled (by exact hsettled)]
    rfl

end Sys2Proof.Machine

/-! ### The slot manager, for a slot apart from the controls

A slot that has neither the controls nor a claim to them moves with no other effect than its record, its notice and
its report. With no changeover in flight the controller acts only on what the current slot reports. -/

namespace Sys2Proof.Machine

/-! #### Reports that the controller lets pass -/

/-- The report is of a slot. -/
def Report.of (n : Slot) : Report → Prop
  | .slot m _ _ _ => m = n
  | .dipFailed m => m = n
  | .monitor src _ => src = n.source
  | .ready m _ => m = n

/-- The report is of a slot on its way up, which no rule of the loss of the current board speaks of (R95 to R98). -/
def Report.rising (n : Slot) : Report → Prop
  | .slot m _ new cause => m = n ∧ (new = .powering ∨ new = .booting ∨ (new = .held ∧ cause ≠ .restart))
  | .dipFailed _ | .monitor .. | .ready .. => False

/-- With no changeover in flight and `c` current, the controller does nothing about the report. -/
def Report.passive (c : Slot) (rep : Report) : Prop := ∀ s : State, onCurrent c rep s = s

theorem Slot.source_injective {n m : Slot} (h : n.source = m.source) : n = m := by
  simpa [Slot.source, Fin.ext_iff] using h

theorem Report.of.passive {n c : Slot} {rep : Report} (h : rep.of n) (hc : c ≠ n) : rep.passive c := by
  intro s
  cases rep with
  | slot m old new cause => exact if_neg fun heq : m = c => hc (heq.symm.trans h)
  | dipFailed m => exact if_neg fun heq : m = c => hc (heq.symm.trans h)
  | monitor src st => exact if_neg fun heq : src = c.source => hc (Slot.source_injective (heq.symm.trans h))
  | ready m sig => rfl

theorem Report.rising.of {n : Slot} {rep : Report} (h : rep.rising n) : rep.of n := by
  cases rep with
  | slot m old new cause => exact h.1
  | dipFailed m => exact h.elim
  | monitor src st => exact h.elim
  | ready m sig => exact h.elim

theorem Report.rising.passive {n : Slot} {rep : Report} (h : rep.rising n) (c : Slot) : rep.passive c := by
  intro s
  cases rep with
  | slot m old new cause =>
    obtain ⟨-, hnew⟩ := h
    have hstate : onCurrentState c old new cause s = s := by
      rcases hnew with rfl | rfl | ⟨rfl, hcause⟩
      · rfl
      · rfl
      · cases cause <;> first | rfl | exact absurd rfl hcause
    rw [onCurrent, hstate, ite_self]
  | dipFailed m => exact h.elim
  | monitor src st => exact h.elim
  | ready m sig => exact h.elim

theorem foldl_onReport_passive {s : State} (hr : s.co.record = none) (hs : s.reports = []) (rs : List Report)
    (h : ∀ c, s.co.current = some c → ∀ rep ∈ rs, rep.passive c) : rs.foldl onReport s = s := by
  induction rs with
  | nil => rfl
  | cons rep rs ih =>
    have hone : onReport s rep = s := by
      have hclear : ({ s with reports := [] } : State) = s := by rw [← hs]
      unfold onReport
      rw [hr]
      dsimp only
      cases hc : s.co.current with
      | none => exact hclear
      | some c =>
        dsimp only
        rw [h c hc rep List.mem_cons_self s, hclear]
    rw [List.foldl_cons, hone]
    exact ih fun c hc rep hrep => h c hc rep (List.mem_cons_of_mem _ hrep)

/-- The controller lets the reports pass, and nothing is left to do. -/
theorem settle_passive {s : State} (hr : s.co.record = none)
    (h : ∀ c, s.co.current = some c → ∀ rep ∈ s.reports, rep.passive c) : settle s = { s with reports := [] } := by
  rw [settle, foldl_onReport_passive (s := { s with reports := [] }) hr rfl _ h, conduct_idle (by exact hr)]

/-! #### Moves of one slot -/

/-- The kind of the SLOT notices. -/
def slotKinds : List (Fin 11) := [1]

/-- What a move of slot `n` does: it changes the blocks `L` alone, posts notices of the kinds `K`, leaves every other
slot's record alone and reports what `R` says. -/
structure Moves (K : List (Fin 11)) (L : List Block) (R : Report → Prop) (n : Slot) (s t : State) : Prop where
  same : SameOutside L s t
  posts : Posts K s t
  others : Others n s t
  reports : ∃ rs, t.reports = s.reports ++ rs ∧ ∀ rep ∈ rs, R rep

section
variable {K K' : List (Fin 11)} {L L' : List Block} {R R' : Report → Prop} {n : Slot} {s t u : State}

theorem Moves.refl : Moves K L R n s s := ⟨.refl _ _, .refl _ _, .refl _ _, [], by simp, by simp⟩

theorem Moves.trans (h : Moves K L R n s t) (h' : Moves K L R n t u) : Moves K L R n s u := by
  obtain ⟨rs, hrs, hR⟩ := h.reports
  obtain ⟨rs', hrs', hR'⟩ := h'.reports
  refine ⟨h.same.trans h'.same, h.posts.trans h'.posts, h.others.trans h'.others, rs ++ rs',
    by rw [hrs', hrs, List.append_assoc], fun rep hrep => ?_⟩
  rcases List.mem_append.1 hrep with hrep | hrep
  · exact hR rep hrep
  · exact hR' rep hrep

theorem Moves.after (h' : Moves K L R n t u) (h : Moves K L R n s t) : Moves K L R n s u := h.trans h'

theorem Moves.mono (h : Moves K L R n s t) (hK : K ⊆ K') (hL : L ⊆ L') (hR : ∀ rep, R rep → R' rep) :
    Moves K' L' R' n s t := by
  obtain ⟨rs, hrs, hall⟩ := h.reports
  exact ⟨h.same.mono hL, h.posts.mono hK, h.others, rs, hrs, fun rep hrep => hR rep (hall rep hrep)⟩

/-- An operation that posts nothing, reports nothing and changes no slot's record. -/
theorem Moves.of_same (h : SameOutside L s t) (hlink : Block.link ∉ L) (hslots : Block.slots ∉ L)
    (hreports : Block.reports ∉ L) : Moves K L R n s t :=
  ⟨h, .of_eq (h.same .link hlink), .of_same h hslots, [], by rw [List.append_nil]; exact h.same .reports hreports, by simp⟩

theorem Moves.apart (h : Moves K L R n s t) (hL : Block.router ∉ L) (ha : Apart n s) : Apart n t := by
  have hrouter : t.router = s.router := h.same.same .router hL
  rw [Apart, hrouter]
  exact ha

/-- What is left of a move once the controller has let its reports pass. -/
theorem Moves.settle (h : Moves K L R n s t) (hs : Settled s) (hL : Block.co ∉ L)
    (hR : ∀ c, s.co.current = some c → ∀ rep, R rep → rep.passive c) : settle t = { t with reports := [] } := by
  obtain ⟨hrecord, hnone⟩ := hs
  obtain ⟨rs, hrs, hall⟩ := h.reports
  have hco : t.co = s.co := h.same.same .co hL
  refine settle_passive (by rw [hco]; exact hrecord) fun c hc rep hrep => hR c (by rw [← hco]; exact hc) rep (hall rep ?_)
  rwa [hrs, hnone, List.nil_append] at hrep

/-- A move that only a slot other than the current one reports. -/
theorem Moves.settle_of (h : Moves K L (Report.of n) n s t) (hs : Settled s) (hL : Block.co ∉ L)
    (hc : s.co.current ≠ some n) : Machine.settle t = { t with reports := [] } :=
  h.settle hs hL fun c hcur _ hrep => hrep.passive fun heq => hc (heq ▸ hcur)

theorem Moves.settle_rising (h : Moves K L (Report.rising n) n s t) (hs : Settled s) (hL : Block.co ∉ L) :
    Machine.settle t = { t with reports := [] } :=
  h.settle hs hL fun c _ _ hrep => hrep.passive c

/-- The frame of an operation whose reports have been taken. -/
theorem SameOutside.cleared (h : SameOutside L s t) (hs : s.reports = []) (hL : ∀ b ∈ L, b ∈ L' ∨ b = .reports) :
    SameOutside L' s { t with reports := [] } := by
  refine ⟨fun b hb => ?_⟩
  by_cases hr : b = .reports
  · subst hr
    exact hs.symm
  · have hsame := h.same b fun hbL => (hL b hbL).elim hb hr
    cases b <;> first | exact hsame | exact absurd rfl hr

theorem Moves.cleared (h : Moves K L R n s t) (hs : Settled s) (hL : ∀ b ∈ L, b ∈ L' ∨ b = .reports) :
    SameOutside L' s { t with reports := [] } := SameOutside.cleared h.same hs.2 hL

end

/-- A record replaced. -/
theorem setSlot_moves {K : List (Fin 11)} {R : Report → Prop} (n : Slot) (r : SlotRecord) (s : State) :
    Moves K [.slots] R n s (s.setSlot n r) :=
  ⟨State.setSlot_same .., .of_eq rfl, setSlot_others .., [], by simp, by simp⟩

/-- A move of a slot apart from the controls: its record, its notice and its report, and nothing else. -/
theorem enter_apart {n : Slot} {s : State} (h : Apart n s) (new : SlotState) (cause : SlotCause) :
    enter n new cause s =
      (post (.slot n new cause (s.slot n).kind) (moved n new s)).report (.slot n (s.slot n).state new cause) := by
  have hrouter : (post (.slot n new cause (s.slot n).kind) (moved n new s)).router = s.router :=
    (post_same ..).same .router (by decide)
  obtain ⟨howner, hclaim⟩ := h
  rw [enter_eq, routerSlotChanged, hrouter, if_neg fun h => howner h.1, if_neg hclaim,
    judgePulse_waits (.inr (by rw [hrouter]; exact howner))]

/-- A state on the way up, at which a claim to the controls stays as it is (R147). -/
def SlotState.rising (st : SlotState) : Prop := st = .powering ∨ st = .booting ∨ st = .held

/-- A slot without the controls goes up: its record, its notice and its report, and nothing else. -/
theorem enter_rising {n : Slot} {s : State} (h : s.router.owner ≠ .slot n) {new : SlotState} (hnew : new.rising)
    (cause : SlotCause) :
    enter n new cause s =
      (post (.slot n new cause (s.slot n).kind) (moved n new s)).report (.slot n (s.slot n).state new cause) := by
  have hrouter : (post (.slot n new cause (s.slot n).kind) (moved n new s)).router = s.router :=
    (post_same ..).same .router (by decide)
  have hclaim (u : State) : claimChanged n new u = u := by
    rcases hnew with rfl | rfl | rfl <;> rfl
  rw [enter_eq, routerSlotChanged, hrouter, if_neg fun h' => h h'.1, hclaim, ite_self,
    judgePulse_waits (.inr (by rw [hrouter]; exact h))]

/-- What a slot's move is, where neither the router nor the coin unit acts on it. -/
theorem Moves.of_enter {R : Report → Prop} {n : Slot} {s : State} {new : SlotState} {cause : SlotCause}
    (h : enter n new cause s =
      (post (.slot n new cause (s.slot n).kind) (moved n new s)).report (.slot n (s.slot n).state new cause))
    (hR : R (.slot n (s.slot n).state new cause)) :
    Moves slotKinds [.link, .slots, .reports] R n s (enter n new cause s) := by
  refine ⟨?_, ?_, enter_others .., [_], ?_, by simpa using hR⟩
  · rw [h]
    exact (State.report_same ..).after ((post_same ..).after ((State.setSlot_same ..).mono (by decide)) (by decide))
      (by decide)
  · rw [h]
    have hpost : Posts slotKinds (moved n new s) (post (.slot n new cause (s.slot n).kind) (moved n new s)) :=
      post_posts (kinds := slotKinds) (List.mem_cons_self (l := [])) _
    exact ((Posts.of_eq rfl).trans hpost).trans (.of_eq rfl)
  · rw [h]
    exact congrArg (· ++ _) (((post_same ..).same .reports (by decide)).trans rfl)

theorem enter_moves {R : Report → Prop} {n : Slot} {s : State} (h : Apart n s) {new : SlotState} {cause : SlotCause}
    (hR : R (.slot n (s.slot n).state new cause)) :
    Moves slotKinds [.link, .slots, .reports] R n s (enter n new cause s) := .of_enter (enter_apart h new cause) hR

/-- The notice of a move. -/
theorem enter_posts {n : Slot} {s : State} (h : Apart n s) (new : SlotState) (cause : SlotCause)
    (hm : s.link.mask.at 1 = true) :
    ∃ e ∈ (enter n new cause s).link.notices, e.notice = .slot n new cause (s.slot n).kind := by
  rw [enter_apart h]
  obtain ⟨e, he, hn, -⟩ := exists_post (n := .slot n new cause (s.slot n).kind) (s := moved n new s)
    (fun m => by cases m <;> rfl) hm
  exact ⟨e, he, hn⟩

/-! #### Powering up (R25 to R28) -/

/-- The blocks that a slot on its way up changes. -/
def riseBlocks : List Block := [.link, .slots, .bus, .reports]

/-- What a slot on its way up does. -/
abbrev Rises (n : Slot) (s t : State) : Prop := Moves slotKinds riseBlocks (Report.rising n) n s t

theorem setSlot_rises (n : Slot) (r : SlotRecord) (s : State) : Rises n s (s.setSlot n r) :=
  (setSlot_moves n r s).mono (fun _ h => h) (by decide) fun _ h => h

theorem Rises.owner {n : Slot} {s t : State} (h : Rises n s t) (ho : s.router.owner ≠ .slot n) :
    t.router.owner ≠ .slot n := by
  have hrouter : t.router = s.router := h.same.same .router (by decide)
  rw [hrouter]
  exact ho

theorem enter_rises {n : Slot} {s : State} (h : s.router.owner ≠ .slot n) {new : SlotState} {cause : SlotCause}
    (hnew : new = .powering ∨ new = .booting ∨ (new = .held ∧ cause ≠ .restart)) : Rises n s (enter n new cause s) := by
  have hrising : new.rising := hnew.imp_right fun h => h.imp_right And.left
  exact (Moves.of_enter (R := Report.rising n) (enter_rising h hrising cause) ⟨rfl, hnew⟩).mono (fun _ h => h) (by decide)
    fun _ h => h

theorem Rises.of_bus {n : Slot} {s t : State} (h : SameOutside [.bus] s t) : Rises n s t :=
  (Moves.of_same (L := [.bus]) h (by decide) (by decide) (by decide)).mono (fun _ h => h) (by decide) fun _ h => h

/-- The record with reset to be released: the run-up over, the boot window started (R27, R28). -/
def released (n : Slot) (s : State) : SlotRecord :=
  { s.slot n with runUp := false, applying := false, bootWindow := some (s.now + ms (s.profile n).general.bootTime) }

theorem release_eq (n : Slot) (s : State) : release n s = enter n .booting .released (s.setSlot n (released n s)) := rfl

theorem release_rises {n : Slot} {s : State} (h : s.router.owner ≠ .slot n) : Rises n s (release n s) :=
  (setSlot_rises n (released n s) s).trans (enter_rises (s := s.setSlot n (released n s)) h (.inr (.inl rfl)))

theorem release_slot (n : Slot) (s : State) : (release n s).slot n = (released n s).move .booting := enterWith_slot ..

theorem release_bus (n : Slot) (s : State) : (release n s).bus = s.bus := (release_same n s).same .bus (by decide)

theorem proceedHeld_eq (n : Slot) (s : State) :
    proceedHeld n s =
      if (s.slot n).runUp then
        (if (s.profile n).dips.apply then
          handOver n (s.profile n).dips.banks (s.setSlot n { s.slot n with applying := true })
        else release n s)
      else s := rfl

theorem proceedHeld_rises {n : Slot} {s : State} (h : s.router.owner ≠ .slot n) : Rises n s (proceedHeld n s) := by
  rw [proceedHeld_eq]
  split
  · split
    · exact (setSlot_rises ..).trans (Rises.of_bus (handOver_same ..))
    · exact release_rises h
  · exact .refl

theorem proceedHeld_slot (n : Slot) (s : State) :
    (proceedHeld n s).slot n =
      if (s.slot n).runUp then
        (if (s.profile n).dips.apply then { s.slot n with applying := true } else (released n s).move .booting)
      else s.slot n := by
  rw [proceedHeld_eq]
  split
  · split
    · rw [handOver_slot]
      exact State.slot_setSlot_self ..
    · exact release_slot ..
  · rfl

/-- The arbiter reads the bus and the time alone. -/
theorem arbitrate_bus_congr {s t : State} (hb : t.bus = s.bus) (hn : t.now = s.now) : (arbitrate t).bus = (arbitrate s).bus := by
  obtain ⟨_, _, _, _, _, _, _, _⟩ := s
  obtain ⟨_, _, _, _, _, _, bus, _⟩ := t
  dsimp only at hb hn
  subst hb hn
  obtain ⟨current, sequence, linkRun, waiting, _, _, _, _⟩ := bus
  rcases current with _ | c
  · rcases sequence with _ | ⟨⟨slot, _ | ⟨op, ops⟩, banks⟩, rest⟩
    · rcases linkRun with _ | ⟨slot, _ | ⟨op, ops⟩, ended, _ | _, values, isRead⟩ <;> rcases waiting with _ | m <;> rfl
    · rcases linkRun with _ | ⟨slot, _ | ⟨op, ops⟩, ended, _ | _, values, isRead⟩ <;> rcases waiting with _ | m <;> rfl
    · rfl
  · rfl

theorem handOver_bus_congr (n : Slot) (banks : Tab Byte 4) {s t : State} (hb : t.bus = s.bus) (hn : t.now = s.now) :
    (handOver n banks t).bus = (handOver n banks s).bus := by
  unfold handOver withdrawApply
  exact arbitrate_bus_congr (by simp only [hb]) hn

/-- What becomes of the bus when a slot in HELD goes on: a DIP apply is handed over, or the bus is left alone (R27). -/
theorem proceedHeld_bus (n : Slot) (s : State) :
    (proceedHeld n s).bus =
      if (s.slot n).runUp && (s.profile n).dips.apply then (handOver n (s.profile n).dips.banks s).bus else s.bus := by
  rw [proceedHeld_eq]
  cases (s.slot n).runUp with
  | false => rfl
  | true =>
    cases (s.profile n).dips.apply with
    | false => exact release_bus ..
    | true => exact handOver_bus_congr _ _ rfl rfl

theorem powerGoodSeen_eq (n : Slot) (s : State) :
    powerGoodSeen n s = proceedHeld n (enter n .held .powerGood (s.setSlot n { s.slot n with pgWindow := none })) := rfl

theorem powerGoodSeen_rises {n : Slot} {s : State} (h : s.router.owner ≠ .slot n) : Rises n s (powerGoodSeen n s) := by
  have hheld : Rises n s (enter n .held .powerGood (s.setSlot n { s.slot n with pgWindow := none })) :=
    (setSlot_rises ..).trans (enter_rises (s := s.setSlot n { s.slot n with pgWindow := none }) h
      (.inr (.inr ⟨rfl, by decide⟩)))
  rw [powerGoodSeen_eq]
  exact hheld.trans (proceedHeld_rises (hheld.owner h))

end Sys2Proof.Machine

/-! ### The end of a DIP apply (O22) -/

namespace Sys2Proof.Machine

/-! #### A hand-over (R50, R51) -/

theorem withdrawApply_current {n : Slot} {s : State} {t : Transaction} (h : s.bus.current = some t) :
    (withdrawApply n s).bus.current = some (if t.owner = .sequence ∧ t.slot = n then { t with discard := true } else t) := by
  simp only [withdrawApply, h, Option.map_some]

/-- The state in which a DIP apply handed over waits, before the arbiter is asked. -/
def applyWaiting (n : Slot) (banks : Tab Byte 4) (s : State) : State :=
  { withdrawApply n s with bus := { (withdrawApply n s).bus with
    sequence := (withdrawApply n s).bus.sequence ++ [⟨n, applyOps banks, banks⟩] } }

theorem handOver_busy {n : Slot} {banks : Tab Byte 4} {s : State} {t : Transaction} (h : s.bus.current = some t) :
    handOver n banks s = { s with bus := { s.bus with
      sequence := (s.bus.sequence.filter fun r => r.slot != n) ++ [⟨n, applyOps banks, banks⟩]
      current := some (if t.owner = .sequence ∧ t.slot = n then { t with discard := true } else t) } } := by
  have hcurrent := withdrawApply_current (n := n) h
  have hwait : (applyWaiting n banks s).bus.current ≠ none := by
    change (withdrawApply n s).bus.current ≠ none
    rw [hcurrent]
    exact Option.some_ne_none _
  refine (arbitrate_busy hwait).trans ?_
  simp only [applyWaiting, withdrawApply] at hcurrent ⊢
  rw [hcurrent]

theorem handOver_idle {n : Slot} {banks : Tab Byte 4} {s : State} (h : s.bus.current = none)
    (hothers : (s.bus.sequence.filter fun r => r.slot != n) = []) {op : BusOp} {ops : List BusOp}
    (hops : applyOps banks = op :: ops) :
    handOver n banks s = { s with bus := { s.bus with
      sequence := [⟨n, ops, banks⟩], current := some ⟨n, op, .sequence, s.now, false⟩ } } := by
  have hcurrent : (applyWaiting n banks s).bus.current = none := by
    change Option.map _ s.bus.current = none
    rw [h]
    rfl
  have hsequence : (applyWaiting n banks s).bus.sequence = [⟨n, applyOps banks, banks⟩] := by
    change (s.bus.sequence.filter fun r => r.slot != n) ++ _ = _
    rw [hothers]
    rfl
  exact arbitrate_sequence hcurrent hsequence hops

/-! #### The answers of a run (R50) -/

theorem bankOf_cell (r : ApplyRun) (k : Fin 4) : r.bankOf ⟨3 + k.val, by omega⟩ = (r.banks.at k).setWidth 16 := by
  have hlist : r.banks.toList.getD k.val 0 = r.banks.at k := by
    rw [List.getD_eq_getElem _ _ (by simp)]
    simp [Tab.at, Vector.get_eq_getElem]
  rw [ApplyRun.bankOf, Nat.add_sub_cancel_left, hlist]

theorem stepMatches_write (r : ApplyRun) (c : Fin 256) (v : Word16) (a : Adapter) :
    stepMatches r (.write c v) (BusOp.answer a (.write c v)) = true := rfl

theorem stepMatches_read (r : ApplyRun) (k : Fin 4) (a : Adapter) :
    stepMatches r (.read ⟨3 + k.val, by omega⟩) (BusOp.answer a (.read ⟨3 + k.val, by omega⟩)) =
      decide (a.cells.at ⟨3 + k.val, by omega⟩ = (r.banks.at k).setWidth 16) := by
  rw [← bankOf_cell]
  exact beq_eq_decide ..

/-! #### A run that ends -/

/-- The oldest run gone from the queue. -/
def runOver (s : State) : State := { s with bus := { s.bus with sequence := s.bus.sequence.tail } }

theorem sequenceEnds_answered {t : Transaction} {r : ApplyRun} {rest : List ApplyRun} {v : Option Word16} {s : State}
    (h : s.bus.sequence = r :: rest) :
    sequenceEnds t (.answered v) s =
      if stepMatches r t.op v then (if r.todo.isEmpty then release r.slot (runOver s) else s)
      else applyFailed r.slot (runOver s) := by
  simp only [sequenceEnds, h, endApply, runOver, applyMatched, ↓reduceIte, Bool.false_eq_true]

theorem sequenceEnds_unanswered {t : Transaction} {r : ApplyRun} {rest : List ApplyRun} {res : TxResult} {s : State}
    (h : s.bus.sequence = r :: rest) (hres : res = .badAnswer ∨ res = .noAnswer) :
    sequenceEnds t res s = applyFailed r.slot (runOver s) := by
  rcases hres with rfl | rfl <;> simp only [sequenceEnds, h, endApply, runOver, ↓reduceIte, Bool.false_eq_true]

theorem applyFailed_eq (n : Slot) (s : State) :
    applyFailed n s =
      (post (.slot n (s.slot n).state .dipMismatch (s.slot n).kind)
        (s.setSlot n { s.slot n with runUp := false, applying := false })).report (.dipFailed n) := by
  unfold applyFailed
  dsimp only
  rw [State.slot_setSlot_self]

theorem applyFailed_slots (n : Slot) (s : State) :
    (applyFailed n s).slots = s.slots.put n { s.slot n with runUp := false, applying := false } := by
  rw [applyFailed_eq]
  exact (post_same ..).same .slots (by decide)

/-- A failed apply leaves the slot where it is and tells the host and the controller (R27). -/
theorem applyFailed_moves (n : Slot) (s : State) :
    Moves slotKinds [.link, .slots, .reports] (Report.of n) n s (applyFailed n s) := by
  refine ⟨?_, ?_, ⟨fun m hm => ?_⟩, [.dipFailed n], ?_, by simp [Report.of]⟩
  · have hset : SameOutside [.link, .slots, .reports] s (s.setSlot n { s.slot n with runUp := false, applying := false }) :=
      (State.setSlot_same ..).mono (by decide)
    rw [applyFailed_eq]
    exact (State.report_same ..).after ((post_same ..).after hset (by decide)) (by decide)
  · have hpost : Posts slotKinds (s.setSlot n { s.slot n with runUp := false, applying := false })
        (post (.slot n (s.slot n).state .dipMismatch (s.slot n).kind)
          (s.setSlot n { s.slot n with runUp := false, applying := false })) :=
      post_posts (kinds := slotKinds) (List.mem_cons_self (l := [])) _
    rw [applyFailed_eq]
    exact ((Posts.of_eq rfl).trans hpost).trans (.of_eq rfl)
  · rw [State.slot, applyFailed_slots]
    exact (Tab.at_put ..).trans (if_neg hm)
  · rw [applyFailed_eq]
    exact congrArg (· ++ _) (((post_same ..).same .reports (by decide)).trans rfl)

theorem applyFailed_posts {n : Slot} {s : State} (hm : s.link.mask.at 1 = true) :
    ∃ e ∈ (applyFailed n s).link.notices, e.notice = .slot n (s.slot n).state .dipMismatch (s.slot n).kind := by
  rw [applyFailed_eq]
  obtain ⟨e, he, hn, -⟩ := exists_post (n := .slot n (s.slot n).state .dipMismatch (s.slot n).kind)
    (s := s.setSlot n { s.slot n with runUp := false, applying := false }) (fun m => by cases m <;> rfl) hm
  exact ⟨e, he, hn⟩

/-- The state in which the slot manager hears of a run's end: the transaction is over, the run is gone, the bus idle. -/
def applyOver (n : Slot) (moment : Nat) (a : Adapter) (s : State) : State := runOver (transactionOver n moment a s)

theorem applyOver_bus {n : Slot} {moment : Nat} {a : Adapter} {s : State} {r : ApplyRun} (h : s.bus.sequence = [r]) :
    (applyOver n moment a s).bus = { s.bus with current := none, sequence := [] } := by
  simp only [applyOver, runOver, transactionOver, h, List.tail_cons]

theorem applyOver_same (n : Slot) (moment : Nat) (a : Adapter) (s : State) :
    SameOutside [.now, .adapters, .bus] s (applyOver n moment a s) :=
  ⟨fun b hb => by cases b <;> first | rfl | exact absurd (by decide) hb⟩

/-- An operation of the slot manager that leaves an idle bus idle, with nothing for the arbiter to choose. -/
theorem arbitrate_quietBus {s t : State} (hb : t.bus = s.bus) (hs : s.bus.sequence = []) (hw : s.bus.waitingPoll = none)
    (hl : s.bus.linkRun = none) : arbitrate t = t :=
  arbitrate_nothing (by rw [hb, hs]) (by rw [hb, hw]) (by rw [hb, hl])

/-- What a failed run leaves, whatever made it fail (R27, R50). -/
theorem applyFailed_settled {n : Slot} {moment : Nat} {a : Adapter} {s : State} {r : ApplyRun} (hsettled : Settled s)
    (hseq : s.bus.sequence = [r]) (hlink : s.bus.linkRun = none) (hpoll : s.bus.waitingPoll = none)
    (hheld : (s.slot n).state = .held) (hcur : s.co.current ≠ some n) :
    let u : State := { applyFailed n (applyOver n moment a s) with reports := [] }
    settle (arbitrate (applyFailed n (applyOver n moment a s))) = u ∧ u.now = max s.now moment ∧
      u.adapters = s.adapters.put n a ∧ u.bus = { s.bus with current := none, sequence := [] } ∧
      u.slots = s.slots.put n { s.slot n with runUp := false, applying := false } ∧
      (s.link.mask.at 1 = true → ∃ e ∈ u.link.notices, e.notice = .slot n .held .dipMismatch (s.slot n).kind) ∧
      SameOutside [.now, .link, .slots, .adapters, .bus] s u := by
  intro u
  have hmoves := applyFailed_moves n (applyOver n moment a s)
  have hbus := applyOver_bus (n := n) (moment := moment) (a := a) hseq
  have hkept : (applyFailed n (applyOver n moment a s)).bus = (applyOver n moment a s).bus :=
    hmoves.same.same .bus (by decide)
  refine ⟨?_, hmoves.same.same .now (by decide), hmoves.same.same .adapters (by decide), hkept.trans hbus,
    applyFailed_slots .., fun hm => ?_, ?_⟩
  · rw [arbitrate_quietBus hkept (by rw [hbus]) (by rw [hbus]; exact hpoll) (by rw [hbus]; exact hlink)]
    exact hmoves.settle_of hsettled (by decide) hcur
  · obtain ⟨e, he, hn⟩ := applyFailed_posts (n := n) (s := applyOver n moment a s) hm
    refine ⟨e, he, hn.trans ?_⟩
    rw [show ((applyOver n moment a s).slot n).state = .held from hheld]
    rfl
  · have hover := (applyOver_same n moment a s).mono
      (by decide : _ ⊆ [Block.now, .link, .slots, .adapters, .bus, .reports])
    exact SameOutside.cleared (hmoves.same.after hover (by decide)) hsettled.2 (by decide)

theorem put_adapter (n : Slot) (s : State) : s.adapters.put n (s.adapter n) = s.adapters := Tab.put_at ..

/-- What a run that ends well leaves: the slot goes on to BOOTING (R27). -/
theorem release_settled {n : Slot} {moment : Nat} {s : State} {r : ApplyRun} (hsettled : Settled s)
    (hseq : s.bus.sequence = [r]) (hlink : s.bus.linkRun = none) (hpoll : s.bus.waitingPoll = none) (hapart : Apart n s) :
    let u : State := { release n (applyOver n moment (s.adapter n) s) with reports := [] }
    settle (arbitrate (release n (applyOver n moment (s.adapter n) s))) = u ∧ u.now = max s.now moment ∧
      u.bus = { s.bus with current := none, sequence := [] } ∧
      u.slot n = (released n (applyOver n moment (s.adapter n) s)).move .booting ∧ (∀ m, m ≠ n → u.slot m = s.slot m) ∧
      SameOutside [.now, .link, .slots, .bus] s u := by
  intro u
  have hrises := release_rises (n := n) (s := applyOver n moment (s.adapter n) s) hapart.1
  have hbus := applyOver_bus (n := n) (moment := moment) (a := s.adapter n) hseq
  have hover : SameOutside [.now, .link, .slots, .bus, .reports] s (applyOver n moment (s.adapter n) s) := by
    refine ⟨fun b hb => ?_⟩
    by_cases hb' : b = .adapters
    · subst hb'
      exact put_adapter n s
    · exact (applyOver_same n moment (s.adapter n) s).same b fun h => by simp_all
  refine ⟨?_, hrises.same.same .now (by decide), (release_bus ..).trans hbus, release_slot .., hrises.others.slot,
    SameOutside.cleared (hrises.same.after hover (by decide)) hsettled.2 (by decide)⟩
  rw [arbitrate_quietBus (release_bus ..) (by rw [hbus]) (by rw [hbus]; exact hpoll) (by rw [hbus]; exact hlink)]
  exact hrises.settle_rising hsettled (by decide)

/-- Settles O22: the hand-over by the bus's state, a run's step by its answer, and its end by what the slot manager
makes of it. -/
theorem dipApplyEnds : Obligations.DipApplyEnds := by
  refine ⟨fun n banks s => ⟨fun t ht => handOver_busy ht, fun hc ho => handOver_idle hc ho rfl⟩,
    fun n op began r s hp hsettled hcur hseq hr hlink hpoll => ?_,
    fun n began r s hp hsettled hcur hseq hr htodo hlink hpoll hheld hco hapart => ?_⟩
  · intro a soon cell good fails
    have hfails {x : Instr} {moment : Nat} {received : Bool}
        (hexec : exec x s = .next (conclude (settle (arbitrate
          (applyFailed n (applyOver n moment (performedIf received op a) s)))))) : fails x (max s.now moment) received := by
      intro hheld hco
      obtain ⟨hsettle, hnow, hadapters, hrest⟩ := applyFailed_settled (n := n) (moment := moment)
        (a := performedIf received op a) hsettled hseq hlink hpoll hheld hco
      refine ⟨_, hexec.trans (by rw [hsettle]), hnow, hadapters.trans ?_, hrest⟩
      cases received
      · exact put_adapter n s
      · rfl
    subst hr
    refine ⟨fun o todo htodo hgood => ?_, fun k hop hne => hfails ?_, fun received => hfails ?_, fun received => hfails ?_⟩
    · have hmatch : stepMatches r op (BusOp.answer a op) = true := by
        rcases hgood with ⟨c, v, rfl⟩ | ⟨k, rfl, heq⟩
        · rfl
        · exact (stepMatches_read r k a).trans (decide_eq_true heq)
      rw [exec_answered hp hcur]
      refine congrArg (fun u => Host.Outcome.next (conclude u)) ?_
      have hdeliver := sequenceEnds_answered (t := ⟨r.slot, op, .sequence, began, false⟩) (v := BusOp.answer a op)
        (s := transactionOver r.slot (began + 13500) (a.perform op) s) hseq
      rw [if_pos hmatch, htodo] at hdeliver
      refine (congrArg (fun u => settle (arbitrate u)) hdeliver).trans ?_
      dsimp only [List.isEmpty_cons]
      rw [if_neg Bool.false_ne_true, arbitrate_sequence (by rfl) (by exact hseq) (by exact htodo),
        settle_settled (by exact hsettled)]
      rfl
    · rw [exec_answered hp hcur]
      have hno : ¬stepMatches r op (BusOp.answer a op) = true := by
        subst hop
        rw [stepMatches_read r k a]
        exact fun h => hne (of_decide_eq_true h)
      have hdeliver := sequenceEnds_answered (t := ⟨r.slot, op, .sequence, began, false⟩) (v := BusOp.answer a op)
        (s := transactionOver r.slot (began + 13500) (a.perform op) s) hseq
      rw [if_neg hno] at hdeliver
      have hperform : a.perform op = performedIf false op a := by
        subst hop
        rfl
      rw [← hperform]
      exact congrArg (fun u => Host.Outcome.next (conclude (settle (arbitrate u)))) hdeliver
    · rw [exec_badParity hp hcur]
      exact congrArg (fun u => Host.Outcome.next (conclude (settle (arbitrate u))))
        (sequenceEnds_unanswered (t := ⟨r.slot, op, .sequence, began, false⟩)
          (s := transactionOver r.slot (began + 13500) (performedIf received op a) s) hseq (.inl rfl))
    · rw [exec_noAnswer hp hcur]
      exact congrArg (fun u => Host.Outcome.next (conclude (settle (arbitrate u))))
        (sequenceEnds_unanswered (t := ⟨r.slot, op, .sequence, began, false⟩)
          (s := transactionOver r.slot (began + 54000) (performedIf received op a) s) hseq (.inr rfl))
  · intro soon
    subst hr
    have hread : stepMatches r (.read 6) (BusOp.answer (s.adapter r.slot) (.read 6)) =
        decide ((s.adapter r.slot).cells.at 6 = (r.banks.at 3).setWidth 16) := stepMatches_read r 3 (s.adapter r.slot)
    have hdeliver := sequenceEnds_answered (t := ⟨r.slot, .read 6, .sequence, began, false⟩)
      (v := BusOp.answer (s.adapter r.slot) (.read 6))
      (s := transactionOver r.slot (began + 13500) (s.adapter r.slot) s) hseq
    rw [htodo] at hdeliver
    dsimp only at hdeliver
    rw [exec_answered hp hcur]
    by_cases heq : (s.adapter r.slot).cells.at 6 = (r.banks.at 3).setWidth 16
    · rw [if_pos (hread.trans (decide_eq_true heq)), if_pos List.isEmpty_nil] at hdeliver
      obtain ⟨hsettle, hnow, hbus, hslot, hothers, hsame⟩ := release_settled (moment := began + 13500) hsettled hseq hlink
        hpoll hapart
      refine ⟨_, congrArg (fun u => Host.Outcome.next (conclude u))
        ((congrArg (fun u => settle (arbitrate u)) hdeliver).trans hsettle), hnow, hbus, ?_, ?_, hothers,
        fun _ => ⟨?_, ?_⟩, fun h => absurd heq h, hsame⟩
      · rw [hslot]
        rfl
      · rw [hslot]
        rfl
      · rw [hslot]
        rfl
      · rw [hslot]
        exact congrArg (fun d => some (soon + d)) (Nat.mul_comm ..)
    · rw [if_neg fun h => heq (of_decide_eq_true (hread.symm.trans h))] at hdeliver
      obtain ⟨hsettle, hnow, hadapters, hbus, hslots, hnotice, hsame⟩ := applyFailed_settled (n := r.slot)
        (moment := began + 13500) (a := s.adapter r.slot) hsettled hseq hlink hpoll hheld hco
      have hself : State.slot { applyFailed r.slot (applyOver r.slot (began + 13500) (s.adapter r.slot) s) with
          reports := [] } r.slot = { s.slot r.slot with runUp := false, applying := false } := by
        rw [State.slot, hslots]
        exact Tab.at_put_self ..
      refine ⟨_, congrArg (fun u => Host.Outcome.next (conclude u))
        ((congrArg (fun u => settle (arbitrate u)) hdeliver).trans hsettle), hnow, hbus, ?_, ?_, fun m hm => ?_,
        fun h => absurd h heq, fun _ => ⟨?_, hnotice⟩, ?_⟩
      · rw [hself]
      · rw [hself]
      · rw [State.slot, hslots]
        exact (Tab.at_put ..).trans (if_neg hm)
      · rw [hself]
        exact hheld
      · refine ⟨fun b hb => ?_⟩
        by_cases hb' : b = .adapters
        · subst hb'
          exact hadapters.trans (put_adapter ..)
        · exact hsame.same b fun h => by simp_all

end Sys2Proof.Machine

/-! ### A slot that leaves the supplied states, apart from the controls (R20) -/

namespace Sys2Proof.Machine

/-! #### A monitor's change that no menu hangs on -/

/-- The kind of the SIGNAL notices. -/
def signalKinds : List (Fin 11) := [2]

theorem Slot.source_ne_menu (n : Slot) : n.source ≠ sourceM := by
  simp only [Slot.source, sourceM, ne_eq, Fin.ext_iff]
  exact Nat.ne_of_lt n.isLt

theorem postSignal_posts (src : Source) (c : SignalCause) (s : State) : Posts signalKinds s (postSignal src c s) :=
  post_posts (kinds := signalKinds) (List.mem_cons_self (l := [])) s

/-- A monitor's record taken, with its notice. -/
def monitorTaken (src : Source) (m : Monitor) (c : Option SignalCause) (s : State) : State :=
  match c with
  | some c => postSignal src c (s.setMonitor src m)
  | none => s.setMonitor src m

theorem monitorTaken_same (src : Source) (m : Monitor) (c : Option SignalCause) (s : State) :
    SameOutside [.link, .monitors] s (monitorTaken src m c s) := by
  cases c with
  | none => exact (State.setMonitor_same ..).mono (by decide)
  | some c => exact (postSignal_same ..).after ((State.setMonitor_same ..).mono (by decide)) (by decide)

theorem monitorTaken_posts (src : Source) (m : Monitor) (c : Option SignalCause) (s : State) :
    Posts signalKinds s (monitorTaken src m c s) := by
  cases c with
  | none => exact .of_eq rfl
  | some c =>
    have hset : Posts signalKinds s (s.setMonitor src m) := .of_eq rfl
    exact hset.trans (postSignal_posts ..)

theorem monitorTaken_monitors (src : Source) (m : Monitor) (c : Option SignalCause) (s : State) :
    (monitorTaken src m c s).monitors = s.monitors.put src m := by
  cases c with
  | none => rfl
  | some c => exact (postSignal_same ..).same .monitors (by decide)

/-- What a slot's monitor does with a new record: it keeps it, posts its notice and reports a change of state. -/
theorem applyMonitor_slot {src : Source} (h : src ≠ sourceM) (m : Monitor) (c : Option SignalCause) (s : State) :
    applyMonitor src m c s =
      if m.state = (s.monitor src).state then monitorTaken src m c s
      else (monitorTaken src m c s).report (.monitor src m.state) := by
  unfold applyMonitor
  dsimp only
  rw [if_neg h]
  rfl

theorem applyMonitor_monitors (src : Source) (m : Monitor) (c : Option SignalCause) (s : State) :
    (applyMonitor src m c s).monitors = s.monitors.put src m := by
  have hmenu (u : State) : (if src = sourceM then judgeMenu u else u).monitors = u.monitors := by
    split
    · exact (judgeMenu_same u).same .monitors (by decide)
    · rfl
  have htaken : (if src = sourceM then judgeMenu (monitorTaken src m c s) else monitorTaken src m c s).monitors =
      s.monitors.put src m := (hmenu _).trans (monitorTaken_monitors ..)
  unfold applyMonitor
  dsimp only
  split
  · exact htaken
  · exact htaken

theorem applyMonitor_moves {n : Slot} (m : Monitor) (c : Option SignalCause) (s : State) :
    Moves signalKinds [.link, .monitors, .reports] (Report.of n) n s (applyMonitor n.source m c s) := by
  have hsame := (monitorTaken_same n.source m c s).mono (m := [.link, .monitors, .reports]) (by decide)
  have hreports : (monitorTaken n.source m c s).reports = s.reports :=
    (monitorTaken_same n.source m c s).same .reports (by decide)
  rw [applyMonitor_slot (Slot.source_ne_menu n)]
  split
  · exact ⟨hsame, monitorTaken_posts .., .of_same hsame (by decide), [], by rw [hreports, List.append_nil], by simp⟩
  · refine ⟨(State.report_same ..).after hsame (by decide), (monitorTaken_posts ..).trans (.of_eq rfl),
      .of_same ((State.report_same ..).after hsame (by decide)) (by decide), [_], congrArg (· ++ _) hreports, ?_⟩
    simp [Report.of]

/-! #### A field closed as rejected -/

theorem fieldCloses_rejected (src : Source) (s : State) : SameOutside [.frame] s (fieldCloses src false s) := by
  unfold fieldCloses
  split
  · exact .refl _ _
  · exact State.setBuffer_same ..

theorem closeField_rejected (src : Source) (s : State) : SameOutside [.monitors, .frame] s (closeField src false s) :=
  (fieldCloses_rejected ..).after ((State.setMonitor_same ..).mono (by decide)) (by decide)

theorem closeField_monitors (src : Source) (accepted : Bool) (s : State) :
    (closeField src accepted s).monitors = s.monitors.put src { s.monitor src with field := none } :=
  (fieldCloses_same ..).same .monitors (by decide)

/-! #### The supply off (R70) -/

/-- The slot's monitor told of the supply, its open field discarded. -/
def supplyGone (n : Slot) (s : State) : State :=
  let s := s.setMonitor n.source { s.monitor n.source with taking := false }
  match (s.monitor n.source).field with
  | some _ => closeField n.source false s
  | none => s

theorem supplyOff_eq (n : Slot) (s : State) :
    supplyOff n s = applyMonitor n.source ((supplyGone n s).monitor n.source).cleared
      (if ((supplyGone n s).monitor n.source).state = .dark then none else some .lost) (supplyGone n s) := rfl

theorem supplyGone_same (n : Slot) (s : State) : SameOutside [.monitors, .frame] s (supplyGone n s) := by
  have hset : SameOutside [.monitors, .frame] s (s.setMonitor n.source { s.monitor n.source with taking := false }) :=
    (State.setMonitor_same ..).mono (by decide)
  unfold supplyGone
  dsimp only
  split
  · exact (closeField_rejected ..).after hset (by decide)
  · exact hset

theorem supplyGone_monitors (n : Slot) (s : State) :
    (supplyGone n s).monitors = s.monitors.put n.source { s.monitor n.source with taking := false, field := none } := by
  have hself : (s.setMonitor n.source { s.monitor n.source with taking := false }).monitor n.source =
      { s.monitor n.source with taking := false } := State.monitor_setMonitor_self ..
  unfold supplyGone
  dsimp only
  split
  · rw [closeField_monitors, hself]
    exact Tab.put_put ..
  · next hfield =>
    rw [hself] at hfield
    change s.monitors.put n.source _ = _
    rw [← hfield]

theorem supplyOff_monitors (n : Slot) (s : State) :
    (supplyOff n s).monitors =
      s.monitors.put n.source { (s.monitor n.source).cleared with taking := false, field := none } := by
  have hself : (supplyGone n s).monitor n.source = { s.monitor n.source with taking := false, field := none } := by
    rw [State.monitor, supplyGone_monitors]
    exact Tab.at_put_self ..
  rw [supplyOff_eq, applyMonitor_monitors, supplyGone_monitors, hself]
  exact Tab.put_put ..

/-! #### Leaving (R20) -/

/-- The kinds of what a slot that leaves the supplied states posts besides its SLOT notice. -/
def leftKinds : List (Fin 11) := [2, 5]

/-- The blocks that a slot that leaves the supplied states changes. -/
def leaveBlocks : List Block := [.link, .slots, .bus, .monitors, .frame, .coins, .reports]

/-- What a slot that leaves the supplied states does, besides its SLOT notice. -/
abbrev Leaves (n : Slot) (s t : State) : Prop := Moves leftKinds leaveBlocks (Report.of n) n s t

theorem Leaves.of_coins {n : Slot} {s t : State} (h : SameOutside [.link, .coins] s t) (hp : Posts coinKinds s t) :
    Leaves n s t :=
  ⟨h.mono (by decide), hp.mono (by decide), .of_same h (by decide), [],
    by rw [List.append_nil]; exact h.same .reports (by decide), by simp⟩

theorem cutPulse_posts (n : Slot) (s : State) : Posts coinKinds s (cutPulse n true s) := by
  unfold cutPulse
  split
  · next line expiry gap hg => exact addUnits_posts 1 (unitCut n gap s)
  · exact .refl _ _

theorem supplyOff_leaves (n : Slot) (s : State) : Leaves n s (supplyOff n s) := by
  have hgone : Leaves n s (supplyGone n s) :=
    (Moves.of_same (supplyGone_same n s) (by decide) (by decide) (by decide)).mono (fun _ h => h) (by decide) fun _ h => h
  rw [supplyOff_eq]
  exact hgone.trans ((applyMonitor_moves ..).mono (by decide) (by decide) fun _ h => h)

theorem addUnits_queues (k : Nat) (s : State) : (addUnits k s).coins.queues = s.coins.queues :=
  (addUnits_after k s).2.queues.trans rfl

theorem cutPulse_queues (n : Slot) (s : State) : (cutPulse n true s).coins.queues = s.coins.queues := by
  unfold cutPulse
  split
  · next line expiry gap hg => exact addUnits_queues 1 (unitCut n gap s)
  · rfl

/-- What is left to do once the slot has entered its new state. -/
theorem leaveSupplied_rest (n : Slot) (u : State) : Leaves n u (supplyOff n (returnQueue n (cutPulse n true u))) :=
  (Leaves.of_coins (cutPulse_same ..) (cutPulse_posts n u)).trans
    ((Leaves.of_coins (returnQueue_same ..) (returnQueue_posts ..)).trans (supplyOff_leaves ..))

theorem leftSupplied_moves {n : Slot} {s : State} (h : Apart n s) (new : SlotState) (cause : SlotCause) :
    Moves slotKinds [.link, .slots, .bus, .reports] (Report.of n) n s (leftSupplied n new cause s) := by
  have hwithdraw : Moves slotKinds [.link, .slots, .bus, .reports] (Report.of n) n s (withdrawApply n s) :=
    (Moves.of_same (L := [.bus]) (withdrawApply_same n s) (by decide) (by decide) (by decide)).mono (fun _ h => h)
      (by decide) fun _ h => h
  have hset := hwithdraw.trans ((setSlot_moves n (((withdrawApply n s).slot n).powerless.entering new
    (mismatchOf n (withdrawApply n s))) (withdrawApply n s)).mono (fun _ h => h) (by decide) fun _ h => h)
  exact hset.trans ((enter_moves (R := Report.of n) (hset.apart (by decide) h) rfl).mono (fun _ h => h) (by decide)
    fun _ h => h)

/-- A slot that leaves the supplied states. -/
theorem leaveSupplied_moves {n : Slot} {s : State} (h : Apart n s) (new : SlotState) (cause : SlotCause) :
    Moves [1, 2, 5] leaveBlocks (Report.of n) n s (leaveSupplied n new cause s) := by
  rw [leaveSupplied_eq]
  exact ((leftSupplied_moves h new cause).mono (by decide) (by decide) fun _ h => h).trans
    ((leaveSupplied_rest ..).mono (by decide) (fun _ h => h) fun _ h => h)

theorem leaveSupplied_slot (n : Slot) (new : SlotState) (cause : SlotCause) (s : State) :
    (leaveSupplied n new cause s).slot n = ((s.slot n).powerless.entering new (mismatchOf n s)).move new := by
  have hself : (leftSupplied n new cause s).slot n = ((s.slot n).powerless.entering new (mismatchOf n s)).move new :=
    enterWith_slot ..
  rw [leaveSupplied_eq, ← hself]
  generalize leftSupplied n new cause s = u
  have hslots : (returnQueue n (cutPulse n true u)).slots = u.slots :=
    ((returnQueue_same ..).same .slots (by decide)).trans ((cutPulse_same ..).same .slots (by decide))
  have hoff (v : State) : (supplyOff n v).slots = v.slots := by
    rw [supplyOff_eq]
    exact ((applyMonitor_same ..).same .slots (by decide)).trans ((supplyGone_same ..).same .slots (by decide))
  rw [State.slot, hoff, hslots]
  rfl

theorem leaveSupplied_queues {n : Slot} {s : State} (h : Apart n s) (new : SlotState) (cause : SlotCause) :
    (leaveSupplied n new cause s).coins.queues = s.coins.queues.put n [] := by
  obtain ⟨⟨-, -, hqueues⟩, -⟩ := returnQueue_spec n (cutPulse n true (leftSupplied n new cause s))
  have hleft : (leftSupplied n new cause s).coins = s.coins := (leftSupplied_moves h new cause).same.same .coins (by decide)
  rw [leaveSupplied_eq]
  refine ((supplyOff_same ..).same .coins (by decide) |> congrArg Coins.queues).trans ?_
  rw [hqueues, cutPulse_queues, hleft]

theorem leaveSupplied_monitors {n : Slot} {s : State} (h : Apart n s) (new : SlotState) (cause : SlotCause) :
    (leaveSupplied n new cause s).monitors =
      s.monitors.put n.source { (s.monitor n.source).cleared with taking := false, field := none } := by
  have hbefore : (returnQueue n (cutPulse n true (leftSupplied n new cause s))).monitors = s.monitors :=
    ((returnQueue_same ..).same .monitors (by decide)).trans (((cutPulse_same ..).same .monitors (by decide)).trans
      ((leftSupplied_moves h new cause).same.same .monitors (by decide)))
  rw [leaveSupplied_eq, supplyOff_monitors, State.monitor, hbefore]
  rfl

/-- The notice of a slot that leaves the supplied states with its board. -/
theorem leaveSupplied_posts {n : Slot} {s : State} (h : Apart n s) {new : SlotState} (hnew : new ≠ .empty)
    (cause : SlotCause) (hm : s.link.mask.at 1 = true) :
    ∃ e ∈ (leaveSupplied n new cause s).link.notices, e.notice = .slot n new cause (s.slot n).kind := by
  have hkind : (((withdrawApply n s).slot n).powerless.entering new (mismatchOf n (withdrawApply n s))).kind =
      (s.slot n).kind := by
    cases new with
    | empty => exact absurd rfl hnew
    | off | powering | held | booting | live | frozen | fault => rfl
  have hentered : ∃ e ∈ (leftSupplied n new cause s).link.notices, e.notice = .slot n new cause (s.slot n).kind := by
    rw [leftSupplied]
    obtain ⟨e, he, hn⟩ := enter_posts (n := n) (s := (withdrawApply n s).setSlot n
      (((withdrawApply n s).slot n).powerless.entering new (mismatchOf n (withdrawApply n s)))) h new cause hm
    exact ⟨e, he, by rw [hn, State.slot_setSlot_self, hkind]⟩
  obtain ⟨e, he, hn⟩ := hentered
  rw [leaveSupplied_eq]
  exact ⟨e, (leaveSupplied_rest ..).posts.keeps he (by rw [hn]; simp [leftKinds, Notice.kind]), hn⟩

end Sys2Proof.Machine

/-! ### Power-good and the windows (O17) -/

namespace Sys2Proof.Machine

/-! #### The changes of the lines, in order (R19) -/

theorem SlotState.lines_supply (st : SlotState) : st.lines.supply = st.supplied := by cases st <;> rfl

section
variable {r : SlotRecord} {new : SlotState}

/-- The lines of a slot come up: reset and clock-hold are driven before the supply. -/
theorem SlotRecord.move_up (hold : r.lines.supply = false) (hnew : new.supplied = true) :
    (r.move new).moves = [.reset new.lines.reset, .clockHold new.lines.clockHold, .supply true] := by
  simp only [SlotRecord.move, lineMoves, hold, hnew]

/-- The lines of a slot go down: the supply first. -/
theorem SlotRecord.move_down (hold : r.lines.supply = true) (hnew : new.supplied = false) :
    (r.move new).moves = [.supply false, .reset .notDriven, .clockHold .notDriven] := by
  simp only [SlotRecord.move, lineMoves, hold, hnew]

theorem SlotRecord.move_unsupplied (hold : r.lines.supply = false) (hnew : new.supplied = false) :
    (r.move new).moves = [] := by
  simp only [SlotRecord.move, lineMoves, hold, hnew]

/-- The moves of a record whose lines stand at its state's levels. -/
theorem SlotRecord.move_of_state {old : SlotState} (hr : r.lines = r.state.lines) (hold : r.state = old) :
    (r.move new).moves = lineMoves old.lines new := by
  rw [← hold, ← hr]
  rfl

end

theorem SlotRecord.move_eq {r : SlotRecord} (h : r.lines = r.state.lines) (new : SlotState) :
    r.move new = { r with state := new, lines := new.lines, moves := (r.move new).moves } := by
  rw [← r.move_lines h new]
  rfl

/-! #### Power-good seen, and lost (R26, R29) -/

theorem exec_powerGoodRise {s : State} (h : s.powered = true) (dt : Nat) (n : Slot) :
    exec (.powerGoodRise dt n) s = .next (conclude (settle (powerGoodRises n (s.tick dt)))) := if_pos h

theorem exec_powerGoodFall {s : State} (h : s.powered = true) (dt : Nat) (n : Slot) :
    exec (.powerGoodFall dt n) s = .next (conclude (settle (powerGoodFalls n (s.tick dt)))) := if_pos h

theorem exec_powerGoodWindowExpiry {s : State} (h : s.powered = true) (n : Slot) :
    exec (.powerGoodWindowExpiry n) s = .next (conclude (settle (powerGoodExpires n s))) :=
  event_powered h fun s => settle (powerGoodExpires n s)

theorem exec_bootWindowExpiry {s : State} (h : s.powered = true) (n : Slot) :
    exec (.bootWindowExpiry n) s = .next (conclude (settle (bootExpires n s))) :=
  event_powered h fun s => settle (bootExpires n s)

theorem setPowerGood_self (n : Slot) (on : Bool) (s : State) :
    (setPowerGood n on s).slot n = { s.slot n with powerGood := on } := State.slot_setSlot_self ..

theorem powerGoodRises_ignored {n : Slot} {s : State} (h : (s.slot n).state ≠ .powering) :
    powerGoodRises n s = setPowerGood n true s := by
  unfold powerGoodRises
  dsimp only
  rw [setPowerGood_self, if_neg h]

theorem powerGoodRises_seen {n : Slot} {s : State} (h : (s.slot n).state = .powering) :
    powerGoodRises n s = powerGoodSeen n (setPowerGood n true s) := by
  unfold powerGoodRises
  dsimp only
  rw [setPowerGood_self, if_pos h]

theorem powerGoodFalls_ignored {n : Slot} {s : State}
    (h : (s.slot n).state = .powering ∨ (s.slot n).state = .empty ∨ (s.slot n).state = .off ∨ (s.slot n).state = .fault) :
    powerGoodFalls n s = setPowerGood n false s := by
  unfold powerGoodFalls
  dsimp only
  rw [setPowerGood_self]
  rcases h with h | h | h | h <;> simp only [h]

theorem powerGoodFalls_lost {n : Slot} {s : State}
    (h : (s.slot n).state = .held ∨ (s.slot n).state = .booting ∨ (s.slot n).state = .live ∨ (s.slot n).state = .frozen) :
    powerGoodFalls n s = leaveSupplied n .fault .powerGoodLost (setPowerGood n false s) := by
  unfold powerGoodFalls
  dsimp only
  rw [setPowerGood_self]
  rcases h with h | h | h | h <;> simp only [h]

/-- The record of a slot in HELD that goes on: with its run-up flag set, a DIP apply or the release (R27). -/
def goneOn (r : SlotRecord) (p : SlotProfile) (now : Nat) : SlotRecord :=
  if r.runUp then
    (if p.dips.apply then { r with applying := true }
    else SlotRecord.move { r with runUp := false, applying := false, bootWindow := some (now + ms p.general.bootTime) }
      .booting)
  else r

section
variable (r : SlotRecord) (p : SlotProfile) (now : Nat)

theorem goneOn_kept :
    (goneOn r p now).powerGood = r.powerGood ∧ (goneOn r p now).pgWindow = r.pgWindow ∧
      (goneOn r p now).lineHigh = r.lineHigh ∧ (goneOn r p now).paused = r.paused ∧
      (goneOn r p now).lastSig = r.lastSig ∧ (goneOn r p now).parkedSig = r.parkedSig := by
  unfold goneOn
  split
  · split
    · exact ⟨rfl, rfl, rfl, rfl, rfl, rfl⟩
    · exact ⟨rfl, rfl, rfl, rfl, rfl, rfl⟩
  · exact ⟨rfl, rfl, rfl, rfl, rfl, rfl⟩

theorem goneOn_state (h : r.state = .held) :
    (goneOn r p now).state = if r.runUp && !p.dips.apply then .booting else .held := by
  unfold goneOn
  cases r.runUp with
  | false => exact h
  | true =>
    cases p.dips.apply with
    | true => exact h
    | false => rfl

theorem goneOn_runUp : (goneOn r p now).runUp = (r.runUp && p.dips.apply) := by
  unfold goneOn
  cases hrun : r.runUp with
  | false => exact hrun
  | true =>
    cases p.dips.apply with
    | true => rfl
    | false => rfl

theorem goneOn_released (h : r.runUp = true) (ha : p.dips.apply = false) :
    (goneOn r p now).bootWindow = some (now + 27000 * p.general.bootTime) := by
  rw [goneOn, if_pos h, if_neg (by rw [ha]; exact Bool.false_ne_true)]
  exact congrArg (fun d => some (now + d)) (Nat.mul_comm ..)

theorem goneOn_applying (h : r.runUp = true) (ha : p.dips.apply = true) : (goneOn r p now).applying = true := by
  rw [goneOn, if_pos h, if_pos ha]

end

theorem proceedHeld_goneOn (n : Slot) (s : State) :
    (proceedHeld n s).slot n = goneOn (s.slot n) (s.profile n) s.now := proceedHeld_slot ..

/-- The record of a slot in HELD, its power-good window over (R26). -/
def SlotRecord.heldGood (r : SlotRecord) : SlotRecord := SlotRecord.move { r with pgWindow := none } .held

/-- The slot in HELD, before it goes on. -/
def heldSeen (n : Slot) (s : State) : State := enter n .held .powerGood (s.setSlot n { s.slot n with pgWindow := none })

theorem heldSeen_same (n : Slot) (s : State) :
    SameOutside [.link, .counters, .slots, .router, .coins, .reports] s (heldSeen n s) :=
  (enter_same ..).after ((State.setSlot_same ..).mono (by decide)) (by decide)

theorem heldSeen_slot (n : Slot) (s : State) : (heldSeen n s).slot n = (s.slot n).heldGood := enterWith_slot ..

theorem powerGoodSeen_slot (n : Slot) (s : State) :
    (powerGoodSeen n s).slot n = goneOn (s.slot n).heldGood (s.profile n) s.now := by
  have hslot := heldSeen_slot n s
  have hprofiles : (heldSeen n s).profiles = s.profiles := (heldSeen_same n s).same .profiles (by decide)
  have hnow : (heldSeen n s).now = s.now := (heldSeen_same n s).same .now (by decide)
  change (proceedHeld n (heldSeen n s)).slot n = _
  rw [proceedHeld_goneOn, State.profile, hslot, hprofiles, hnow]
  rfl

theorem powerGoodSeen_bus (n : Slot) (s : State) :
    (powerGoodSeen n s).bus =
      if (s.slot n).runUp && (s.profile n).dips.apply then (handOver n (s.profile n).dips.banks s).bus else s.bus := by
  have hslot := heldSeen_slot n s
  have hprofiles : (heldSeen n s).profiles = s.profiles := (heldSeen_same n s).same .profiles (by decide)
  have hnow : (heldSeen n s).now = s.now := (heldSeen_same n s).same .now (by decide)
  have hbus : (heldSeen n s).bus = s.bus := (heldSeen_same n s).same .bus (by decide)
  change (proceedHeld n (heldSeen n s)).bus = _
  rw [proceedHeld_bus, State.profile, hslot, hprofiles, handOver_bus_congr n _ hbus hnow, hbus]
  rfl

/-! #### A slot that leaves the supplied states, with the controller after it -/

/-- What is left when slot `n`, apart from the controls and not current, has left the supplied states. -/
structure Left (n : Slot) (new : SlotState) (cause : SlotCause) (s u : State) : Prop where
  slot : u.slot n = ((s.slot n).powerless.entering new (mismatchOf n s)).move new
  others : Others n s u
  queues : u.coins.queues = s.coins.queues.put n []
  monitors : u.monitors = s.monitors.put n.source { (s.monitor n.source).cleared with taking := false, field := none }
  notice : new ≠ .empty → s.link.mask.at 1 = true → ∃ e ∈ u.link.notices, e.notice = .slot n new cause (s.slot n).kind
  posts : Posts [1, 2, 5] s u
  same : SameOutside [.link, .slots, .bus, .monitors, .frame, .coins] s u

theorem leaveSupplied_settle {n : Slot} {s : State} (hs : Settled s) (hc : s.co.current ≠ some n) (ha : Apart n s)
    (new : SlotState) (cause : SlotCause) :
    settle (leaveSupplied n new cause s) = { leaveSupplied n new cause s with reports := [] } :=
  (leaveSupplied_moves ha new cause).settle_of hs (by decide) hc

theorem leaveSupplied_left {n : Slot} {s : State} (hs : Settled s) (hc : s.co.current ≠ some n) (ha : Apart n s)
    (new : SlotState) (cause : SlotCause) : Left n new cause s (settle (leaveSupplied n new cause s)) := by
  have hmoves := leaveSupplied_moves ha new cause
  have hslot := leaveSupplied_slot n new cause s
  have hqueues := leaveSupplied_queues ha new cause
  have hmonitors := leaveSupplied_monitors ha new cause
  have hnotice (hnew : new ≠ .empty) := leaveSupplied_posts ha hnew cause
  rw [leaveSupplied_settle hs hc ha]
  generalize leaveSupplied n new cause s = u at *
  exact ⟨hslot, ⟨hmoves.others.slot⟩, hqueues, hmonitors, hnotice, hmoves.posts.trans (.of_eq rfl),
    hmoves.cleared hs (by decide)⟩

theorem Left.queue_self {n : Slot} {new : SlotState} {cause : SlotCause} {s u : State} (h : Left n new cause s u) :
    u.queue n = [] := by
  rw [State.queue, h.queues]
  exact Tab.at_put_self ..

theorem Left.queue_other {n m : Slot} {new : SlotState} {cause : SlotCause} {s u : State} (h : Left n new cause s u)
    (hm : m ≠ n) : u.queue m = s.queue m := by
  rw [State.queue, h.queues]
  exact (Tab.at_put ..).trans (if_neg hm)

theorem Left.monitor_self {n : Slot} {new : SlotState} {cause : SlotCause} {s u : State} (h : Left n new cause s u) :
    u.monitor n.source = { (s.monitor n.source).cleared with taking := false, field := none } := by
  rw [State.monitor, h.monitors]
  exact Tab.at_put_self ..

theorem Left.monitor_other {n : Slot} {new : SlotState} {cause : SlotCause} {s u : State} (h : Left n new cause s u)
    {src : Source} (hsrc : src ≠ n.source) : u.monitor src = s.monitor src := by
  rw [State.monitor, h.monitors]
  exact (Tab.at_put ..).trans (if_neg hsrc)

/-- Settles O17: the moves by the levels they begin and end at; each event by the state it finds the slot in. -/
theorem powerGoodAndWindows : Obligations.PowerGoodAndWindows := by
  refine ⟨fun r new hr => ?_, fun n new cause s => ⟨enter_slot_self .., fun m hm => enter_slot_other hm ..⟩,
    fun dt n s => ?_⟩
  · intro t
    have hsupply : r.lines.supply = r.state.supplied := by rw [hr, SlotState.lines_supply]
    refine ⟨r.move_eq hr new, fun hold hnew => ?_, fun hold hnew => ?_, fun hold hnew => ?_, fun hold hnew => ?_,
      fun hold hnew => ?_, fun hold hnew => ?_, fun hold hnew => ?_, fun hold hnew => ?_⟩
    · rw [show t.moves = _ from SlotRecord.move_up (hsupply.trans hold) (by rcases hnew with rfl | rfl <;> rfl)]
      rcases hnew with rfl | rfl <;> exact ⟨rfl, rfl, by simp [SlotState.lines], by simp [SlotState.lines]⟩
    · subst hnew
      exact SlotRecord.move_of_state hr hold
    · subst hnew
      exact SlotRecord.move_of_state hr hold
    · subst hnew
      exact SlotRecord.move_of_state hr hold
    · subst hnew
      exact SlotRecord.move_of_state hr hold
    · subst hnew
      rcases hold with hold | hold <;> exact SlotRecord.move_of_state hr hold
    · rw [show t.moves = _ from SlotRecord.move_down (hsupply.trans hold) hnew]
      exact ⟨rfl, rfl, by simp, by simp⟩
    · exact SlotRecord.move_unsupplied (hsupply.trans hold) hnew
  · intro pin
    refine ⟨fun hp => ⟨if_neg (by simp [hp]), if_neg (by simp [hp])⟩, fun hp hsettled => ?_⟩
    have hpin (on : Bool) : SameOutside [.now, .slots] s (setPowerGood n on (s.tick dt)) := by
      have htick : SameOutside [.now, .slots] s (s.tick dt) := (State.tick_same ..).mono (by decide)
      exact (State.setSlot_same ..).after htick (by decide)
    refine ⟨fun hst => ?_, fun hst hapart => ?_, fun hst => ?_, fun hst hcur hapart => ?_, fun hw => ?_,
      fun t hw hcur hapart => ?_, fun hw => ?_, fun t hw hcur hapart => ?_⟩
    · rw [exec_powerGoodRise hp, powerGoodRises_ignored (by exact hst), settle_settled (by exact hsettled)]
      rfl
    · have hrises := powerGoodSeen_rises (n := n) (s := setPowerGood n true (s.tick dt)) hapart.1
      have hslot := powerGoodSeen_slot n (setPowerGood n true (s.tick dt))
      have hbus := powerGoodSeen_bus n (setPowerGood n true (s.tick dt))
      rw [setPowerGood_self] at hslot hbus
      rw [exec_powerGoodRise hp, powerGoodRises_seen (by exact hst), hrises.settle_rising hsettled (by decide)]
      generalize powerGoodSeen n (setPowerGood n true (s.tick dt)) = u at *
      have hothers (m : Slot) (hm : m ≠ n) : u.slot m = s.slot m :=
        (hrises.others.slot m hm).trans ((setSlot_others ..).slot m hm)
      have hsame : SameOutside [.now, .link, .slots, .bus] s { u with reports := [] } :=
        SameOutside.cleared (hrises.same.after ((hpin true).mono (m := .now :: riseBlocks) (by decide)) (by decide))
          hsettled.2 (by decide)
      refine ⟨_, rfl, hrises.same.same .now (by decide), ?_⟩
      change u.slot n = goneOn (SlotRecord.heldGood { s.slot n with powerGood := true }) (s.profile n) (s.now + dt) at hslot
      change u.bus = if (s.slot n).runUp && (s.profile n).dips.apply then
        (handOver n (s.profile n).dips.banks (setPowerGood n true (s.tick dt))).bus else s.bus at hbus
      obtain ⟨hgood, hwindow, -⟩ := goneOn_kept (SlotRecord.heldGood { s.slot n with powerGood := true }) (s.profile n)
        (s.now + dt)
      rw [← hslot] at hgood hwindow
      refine ⟨hgood, hwindow, ?_, fun hrun happly => ?_, fun hrun happly => ⟨?_, ?_⟩, fun h => ?_, hothers, hsame⟩
      · exact (congrArg SlotRecord.state hslot).trans (goneOn_state _ _ _ rfl)
      · exact (congrArg SlotRecord.bootWindow hslot).trans (goneOn_released _ _ _ hrun happly)
      · exact (congrArg SlotRecord.applying hslot).trans (goneOn_applying _ _ _ hrun happly)
      · refine (hbus.trans (if_pos (by rw [hrun, happly]; rfl))).trans ?_
        exact handOver_bus_congr _ _ rfl rfl
      · exact hbus.trans (if_neg (by rcases h with h | h <;> simp [h]))
    · rw [exec_powerGoodFall hp, powerGoodFalls_ignored (by exact hst), settle_settled (by exact hsettled)]
      rfl
    · have hleft := leaveSupplied_left (n := n) (s := setPowerGood n false (s.tick dt)) hsettled hcur hapart .fault
        .powerGoodLost
      rw [exec_powerGoodFall hp, powerGoodFalls_lost (by exact hst)]
      have hself := hleft.slot
      rw [setPowerGood_self] at hself
      generalize settle (leaveSupplied n .fault .powerGoodLost (setPowerGood n false (s.tick dt))) = u at *
      refine ⟨u, rfl, hleft.same.same .now (by decide), by rw [hself]; rfl, by rw [hself]; rfl, by rw [hself]; rfl,
        hleft.queue_self, by rw [hleft.monitor_self], fun hm => ?_, fun m hm => ⟨?_, hleft.queue_other hm⟩,
        hleft.same.after ((hpin false).mono (by decide)) (by decide)⟩
      · have hkind : ((setPowerGood n false (s.tick dt)).slot n).kind = (s.slot n).kind := by
          rw [setPowerGood_self]
          rfl
        rw [← hkind]
        exact hleft.notice (by decide) hm
      · exact (hleft.others.slot m hm).trans ((setSlot_others ..).slot m hm)
    · rw [exec_powerGoodWindowExpiry hp, powerGoodExpires, hw, settle_settled hsettled]
    · have hleft := leaveSupplied_left (n := n) (s := s.reach t) hsettled hcur hapart .fault .noPowerGood
      rw [exec_powerGoodWindowExpiry hp, powerGoodExpires, hw]
      have hself := hleft.slot
      dsimp only
      generalize settle (leaveSupplied n .fault .noPowerGood (s.reach t)) = u at *
      exact ⟨u, rfl, hleft.same.same .now (by decide), by rw [hself]; rfl, by rw [hself]; rfl, hleft.queue_self,
        by rw [hleft.monitor_self], hleft.notice (by decide),
        fun m hm => ⟨hleft.others.slot m hm, hleft.queue_other hm⟩,
        hleft.same.after ((State.reach_same ..).mono (by decide)) (by decide)⟩
    · rw [exec_bootWindowExpiry hp, bootExpires, hw, settle_settled hsettled]
    · have hmoves := (setSlot_moves (K := slotKinds) (R := Report.of n) n { s.slot n with bootWindow := none }
        (s.reach t)).mono (L' := [.link, .slots, .reports]) (fun _ h => h) (by decide) fun _ h => h
      have hentered := hmoves.trans (enter_moves (new := .live) (cause := .booted) (hmoves.apart (by decide) hapart) rfl)
      have hslot : (enter n .live .booted ((s.reach t).setSlot n { s.slot n with bootWindow := none })).slot n =
        SlotRecord.move { s.slot n with bootWindow := none } .live := enterWith_slot ..
      have hnotice := enter_posts (n := n) (s := (s.reach t).setSlot n { s.slot n with bootWindow := none }) hapart .live
        .booted
      rw [State.slot_setSlot_self] at hnotice
      rw [exec_bootWindowExpiry hp, bootExpires, hw]
      dsimp only
      rw [hentered.settle_of hsettled (by decide) hcur]
      generalize enter n .live .booted ((s.reach t).setSlot n { s.slot n with bootWindow := none }) = u at *
      refine ⟨_, rfl, hentered.same.same .now (by decide), ?_, ?_, hnotice, hentered.others.slot,
        SameOutside.cleared (hentered.same.after ((State.reach_same ..).mono (m := [.now, .link, .slots, .reports])
          (by decide)) (by decide)) hsettled.2 (by decide)⟩
      · change (u.slot n).state = .live
        rw [hslot]
        rfl
      · change (u.slot n).bootWindow = none
        rw [hslot]
        rfl

end Sys2Proof.Machine

/-! ### SLOT_POWER and SLOT_RESTART (O14, O15) -/

namespace Sys2Proof.Machine

/-! #### Requests that a block accepts -/

/-- A request that its block accepts: the controller has taken the change before the reply is built (R39). -/
theorem request_accepted {s t : State} {dt : Nat} {kind tag : Byte} {p : List Byte} {b : List Place} {r : Result}
    (h : Turn kind tag p s b) {check : State → List Byte → Option Result}
    {block : State → List Byte → State × Option Answer} (hc : check (s.inService dt b) p = none)
    (hb : block (s.inService dt b) p = answered r t) (hl : LinkKept (s.inService dt b) (settle t)) :
    request dt kind tag p check block s = .next (conclude ((settle t).replying b ⟨kind, tag, r, []⟩)) :=
  request_answered h hc hb (by rw [hl]; rfl)

/-- A request that its block refuses, or answers without a change. -/
theorem request_unchanged {s : State} {dt : Nat} {kind tag : Byte} {p : List Byte} {b : List Place} {r : Result}
    (h : Turn kind tag p s b) {check : State → List Byte → Option Result}
    {block : State → List Byte → State × Option Answer} (hc : check (s.inService dt b) p = none)
    (hb : block (s.inService dt b) p = unchanged r (s.inService dt b)) :
    request dt kind tag p check block s = .next (conclude (s.justReplied dt b ⟨kind, tag, r, []⟩)) :=
  request_quiet h hc hb

theorem exec_slotPowerOn (dt : Nat) (tag : Byte) (p : List Byte) (s : State) :
    exec (.slotPowerOn dt tag p) s = request dt 0x04 tag p (fixedLayout 2 slotPowerFields) slotPowerBlock s := rfl

theorem exec_slotPowerOff (dt : Nat) (tag : Byte) (p : List Byte) (s : State) :
    exec (.slotPowerOff dt tag p) s = request dt 0x04 tag p (fixedLayout 2 slotPowerFields) slotPowerBlock s := rfl

theorem exec_slotRestart (dt : Nat) (tag : Byte) (p : List Byte) (s : State) :
    exec (.slotRestart dt tag p) s =
      request dt 0x05 tag p (fixedLayout 1 fun p => [slotField p]) slotRestartBlock s := rfl

theorem slotPowerLayout (n : Slot) (on : Bool) (s : State) :
    fixedLayout 2 slotPowerFields s [slotByte n, boolByte on] = none := by
  cases on <;> simp [fixedLayout, slotPowerFields, slotField_slotByte, boolCheck, byteAt, boolByte, firstBad]

theorem slotPowerBlock_on (n : Slot) (s : State) : slotPowerBlock s [slotByte n, 1] = powerOnBlock n s := by
  rw [slotPowerBlock, payloadSlot_slotByte]
  exact if_pos rfl

theorem slotPowerBlock_off (n : Slot) (s : State) : slotPowerBlock s [slotByte n, 0] = powerOffBlock n s := by
  rw [slotPowerBlock, payloadSlot_slotByte]
  exact if_neg (by simp [flagAt, byteAt])

/-! #### Powering up (R25, R26, R69) -/

/-- The record of a slot that enters POWERING (R25, R144). -/
def SlotRecord.powered (r : SlotRecord) (now : Nat) (high : Tab Bool 55) : SlotRecord :=
  SlotRecord.move
    { r with runUp := true, pgWindow := some (now + ms 1000), lineHigh := high, rereadLevels := false } .powering

/-- The blocks that powering a slot changes. -/
def powerBlocks : List Block := [.link, .slots, .bus, .monitors, .coins, .reports]

theorem poweringReady_moves (n : Slot) (s : State) :
    Moves slotKinds powerBlocks (Report.rising n) n s (poweringReady n s) := by
  have hcoins : Moves slotKinds powerBlocks (Report.rising n) n s (readCoinLevels n s) :=
    (Moves.of_same (L := [.coins]) (readCoinLevels_same n s) (by decide) (by decide) (by decide)).mono (fun _ h => h)
      (by decide) fun _ h => h
  have hset (r : SlotRecord) (u : State) : Moves slotKinds powerBlocks (Report.rising n) n u (u.setSlot n r) :=
    (setSlot_moves n r u).mono (fun _ h => h) (by decide) fun _ h => h
  have hsupply (u : State) : Moves slotKinds powerBlocks (Report.rising n) n u (supplyOn n u) :=
    (Moves.of_same (L := [.monitors]) (supplyOn_same n u) (by decide) (by decide) (by decide)).mono (fun _ h => h)
      (by decide) fun _ h => h
  exact hcoins.trans ((hset _ _).trans (hsupply _))

/-- The slot in POWERING, before power-good is looked at. -/
def poweringBegun (n : Slot) (cause : SlotCause) (s : State) : State := enter n .powering cause (poweringReady n s)

theorem Rises.powers {n : Slot} {s t : State} (h : Rises n s t) : Moves slotKinds powerBlocks (Report.rising n) n s t :=
  h.mono (fun _ h => h) (by decide) fun _ h => h

theorem poweringBegun_moves {n : Slot} {s : State} (h : s.router.owner ≠ .slot n) (cause : SlotCause) :
    Moves slotKinds powerBlocks (Report.rising n) n s (poweringBegun n cause s) :=
  (poweringReady_moves n s).trans (enter_rises (s := poweringReady n s) h (.inl rfl)).powers

theorem poweringBegun_slot (n : Slot) (cause : SlotCause) (s : State) :
    (poweringBegun n cause s).slot n = (s.slot n).powered s.now (s.profile n).general.lineHigh := by
  have hready : (poweringReady n s).slot n =
      { s.slot n with
        runUp := true
        pgWindow := some (s.now + ms 1000)
        lineHigh := (s.profile n).general.lineHigh
        rereadLevels := false } := State.slot_setSlot_self ..
  rw [poweringBegun, enter_slot_self, hready]
  rfl

theorem enterPowering_begun (n : Slot) (cause : SlotCause) (s : State) :
    enterPowering n cause s =
      if (s.slot n).powerGood then powerGoodSeen n (poweringBegun n cause s) else poweringBegun n cause s := by
  have hgood : ((poweringBegun n cause s).slot n).powerGood = (s.slot n).powerGood := by
    rw [poweringBegun_slot]
    rfl
  rw [enterPowering_eq, ← hgood]
  rfl

/-- A slot without the controls powers up. -/
theorem enterPowering_moves {n : Slot} {s : State} (h : s.router.owner ≠ .slot n) (cause : SlotCause) :
    Moves slotKinds powerBlocks (Report.rising n) n s (enterPowering n cause s) := by
  have hbegun := poweringBegun_moves h cause
  rw [enterPowering_begun]
  split
  · have howner : (poweringBegun n cause s).router.owner ≠ .slot n := by
      have hrouter : (poweringBegun n cause s).router = s.router := hbegun.same.same .router (by decide)
      rw [hrouter]
      exact h
    exact hbegun.trans (powerGoodSeen_rises howner).powers
  · exact hbegun

theorem enterPowering_slot (n : Slot) (cause : SlotCause) (s : State) :
    (enterPowering n cause s).slot n =
      if (s.slot n).powerGood then
        goneOn ((s.slot n).powered s.now (s.profile n).general.lineHigh).heldGood (s.profile n) s.now
      else (s.slot n).powered s.now (s.profile n).general.lineHigh := by
  have hslot := poweringBegun_slot n cause s
  have hprofiles : (poweringBegun n cause s).profiles = s.profiles := by
    exact ((enter_same ..).same .profiles (by decide)).trans rfl
  have hnow : (poweringBegun n cause s).now = s.now := ((enter_same ..).same .now (by decide)).trans rfl
  rw [enterPowering_begun]
  split
  · rw [powerGoodSeen_slot, State.profile, hslot, hprofiles, hnow]
    rfl
  · exact hslot

/-- What powering a slot does to the bus: nothing, unless power-good stands and a DIP apply follows. -/
theorem enterPowering_bus {n : Slot} {s : State} (cause : SlotCause)
    (h : (s.slot n).powerGood = false ∨ (s.profile n).dips.apply = false) : (enterPowering n cause s).bus = s.bus := by
  have hbegun : (poweringBegun n cause s).bus = s.bus := ((enter_same ..).same .bus (by decide)).trans rfl
  have hprofiles : (poweringBegun n cause s).profiles = s.profiles := ((enter_same ..).same .profiles (by decide)).trans rfl
  rw [enterPowering_begun]
  split
  · next hgood =>
    have happly : (s.profile n).dips.apply = false := h.resolve_left (by rw [hgood]; decide)
    have hprofile : (poweringBegun n cause s).profile n = s.profile n := by rw [State.profile, hprofiles, State.profile]
    rw [powerGoodSeen_bus, hprofile, happly, Bool.and_false, if_neg Bool.false_ne_true]
    exact hbegun
  · exact hbegun

theorem enterPowering_monitors {n : Slot} {s : State} (h : s.router.owner ≠ .slot n) (cause : SlotCause) :
    (enterPowering n cause s).monitors = s.monitors.put n.source { s.monitor n.source with taking := true } ∧
      (enterPowering n cause s).coins =
        { s.coins with lineHigh := s.coins.lineHigh.put n (s.profile n).coins.lineHigh } := by
  have hbegun := enter_rises (n := n) (s := poweringReady n s) h (new := .powering) (cause := cause) (.inl rfl)
  have hafter : Rises n (poweringReady n s) (enterPowering n cause s) := by
    rw [enterPowering_begun]
    split
    · exact hbegun.trans (powerGoodSeen_rises (hbegun.owner h))
    · exact hbegun
  exact ⟨hafter.same.same .monitors (by decide), hafter.same.same .coins (by decide)⟩

/-- Settles O14: the refusals by the slot's state, the power-up by its power-good line and its profile. -/
theorem slotPowerOnPowersTheSlot : Obligations.SlotPowerOnPowersTheSlot := by
  intro dt tag n s b p said good apply hturn
  have hblock (r : Result) (h : powerOnBlock n (s.inService dt b) = unchanged r (s.inService dt b)) :
      exec (.slotPowerOn dt tag p) s = said r := by
    rw [exec_slotPowerOn, request_unchanged hturn (slotPowerLayout n true _) ((slotPowerBlock_on ..).trans h)]
  refine ⟨fun h => hblock _ ?_, fun h hm => hblock _ ?_, fun h => hblock _ ?_, fun h hm hsettled hapart => ?_⟩
  · unfold powerOnBlock
    rcases h with h | h <;> rw [show ((s.inService dt b).slot n).state = _ from h]
  · unfold powerOnBlock
    rw [show ((s.inService dt b).slot n).state = _ from h]
    exact if_pos hm
  · unfold powerOnBlock
    cases hst : (s.slot n).state with
    | empty | off | fault => simp [hst, SlotState.supplied] at h
    | powering | held | booting | live | frozen => rw [show ((s.inService dt b).slot n).state = _ from hst]
  · have hoff : powerOnBlock n (s.inService dt b) = answered .accepted (enterPowering n .powerOn (s.inService dt b)) := by
      unfold powerOnBlock
      rw [show ((s.inService dt b).slot n).state = _ from h]
      exact if_neg (by rw [show ((s.inService dt b).slot n).mismatch = _ from hm]; exact Bool.false_ne_true)
    have hmoves := enterPowering_moves (n := n) (s := s.inService dt b) hapart.1 .powerOn
    have hslot := enterPowering_slot n .powerOn (s.inService dt b)
    have hbus := enterPowering_bus (n := n) (s := s.inService dt b) .powerOn
    obtain ⟨hmonitors, hcoins⟩ := enterPowering_monitors (n := n) (s := s.inService dt b) hapart.1 .powerOn
    have hsettle := hmoves.settle_rising hsettled (by decide)
    have hlink : LinkKept (s.inService dt b) (settle (enterPowering n .powerOn (s.inService dt b))) := by
      rw [hsettle]
      exact hmoves.posts.linkKept
    rw [exec_slotPowerOn, request_accepted hturn (slotPowerLayout n true _) ((slotPowerBlock_on ..).trans hoff) hlink]
    rw [hsettle] at hlink ⊢
    generalize enterPowering n .powerOn (s.inService dt b) = u at *
    have hothers (m : Slot) (hm : m ≠ n) : u.slot m = s.slot m := hmoves.others.slot m hm
    have hsame : SameOutside [.link, .slots, .bus, .monitors, .coins] (s.inService dt b) { u with reports := [] } :=
      hmoves.cleared hsettled (by decide)
    refine ⟨_, rfl, replying_link hlink _, hmoves.same.same .now (by decide), ?_⟩
    change (u.slot n).state = _ ∧ (u.slot n).runUp = _ ∧ (u.slot n).pgWindow = _ ∧ (_ → _ → (u.slot n).bootWindow = _) ∧
      (u.slot n).lineHigh = _ ∧ _
    refine (and_assoc.trans (and_assoc.trans (and_assoc.trans and_assoc))).1 ⟨?_, hothers, hmonitors, hcoins, hbus,
      replying_same hsame (by decide) (by decide) (by decide) _⟩
    generalize hr : (s.slot n).powered (s.now + dt) (s.profile n).general.lineHigh = r at *
    have hslot : u.slot n = if good then goneOn r.heldGood (s.profile n) (s.now + dt) else r := by
      rw [← hr]
      exact hslot
    rw [hslot]
    cases hgood : good with
    | false =>
      rw [← hr]
      exact ⟨⟨⟨⟨rfl, rfl⟩, congrArg some (by rfl)⟩, nofun⟩, rfl⟩
    | true =>
      obtain ⟨-, hwindow, hhigh, -⟩ := goneOn_kept r.heldGood (s.profile n) (s.now + dt)
      have hrun : r.heldGood.runUp = true := by rw [← hr]; rfl
      refine ⟨⟨⟨⟨?_, ?_⟩, hwindow⟩, fun _ happly => goneOn_released _ _ _ hrun happly⟩, hhigh.trans (by rw [← hr]; rfl)⟩
      · refine (goneOn_state _ _ _ rfl).trans ?_
        rw [hrun]
        change (if !apply then _ else _) = if apply then _ else _
        cases apply <;> rfl
      · refine (goneOn_runUp _ _ _).trans ?_
        rw [hrun]
        rfl

end Sys2Proof.Machine

/-! ### SLOT_POWER off and SLOT_RESTART (O15) -/

namespace Sys2Proof.Machine

theorem mismatchOf_eq (n : Slot) (s : State) :
    mismatchOf n s =
      decide ((s.profile n).general.expectedKind ≠ 0 ∧ (s.profile n).general.expectedKind ≠ (s.slot n).kind) := by
  simp [mismatchOf, bne, Bool.decide_and, beq_eq_decide]

theorem isFrom_settled {s : State} (h : Settled s) (n : Slot) : s.isFrom n = false := by
  rw [State.isFrom, h.1]

theorem isTo_settled {s : State} (h : Settled s) (n : Slot) : s.isTo n = false := by
  rw [State.isTo, h.1]

theorem isFrom_record {n : Slot} {s : State} {r : Record} (h : s.co.record = some r) :
    s.isFrom n = true ↔ r.source = some n := by
  rw [State.isFrom, h]
  exact beq_iff_eq

theorem isTo_record {n : Slot} {s : State} {r : Record} (h : s.co.record = some r) :
    s.isTo n = true ↔ r.target = some n := by
  rw [State.isTo, h]
  exact beq_iff_eq

/-- A slot in FAULT told to be OFF (R30). -/
theorem powerOff_fault {n : Slot} {s : State} (h : (s.slot n).state = .fault) :
    powerOff n s = enter n .off .powerOff (s.setSlot n { s.slot n with mismatch := mismatchOf n s }) :=
  if_neg (by rw [h]; decide)

theorem powerOff_supplied {n : Slot} {s : State} (h : (s.slot n).state.supplied = true) :
    powerOff n s = leaveSupplied n .off .powerOff s := if_pos h

/-- What is left when a slot, apart from the controls and not current, is powered off. -/
structure PoweredOff (n : Slot) (s u : State) : Prop where
  slot : (u.slot n).state = .off ∧ (u.slot n).mismatch = mismatchOf n s ∧ (u.slot n).kind = (s.slot n).kind
  others : ∀ m, m ≠ n → u.slot m = s.slot m ∧ u.queue m = s.queue m
  supplied : (s.slot n).state.supplied = true → Left n .off .powerOff s u
  monitors : ∀ src, src ≠ n.source → u.monitor src = s.monitor src
  kept : LinkKept s u
  same : SameOutside [.link, .slots, .bus, .monitors, .frame, .coins] s u

theorem powerOff_settled {n : Slot} {s : State} (hs : Settled s) (hc : s.co.current ≠ some n) (ha : Apart n s)
    (hst : (s.slot n).state.supplied = true ∨ (s.slot n).state = .fault) : PoweredOff n s (settle (powerOff n s)) := by
  rcases hst with hst | hst
  · have hleft := leaveSupplied_left hs hc ha .off .powerOff
    rw [powerOff_supplied hst]
    refine ⟨?_, fun m hm => ⟨hleft.others.slot m hm, hleft.queue_other hm⟩, fun _ => hleft,
      fun src hsrc => hleft.monitor_other hsrc, hleft.posts.linkKept, hleft.same⟩
    rw [hleft.slot]
    exact ⟨rfl, rfl, rfl⟩
  · have hset := (setSlot_moves (K := slotKinds) (R := Report.of n) n { s.slot n with mismatch := mismatchOf n s } s).mono
      (L' := [.link, .slots, .reports]) (fun _ h => h) (by decide) fun _ h => h
    have hmoves := hset.trans (enter_moves (new := .off) (cause := .powerOff) (hset.apart (by decide) ha) rfl)
    have hslot : (enter n .off .powerOff (s.setSlot n { s.slot n with mismatch := mismatchOf n s })).slot n =
      SlotRecord.move { s.slot n with mismatch := mismatchOf n s } .off := enterWith_slot ..
    have hcoins : (enter n .off .powerOff (s.setSlot n { s.slot n with mismatch := mismatchOf n s })).coins = s.coins :=
      hmoves.same.same .coins (by decide)
    have hmonitors : (enter n .off .powerOff (s.setSlot n { s.slot n with mismatch := mismatchOf n s })).monitors =
      s.monitors := hmoves.same.same .monitors (by decide)
    rw [powerOff_fault hst, hmoves.settle_of hs (by decide) hc]
    generalize enter n .off .powerOff (s.setSlot n { s.slot n with mismatch := mismatchOf n s }) = u at *
    refine ⟨?_, fun m hm => ⟨hmoves.others.slot m hm, congrArg (fun c => Coins.queues c |>.at m) hcoins⟩,
      fun h => by simp [hst, SlotState.supplied] at h, fun src _ => congrArg (fun t => Tab.at t src) hmonitors,
      hmoves.posts.linkKept, (hmoves.cleared hs (L' := [.link, .slots]) (by decide)).mono (by decide)⟩
    change (u.slot n).state = _ ∧ (u.slot n).mismatch = _ ∧ (u.slot n).kind = _
    rw [hslot]
    exact ⟨rfl, rfl, rfl⟩

/-! #### Restart of one board (R31) -/

/-- The record of a slot that SLOT_RESTART brings to HELD (R31). -/
def SlotRecord.restarting (r : SlotRecord) : SlotRecord := SlotRecord.move { r.powerless with runUp := true } .held

/-- The slot brought to HELD. -/
def restartHeld (n : Slot) (s : State) : State :=
  enter n .held .restart ((withdrawApply n s).setSlot n { ((withdrawApply n s).slot n).powerless with runUp := true })

theorem restartBoard_eq (n : Slot) (s : State) : restartBoard n s = proceedHeld n (restartHeld n s) := rfl

theorem restartHeld_slot (n : Slot) (s : State) : (restartHeld n s).slot n = (s.slot n).restarting := enterWith_slot ..

theorem restartBoard_slot (n : Slot) (s : State) :
    (restartBoard n s).slot n = goneOn (s.slot n).restarting (s.profile n) s.now := by
  have hslot := restartHeld_slot n s
  have hprofiles : (restartHeld n s).profiles = s.profiles := ((enter_same ..).same .profiles (by decide)).trans rfl
  have hnow : (restartHeld n s).now = s.now := ((enter_same ..).same .now (by decide)).trans rfl
  rw [restartBoard_eq, proceedHeld_goneOn, State.profile, hslot, hprofiles, hnow]
  rfl

/-- What becomes of the slot's record (R31). -/
theorem restartBoard_record (n : Slot) (s : State) :
    let r := (restartBoard n s).slot n
    r.state = (if (s.profile n).dips.apply then .held else .booting) ∧ r.runUp = (s.profile n).dips.apply ∧
      r.paused = false ∧ r.lastSig = none ∧ r.parkedSig = none := by
  obtain ⟨-, -, -, hpaused, hlast, hparked⟩ := goneOn_kept (s.slot n).restarting (s.profile n) s.now
  intro r
  have hr : r = goneOn (s.slot n).restarting (s.profile n) s.now := restartBoard_slot n s
  rw [hr]
  refine ⟨(goneOn_state _ _ _ rfl).trans ?_, goneOn_runUp .., hpaused, hlast, hparked⟩
  have hrun : (s.slot n).restarting.runUp = true := rfl
  rw [hrun]
  cases (s.profile n).dips.apply <;> rfl

theorem withdrawApply_moves {K : List (Fin 11)} {R : Report → Prop} (n : Slot) (s : State) :
    Moves K [.bus] R n s (withdrawApply n s) :=
  .of_same (withdrawApply_same n s) (by decide) (by decide) (by decide)

theorem restartBoard_moves {n : Slot} {s : State} (h : Apart n s) :
    Moves slotKinds riseBlocks (Report.of n) n s (restartBoard n s) := by
  have hwithdraw : Moves slotKinds riseBlocks (Report.of n) n s (withdrawApply n s) :=
    (withdrawApply_moves n s).mono (fun _ h => h) (by decide) fun _ h => h
  have hset := hwithdraw.trans ((setSlot_moves n { ((withdrawApply n s).slot n).powerless with runUp := true }
    (withdrawApply n s)).mono (fun _ h => h) (by decide) fun _ h => h)
  have hheld := hset.trans ((enter_moves (new := .held) (cause := .restart) (R := Report.of n)
    (hset.apart (by decide) h) rfl).mono (fun _ h => h) (by decide) fun _ h => h)
  have hapart := hheld.apart (by decide) h
  rw [restartBoard_eq]
  exact hheld.trans ((proceedHeld_rises hapart.1).mono (fun _ h => h) (fun _ h => h) fun _ h => h.of)

/-- A SLOT_RESTART that the slot's state refuses (R31). -/
theorem slotRestartBlock_refuses {n : Slot} {s : State} :
    ((s.slot n).state = .empty → slotRestartBlock s [slotByte n] = unchanged .noBoard s) ∧
      ((s.slot n).state = .off ∨ (s.slot n).state = .powering ∨ (s.slot n).state = .fault →
        slotRestartBlock s [slotByte n] = unchanged .wrongState s) := by
  unfold slotRestartBlock
  rw [payloadSlot_slotByte]
  dsimp only
  refine ⟨fun h => by rw [h], fun h => ?_⟩
  rcases h with h | h | h <;> rw [h]

/-- A SLOT_RESTART that is accepted. -/
theorem slotRestartBlock_accepts {n : Slot} {s : State}
    (h : (s.slot n).state = .held ∨ (s.slot n).state = .booting ∨ (s.slot n).state = .live ∨ (s.slot n).state = .frozen)
    (hs : Settled s) : slotRestartBlock s [slotByte n] = answered .accepted (restartBoard n s) := by
  have hfree : ¬(s.isFrom n || s.isTo n) = true := by
    rw [isFrom_settled hs, isTo_settled hs]
    exact Bool.false_ne_true
  unfold slotRestartBlock
  rw [payloadSlot_slotByte]
  dsimp only
  rcases h with h | h | h | h <;> rw [h] <;> exact if_neg hfree

/-- A SLOT_RESTART of a slot that a changeover has to do with is refused. -/
theorem slotRestartBlock_inFlight {n : Slot} {s : State} {r : Record} (h : s.co.record = some r)
    (hn : r.source = some n ∨ r.target = some n) (hst : (s.slot n).state ≠ .empty) :
    slotRestartBlock s [slotByte n] = unchanged .wrongState s := by
  have hbusy : (s.isFrom n || s.isTo n) = true :=
    Bool.or_eq_true_iff.2 (hn.imp (isFrom_record h).2 (isTo_record h).2)
  unfold slotRestartBlock
  rw [payloadSlot_slotByte]
  dsimp only
  cases hs : (s.slot n).state with
  | empty => exact absurd hs hst
  | off | powering | fault => rfl
  | held | booting | live | frozen => exact if_pos hbusy

/-! #### The two requests -/

/-- SLOT_POWER off that is refused, or answered without a change (R30). -/
theorem powerOffBlock_refuses {n : Slot} {s : State} :
    ((s.slot n).state = .empty → powerOffBlock n s = unchanged .noBoard s) ∧
      ((s.slot n).state = .off → powerOffBlock n s = unchanged .already s) ∧
      ((s.slot n).state ≠ .empty → (s.slot n).state ≠ .off →
        s.co.current = some n ∨ s.isFrom n = true ∨ s.isTo n = true → powerOffBlock n s = unchanged .wrongState s) := by
  unfold powerOffBlock
  refine ⟨fun h => by rw [h], fun h => by rw [h], fun hempty hoff hbusy => ?_⟩
  cases hs : (s.slot n).state with
  | empty => exact absurd hs hempty
  | off => exact absurd hs hoff
  | powering | held | booting | live | frozen | fault => exact if_pos hbusy

theorem powerOffBlock_accepts {n : Slot} {s : State} (hempty : (s.slot n).state ≠ .empty) (hoff : (s.slot n).state ≠ .off)
    (hc : s.co.current ≠ some n) (hs : Settled s) : powerOffBlock n s = answered .accepted (powerOff n s) := by
  have hfree : ¬(s.co.current = some n ∨ s.isFrom n = true ∨ s.isTo n = true) := by
    rw [isFrom_settled hs, isTo_settled hs]
    simpa using hc
  unfold powerOffBlock
  cases hst : (s.slot n).state with
  | empty => exact absurd hst hempty
  | off => exact absurd hst hoff
  | powering | held | booting | live | frozen | fault => exact if_neg hfree

/-- A SLOT_RESTART that is refused changes nothing. -/
theorem exec_slotRestart_refused {dt : Nat} {tag : Byte} {n : Slot} {s : State} {b : List Place} {r : Result}
    (hturn : Turn 0x05 tag [slotByte n] s b)
    (h : slotRestartBlock (s.inService dt b) [slotByte n] = unchanged r (s.inService dt b)) :
    exec (.slotRestart dt tag [slotByte n]) s = .next (conclude (s.justReplied dt b ⟨0x05, tag, r, []⟩)) := by
  rw [exec_slotRestart, request_unchanged hturn (slotLayout_slotByte n _) h]

/-- A SLOT_RESTART of a slot outside the playing path is accepted: HELD, and on (R31). -/
theorem exec_slotRestart_accepted {dt : Nat} {tag : Byte} {n : Slot} {s : State} {b : List Place}
    (hturn : Turn 0x05 tag [slotByte n] s b)
    (h : (s.slot n).state = .held ∨ (s.slot n).state = .booting ∨ (s.slot n).state = .live ∨ (s.slot n).state = .frozen)
    (hcur : s.co.current ≠ some n) (hsettled : Settled s) (hapart : Apart n s) :
    ∃ u, exec (.slotRestart dt tag [slotByte n]) s = .next (conclude u) ∧
      u.link = { s.link.replied b ⟨0x05, tag, .accepted, []⟩ with notices := u.link.notices } ∧
      u.now = s.now + dt ∧
      (u.slot n).state = (if (s.profile n).dips.apply then .held else .booting) ∧
      (u.slot n).runUp = (s.profile n).dips.apply ∧ (u.slot n).paused = false ∧ (u.slot n).lastSig = none ∧
      (u.slot n).parkedSig = none ∧ (∀ m, m ≠ n → u.slot m = s.slot m) ∧
      SameOutside [.now, .link, .slots, .bus] s u := by
  have hmoves := restartBoard_moves (n := n) (s := s.inService dt b) hapart
  have hsettle := hmoves.settle_of hsettled (by decide) hcur
  have hlink : LinkKept (s.inService dt b) (settle (restartBoard n (s.inService dt b))) := by
    rw [hsettle]
    exact hmoves.posts.linkKept
  obtain ⟨hstate, hrun, hpaused, hlast, hparked⟩ := restartBoard_record n (s.inService dt b)
  rw [exec_slotRestart, request_accepted hturn (slotLayout_slotByte n _) (slotRestartBlock_accepts (by exact h) hsettled)
    hlink]
  rw [hsettle] at hlink ⊢
  generalize restartBoard n (s.inService dt b) = u at *
  exact ⟨_, rfl, replying_link hlink _, hmoves.same.same .now (by decide), hstate, hrun, hpaused, hlast, hparked,
    hmoves.others.slot, replying_same (hmoves.cleared hsettled (L' := [.link, .slots, .bus]) (by decide)) (by decide)
      (by decide) (by decide) _⟩

/-- SLOT_POWER off that is refused changes nothing. -/
theorem exec_slotPowerOff_refused {dt : Nat} {tag : Byte} {n : Slot} {s : State} {b : List Place} {r : Result}
    (hturn : Turn 0x04 tag [slotByte n, 0] s b)
    (h : powerOffBlock n (s.inService dt b) = unchanged r (s.inService dt b)) :
    exec (.slotPowerOff dt tag [slotByte n, 0]) s = .next (conclude (s.justReplied dt b ⟨0x04, tag, r, []⟩)) := by
  rw [exec_slotPowerOff, request_unchanged hturn (slotPowerLayout n false _) ((slotPowerBlock_off ..).trans h)]

/-- SLOT_POWER off of a slot outside the playing path and the changeover is accepted: OFF (R30). -/
theorem exec_slotPowerOff_accepted {dt : Nat} {tag : Byte} {n : Slot} {s : State} {b : List Place}
    (hturn : Turn 0x04 tag [slotByte n, 0] s b) (hempty : (s.slot n).state ≠ .empty) (hoff : (s.slot n).state ≠ .off)
    (hcur : s.co.current ≠ some n) (hsettled : Settled s) (hapart : Apart n s) :
    ∃ u, exec (.slotPowerOff dt tag [slotByte n, 0]) s = .next (conclude (u.replying b ⟨0x04, tag, .accepted, []⟩)) ∧
      PoweredOff n (s.inService dt b) u := by
  have hst : (s.slot n).state.supplied = true ∨ (s.slot n).state = .fault := by
    rw [SlotState.supplied_iff]
    by_cases hf : (s.slot n).state = .fault
    · exact .inr hf
    · exact .inl ⟨hempty, hoff, hf⟩
  have hdone := powerOff_settled (n := n) (s := s.inService dt b) hsettled hcur hapart hst
  have haccepts := powerOffBlock_accepts (n := n) (s := s.inService dt b) hempty hoff hcur hsettled
  refine ⟨_, ?_, hdone⟩
  rw [exec_slotPowerOff, request_accepted hturn (slotPowerLayout n false _) ((slotPowerBlock_off ..).trans haccepts)
    hdone.kept]

/-- Everything R20 clears, of a slot that was supplied. -/
theorem Left.cleared {n : Slot} {cause : SlotCause} {s u : State} (h : Left n .off cause s u) :
    (u.slot n).runUp = false ∧ (u.slot n).paused = false ∧ (u.slot n).pgWindow = none ∧ (u.slot n).bootWindow = none ∧
      (u.slot n).applying = false ∧ (u.slot n).lastSig = none ∧ (u.slot n).parkedSig = none ∧ u.queue n = [] ∧
      (u.monitor n.source).state = .dark ∧ (u.monitor n.source).taking = false := by
  rw [h.slot, h.monitor_self]
  exact ⟨rfl, rfl, rfl, rfl, rfl, rfl, rfl, h.queue_self, rfl, rfl⟩

/-- Settles O15: the refusals by the slot's state and the changeover; what is accepted by the rules of R20 and R27. -/
theorem slotPowerOffAndRestart : Obligations.SlotPowerOffAndRestart := by
  intro dt tag n s b said g
  refine ⟨fun hturn => ?_, fun hturn => ?_⟩
  · obtain ⟨hempty, hoff, hbusy⟩ := powerOffBlock_refuses (n := n) (s := s.inService dt b)
    refine ⟨fun h => exec_slotPowerOff_refused hturn (hempty h), fun h => exec_slotPowerOff_refused hturn (hoff h),
      fun h h' hin => exec_slotPowerOff_refused hturn (hbusy h h' ?_), fun h h' hcur hsettled hapart => ?_⟩
    · rcases hin with hin | ⟨r, hr, hin | hin⟩
      · exact .inl hin
      · exact .inr (.inl ((isFrom_record (s := s.inService dt b) hr).2 hin))
      · exact .inr (.inr ((isTo_record (s := s.inService dt b) hr).2 hin))
    · obtain ⟨u, hexec, hdone⟩ := exec_slotPowerOff_accepted hturn h h' hcur hsettled hapart
      obtain ⟨hstate, hmismatch, hkind⟩ := hdone.slot
      exact ⟨_, hexec, replying_link hdone.kept _, hdone.same.same .now (by decide), hstate,
        hmismatch.trans (mismatchOf_eq ..), hkind, hdone.others, fun hsup => (hdone.supplied hsup).cleared, hdone.monitors,
        replying_same hdone.same (by decide) (by decide) (by decide) _⟩
  · obtain ⟨hempty, hwrong⟩ := slotRestartBlock_refuses (n := n) (s := s.inService dt b)
    exact ⟨fun h => exec_slotRestart_refused hturn (hempty h), fun h => exec_slotRestart_refused hturn (hwrong h),
      fun r hr hn hst => exec_slotRestart_refused hturn (slotRestartBlock_inFlight (by exact hr) hn (by exact hst)),
      fun h hcur hsettled hapart => exec_slotRestart_accepted hturn h hcur hsettled hapart⟩

end Sys2Proof.Machine

/-! ### What each operation posts

Of the link these operations change the notice table alone, and each posts the kinds listed for it. -/

namespace Sys2Proof.Machine

section
variable {K K' : List (Fin 11)} {l : List Block} {s t u : State}

theorem Posts.after (h' : Posts K t u) (h : Posts K s t) : Posts K s u := h.trans h'

theorem Posts.of_same (h : SameOutside l s t) (hl : Block.link ∉ l) : Posts K s t := .of_eq (h.same .link hl)

/-- An operation that posts, begun on a state with the same link. -/
theorem Posts.start (h : Posts K t u) (hl : t.link = s.link) : Posts K s u := (Posts.of_eq hl).trans h

/-- An operation that posts, and a change of the other blocks after it. -/
theorem Posts.finish (h : Posts K s t) (hl : u.link = t.link) : Posts K s u := h.trans (.of_eq hl)

/-- An operation that posts, after one that leaves the link alone. -/
theorem Posts.from_same (h' : Posts K t u) (h : SameOutside l s t) (hl : Block.link ∉ l) : Posts K s u :=
  (Posts.of_same h hl).trans h'

end

/-! #### Counters, coins and the router -/

/-- The kind of the COUNTER notices. -/
def counterKinds : List (Fin 11) := [6]

theorem increment_posts_counter (i : CounterId) (s : State) : Posts counterKinds s (increment i s) := by
  unfold increment
  split
  · exact .refl _ _
  · dsimp only
    split
    · exact Posts.start (post_posts (kinds := counterKinds) (List.mem_cons_self (l := [])) _) rfl
    · exact .of_eq rfl

theorem judgePulse_posts (n : Slot) (s : State) : Posts counterKinds s (judgePulse n s) := by
  rcases judgePulse_cases n s with h | ⟨line, rest, hm, hq⟩
  · exact .of_eq (by rw [h])
  · rw [judgePulse_eq hm hq]
    exact Posts.finish (t := increment (coinsDelivered n) (unitTaken n rest s))
      (Posts.start (increment_posts_counter ..) rfl) rfl

theorem cutPulse_posts_coin (n : Slot) (toBank : Bool) (s : State) : Posts coinKinds s (cutPulse n toBank s) := by
  rcases cutPulse_cases n toBank s with hc | ⟨gap, hc | ⟨line, hroom, hc⟩⟩ <;> rw [hc]
  · exact .refl _ _
  · exact addUnits_posts 1 (unitCut n gap s)
  · exact .of_eq rfl

theorem cutLostPulses_posts (s : State) : Posts coinKinds s (cutLostPulses s) :=
  .forAll (fun n s => by
    unfold cutIfLost
    split
    · exact .refl _ _
    · exact cutPulse_posts_coin ..) _ s

/-- The kinds posted at a change of owner: an INPUT snapshot, and COIN where a pulse is cut. -/
def ownerKinds : List (Fin 11) := [3, 5]

theorem postInput_posts (s : State) : Posts ownerKinds s (postInput s) :=
  post_posts (kinds := ownerKinds) (List.mem_cons_self (l := [5])) s

theorem giveLink_posts (s : State) : Posts ownerKinds s (giveLink s) := by
  unfold giveLink
  dsimp only
  refine Posts.trans ?_ ((cutLostPulses_posts _).mono (by decide))
  split
  · exact .of_eq rfl
  · exact Posts.start (postInput_posts _) rfl

theorem giveNone_posts (s : State) : Posts coinKinds s (giveNone s) := (Posts.start (cutLostPulses_posts _) rfl)

theorem giveSlot_posts (n : Slot) (s : State) : Posts [5, 6] s (giveSlot n s) := by
  refine Posts.trans ?_ ((judgePulse_posts n _).mono (by decide))
  exact Posts.start ((cutLostPulses_posts _).mono (by decide)) rfl

theorem routerQuiesce_posts (s : State) : Posts ownerKinds s (routerQuiesce s) := by
  unfold routerQuiesce
  dsimp only
  split
  · exact Posts.start (giveLink_posts _) rfl
  · exact Posts.start ((giveNone_posts _).mono (by decide)) rfl

theorem routerGrant_posts (t : Option Slot) (s : State) : Posts [3, 5, 6] s (routerGrant t s) := by
  refine Posts.from_same (t := copyMap t s) ?_ (copyMap_same ..) (by decide)
  unfold routerGrant
  dsimp only
  cases t with
  | none => exact (giveLink_posts _).mono (by decide)
  | some n =>
    dsimp only
    split
    · exact (giveLink_posts _).mono (by decide)
    · split
      · exact (giveSlot_posts ..).mono (by decide)
      · exact Posts.finish ((giveNone_posts _).mono (by decide)) rfl

theorem routerSlotChanged_posts (n : Slot) (new : SlotState) (s : State) : Posts [5, 6] s (routerSlotChanged n new s) := by
  have hnone : Posts [5, 6] s (giveNone s) := (giveNone_posts s).mono (by decide)
  unfold routerSlotChanged
  split
  · unfold ownerLost
    dsimp only
    split
    · exact hnone.trans (.of_eq rfl)
    · exact hnone
  · split
    · cases new with
      | live =>
        unfold claimChanged
        dsimp only
        split
        · exact .refl _ _
        · exact giveSlot_posts ..
      | fault | empty => exact .of_eq rfl
      | off | powering | held | booting | frozen => exact .refl _ _
    · exact .refl _ _

/-! #### The picture and the frame store -/

/-- The kind of the OUTPUT notices. -/
def outputKinds : List (Fin 11) := [8]

theorem postOutput_posts (dimEvent : Bool) (s : State) : Posts outputKinds s (postOutput dimEvent s) :=
  post_posts (kinds := outputKinds) (List.mem_cons_self (l := [])) s

theorem liftDim_posts (s : State) : Posts outputKinds s (liftDim s) := by
  unfold liftDim
  split
  · exact Posts.start (postOutput_posts ..) rfl
  · exact .refl _ _

theorem judgeWatched_posts (s : State) : Posts outputKinds s (judgeWatched s) := by
  unfold judgeWatched
  split
  · exact .refl _ _
  · exact Posts.start (liftDim_posts _) rfl

theorem disableWriter_posts (s : State) : Posts outputKinds s (disableWriter s) :=
  Posts.start (t := { abandonFilling s with frame := { (abandonFilling s).frame with writer := none } })
    (judgeWatched_posts _) ((abandonFilling_same s).same .link (by decide))

theorem enableWriter_posts (n : Slot) (s : State) : Posts outputKinds s (enableWriter n s) := by
  unfold enableWriter
  split
  · exact Posts.start (judgeWatched_posts _) rfl
  · split
    · exact .refl _ _
    · exact (disableWriter_posts s).trans (Posts.start (judgeWatched_posts _) rfl)

theorem stillSignature_posts (n : Slot) (sig : Word16) (s : State) : Posts outputKinds s (stillSignature n sig s) := by
  unfold stillSignature
  split
  · split
    · exact .of_eq rfl
    · split
      · exact .refl _ _
      · exact Posts.finish (t := liftDim { s with pic := { s.pic with previousSig := some sig } })
          (Posts.start (liftDim_posts _) rfl) rfl
  · exact .refl _ _

theorem reportReady_posts (n : Slot) (sig : Word16) (s : State) : Posts outputKinds s (reportReady n sig s) :=
  Posts.finish (t := stillSignature n sig (s.setSlot n { s.slot n with lastSig := some sig }))
    (Posts.start (stillSignature_posts ..) rfl) rfl

theorem makeReady_posts (b : Fin 3) (s : State) : Posts outputKinds s (makeReady b s) := by
  unfold makeReady
  dsimp only
  split
  · exact Posts.start (reportReady_posts ..) rfl
  · exact .of_eq rfl

theorem fieldCloses_posts (src : Source) (accepted : Bool) (s : State) :
    Posts outputKinds s (fieldCloses src accepted s) := by
  unfold fieldCloses
  split
  · exact .refl _ _
  · split
    · exact makeReady_posts ..
    · exact .of_eq rfl

theorem applyMonitor_posts (src : Source) (m : Monitor) (c : Option SignalCause) (s : State) :
    Posts signalKinds s (applyMonitor src m c s) := by
  have hmenu (u : State) : Posts signalKinds u (if src = sourceM then judgeMenu u else u) := by
    split
    · exact .of_same (judgeMenu_same u) (by decide)
    · exact .refl _ _
  have htaken := (monitorTaken_posts src m c s).trans (hmenu _)
  unfold applyMonitor
  dsimp only
  split
  · exact htaken
  · exact Posts.finish htaken rfl

theorem supplyOff_posts (n : Slot) (s : State) : Posts signalKinds s (supplyOff n s) := by
  rw [supplyOff_eq]
  exact Posts.from_same (applyMonitor_posts ..) (supplyGone_same n s) (by decide)

theorem readerStart_posts (s : State) : Posts counterKinds s (readerStart s) := by
  have hahead (n : Slot) (k : Nat) (u : State) : Posts counterKinds u (readAhead n k u) := by
    unfold readAhead
    dsimp only
    split
    · exact .of_eq rfl
    · split
      · exact .of_eq rfl
      · exact Posts.finish (increment_posts_counter ..) rfl
  have hpace (n : Slot) (u : State) : Posts counterKinds u (readPace n u) := by
    unfold readPace
    split
    · exact .refl _ _
    · dsimp only
      split
      · exact .of_eq rfl
      · exact (Posts.of_eq rfl).trans (hahead ..)
  have hpass (n : Slot) (u : State) : Posts counterKinds u (readPass n u) := by
    unfold readPass
    split
    · exact .of_eq rfl
    · exact increment_posts_counter ..
  unfold readerStart
  split
  · exact .refl _ _
  · split
    · exact .refl _ _
    · refine Posts.from_same (t := refreshFin s) ?_ (refreshFin_same s) (by decide)
      dsimp only
      split
      · exact .refl _ _
      · split
        · exact .of_same (firstTake_same ..) (by decide)
        · split
          · exact .refl _ _
          · split
            · exact hpass ..
            · exact hpace ..

theorem fieldStart_posts (s : State) : Posts counterKinds s (fieldStart s) := by
  have hafter (u : State) : SameOutside [.pic, .out] u { fixField (refreshDim (stepPictureFade u)) with
      out := { (fixField (refreshDim (stepPictureFade u))).out with
        nextStart := (fixField (refreshDim (stepPictureFade u))).now + (fixField (refreshDim (stepPictureFade u))).out.fout } } :=
    SameOutside.with_out ((fixField_same _).after ((refreshDim_same _).after ((stepPictureFade_same u).mono (by decide))
      (by decide)) (by decide)) (by decide)
  exact (Posts.from_same (readerStart_posts _) (followSource_same s) (by decide)).trans (.of_same (hafter _) (by decide))

theorem retime_posts (d : Decision) (s : State) : Posts [6, 8] s (retime d s) := by
  refine Posts.trans ?_ ((fieldStart_posts _).mono (by decide))
  refine Posts.trans ?_ ((postOutput_posts ..).mono (by decide))
  exact Posts.start (Posts.finish (Posts.from_same (.refl _ _) (judgeMenu_same _) (by decide)) rfl) rfl

theorem startupDecision_posts (s : State) : Posts [6, 8] s (startupDecision s) := by
  unfold startupDecision
  dsimp only
  split
  · refine Posts.trans (t := { retime (standbyDecision s) s with
      out := { (retime (standbyDecision s) s).out with startMark := true } })
      (Posts.finish (retime_posts (standbyDecision s) s) rfl) ?_
    split
    · exact .of_same (settleDone_same _) (by decide)
    · exact .refl _ _
  · exact .of_eq rfl

/-! #### The slot manager -/

/-- The kinds posted as a slot enters a state: SLOT, COIN and COUNTER. -/
def moveKinds : List (Fin 11) := [1, 5, 6]

theorem enter_posts_move (n : Slot) (new : SlotState) (cause : SlotCause) (s : State) :
    Posts moveKinds s (enter n new cause s) := by
  have hpost : Posts moveKinds s (post (.slot n new cause (s.slot n).kind) (moved n new s)) :=
    (Posts.of_eq rfl).trans (post_posts (kinds := moveKinds) (List.mem_cons_self (l := [5, 6])) _)
  rw [enter_eq]
  refine Posts.trans ?_ (.of_eq rfl)
  exact (hpost.trans ((routerSlotChanged_posts ..).mono (by decide))).trans ((judgePulse_posts ..).mono (by decide))

/-- A record replaced, and the slot's move with it. -/
theorem enterWith_posts (n : Slot) (r : SlotRecord) (new : SlotState) (cause : SlotCause) (s : State) :
    Posts moveKinds s (enter n new cause (s.setSlot n r)) :=
  Posts.start (t := s.setSlot n r) (enter_posts_move ..) rfl

/-- The kinds posted as a slot leaves the supplied states: SLOT, SIGNAL, COIN and COUNTER. -/
def leaveKinds : List (Fin 11) := [1, 2, 5, 6]

theorem leaveSupplied_posts_leave (n : Slot) (new : SlotState) (cause : SlotCause) (s : State) :
    Posts leaveKinds s (leaveSupplied n new cause s) := by
  have hleft : Posts leaveKinds s (leftSupplied n new cause s) :=
    Posts.from_same ((enterWith_posts ..).mono (by decide)) (withdrawApply_same n s) (by decide)
  rw [leaveSupplied_eq]
  exact ((hleft.trans ((cutPulse_posts_coin ..).mono (by decide))).trans ((returnQueue_posts ..).mono (by decide))).trans
    ((supplyOff_posts ..).mono (by decide))

theorem release_posts (n : Slot) (s : State) : Posts moveKinds s (release n s) := enterWith_posts ..

theorem proceedHeld_posts (n : Slot) (s : State) : Posts moveKinds s (proceedHeld n s) := by
  rw [proceedHeld_eq]
  split
  · split
    · exact .of_same ((handOver_same ..).after ((State.setSlot_same ..).mono (by decide) :
        SameOutside [.slots, .bus] s _) (by decide)) (by decide)
    · exact release_posts ..
  · exact .refl _ _

theorem powerGoodSeen_posts (n : Slot) (s : State) : Posts moveKinds s (powerGoodSeen n s) :=
  (enterWith_posts ..).trans (proceedHeld_posts ..)

theorem enterPowering_posts (n : Slot) (cause : SlotCause) (s : State) : Posts moveKinds s (enterPowering n cause s) := by
  have hbegun : Posts moveKinds s (poweringBegun n cause s) :=
    (Posts.of_eq rfl).trans (enter_posts_move n .powering cause (poweringReady n s))
  rw [enterPowering_begun]
  split
  · exact hbegun.trans (powerGoodSeen_posts ..)
  · exact hbegun

theorem autoPower_posts (n : Slot) (s : State) : Posts moveKinds s (autoPower n s) := by
  unfold autoPower
  dsimp only
  split
  · exact Posts.start (enterPowering_posts ..) rfl
  · exact .of_eq rfl

theorem parkNotRunning_posts (n : Slot) (s : State) : Posts moveKinds s (parkNotRunning n s) := by
  unfold parkNotRunning
  split
  · exact .of_eq rfl
  · exact .of_eq rfl
  · exact enterWith_posts ..
  · exact .refl _ _
  · exact .refl _ _
  · exact .refl _ _
  · exact .refl _ _
  · exact .refl _ _

theorem park_posts (n : Slot) (s : State) : Posts leaveKinds s (park n s) := by
  have hnot := (parkNotRunning_posts n s).mono (by decide : moveKinds ⊆ leaveKinds)
  have henter (r : SlotRecord) (new : SlotState) (u : State) (hu : u.link = s.link) :
      Posts leaveKinds s (enter n new .parked (u.setSlot n r)) :=
    (Posts.of_eq hu).trans ((enterWith_posts ..).mono (by decide))
  unfold park
  split
  · unfold parkRun
    split
    · exact henter _ _ _ rfl
    · exact .refl _ _
  · unfold parkFreeze
    dsimp only
    split
    · exact henter _ _ _ rfl
    · exact .of_eq rfl
    · exact hnot
    · exact hnot
    · exact hnot
    · exact hnot
    · exact hnot
    · exact hnot
  · unfold parkHold
    split
    · exact henter _ _ _ rfl
    · exact henter _ _ (s.setSlot n _) rfl
    · exact hnot
    · exact hnot
    · exact hnot
    · exact hnot
    · exact hnot
    · exact hnot
  · split
    · exact leaveSupplied_posts_leave ..
    · exact .refl _ _

theorem wake_posts (n : Slot) (s : State) : Posts moveKinds s (wake n s).1 := by
  unfold wake
  dsimp only
  split
  · exact .refl _ _
  · exact enterWith_posts ..
  · exact .refl _ _
  · dsimp only
    split
    · exact .of_eq rfl
    · exact Posts.start (proceedHeld_posts ..) rfl
  · exact .of_eq rfl
  · split
    · exact .refl _ _
    · exact enterPowering_posts ..
  · exact .refl _ _
  · exact .refl _ _

end Sys2Proof.Machine

/-! ### SLOT_RESTART of the current board (O16) -/

namespace Sys2Proof.Machine

/-! #### A slot's move, whoever has the controls -/

theorem enter_reports (n : Slot) (new : SlotState) (cause : SlotCause) (s : State) :
    (enter n new cause s).reports = s.reports ++ [.slot n (s.slot n).state new cause] := by
  rw [enter_eq]
  exact congrArg (· ++ _) (((judgePulse_same ..).same .reports (by decide)).trans
    (((routerSlotChanged_same ..).same .reports (by decide)).trans ((post_same ..).same .reports (by decide))))

/-- The router after the owner slot has left LIVE for HELD: no one's controls, and the slot has the claim (R147). -/
theorem ownerLost_held (n : Slot) (s : State) :
    (ownerLost n .held s).router.owner = .none ∧ (ownerLost n .held s).router.claim = some n := by
  have hrouter : (giveNone s).router =
      { s.router with owner := .none, grantMask := Tab.all 55 false, playTimer := none } :=
    (cutLostPulses_same _).same .router (by decide)
  unfold ownerLost
  dsimp only
  rw [if_pos rfl]
  exact ⟨congrArg Router.owner hrouter, rfl⟩

/-- The router hears of a slot in HELD. -/
theorem routerSlotChanged_held (n : Slot) (s : State) :
    (s.router.owner = .slot n → (routerSlotChanged n .held s).router.owner = .none ∧
      (routerSlotChanged n .held s).router.claim = some n) ∧
    (routerSlotChanged n .held s).router.owner ≠ .slot n ∧
    SameOutside [.link, .router, .coins] s (routerSlotChanged n .held s) := by
  by_cases howner : s.router.owner = .slot n
  · have hlost : routerSlotChanged n .held s = ownerLost n .held s := if_pos ⟨howner, by decide⟩
    obtain ⟨hnone, hclaim⟩ := ownerLost_held n s
    rw [hlost]
    exact ⟨fun _ => ⟨hnone, hclaim⟩, by rw [hnone]; exact nofun, ownerLost_same ..⟩
  · have hkept : routerSlotChanged n .held s = s := by
      rw [routerSlotChanged, if_neg fun h => howner h.1]
      exact ite_self _
    rw [hkept]
    exact ⟨fun h => absurd h howner, howner, .refl _ _⟩

/-- A slot brought to HELD: where it had the controls they are no one's, and it has the claim (R147). -/
theorem enter_held (n : Slot) (cause : SlotCause) (s : State) :
    (s.router.owner = .slot n → (enter n .held cause s).router.owner = .none ∧
      (enter n .held cause s).router.claim = some n) ∧
    (enter n .held cause s).router.owner ≠ .slot n ∧
    SameOutside [.link, .slots, .router, .coins, .reports] s (enter n .held cause s) := by
  have hpost : SameOutside [.link, .slots, .router, .coins] s
      (post (.slot n .held cause (s.slot n).kind) (moved n .held s)) :=
    (post_same ..).after ((State.setSlot_same ..).mono (by decide)) (by decide)
  obtain ⟨hlost, howner, hsame⟩ := routerSlotChanged_held n (post (.slot n .held cause (s.slot n).kind) (moved n .held s))
  have hrouter : (post (.slot n .held cause (s.slot n).kind) (moved n .held s)).router = s.router :=
    (post_same ..).same .router (by decide)
  rw [hrouter] at hlost
  rw [enter_eq, judgePulse_waits (.inr howner)]
  exact ⟨hlost, howner, (State.report_same ..).after ((hsame.after hpost (by decide)).mono (by decide)) (by decide)⟩

theorem restartHeld_spec (n : Slot) (s : State) :
    (s.router.owner = .slot n → (restartHeld n s).router.owner = .none ∧ (restartHeld n s).router.claim = some n) ∧
    (restartHeld n s).router.owner ≠ .slot n ∧
    SameOutside [.link, .slots, .bus, .router, .coins, .reports] s (restartHeld n s) := by
  have hbefore : SameOutside [.link, .slots, .bus, .router, .coins, .reports] s ((withdrawApply n s).setSlot n
      { ((withdrawApply n s).slot n).powerless with runUp := true }) :=
    (State.setSlot_same ..).after ((withdrawApply_same n s).mono (by decide)) (by decide)
  obtain ⟨hlost, howner, hsame⟩ := enter_held n .restart ((withdrawApply n s).setSlot n
    { ((withdrawApply n s).slot n).powerless with runUp := true })
  exact ⟨hlost, howner, hsame.after hbefore (by decide)⟩

/-- What SLOT_RESTART does to a slot, whoever has the controls: HELD, and on, with the moves reported in order. -/
theorem restartBoard_spec (n : Slot) (s : State) :
    (s.router.owner = .slot n → (restartBoard n s).router.owner = .none ∧ (restartBoard n s).router.claim = some n) ∧
    (∃ rs, (restartBoard n s).reports = s.reports ++ .slot n (s.slot n).state .held .restart :: rs ∧
      ∀ rep ∈ rs, rep.rising n) ∧
    Others n s (restartBoard n s) ∧ Posts moveKinds s (restartBoard n s) ∧
    SameOutside [.link, .slots, .bus, .router, .coins, .reports] s (restartBoard n s) := by
  obtain ⟨hlost, howner, hsame⟩ := restartHeld_spec n s
  have hrises := proceedHeld_rises howner
  have hrouter : (restartBoard n s).router = (restartHeld n s).router := hrises.same.same .router (by decide)
  obtain ⟨rs, hrs, hrising⟩ := hrises.reports
  have hreports : (restartHeld n s).reports = s.reports ++ [.slot n (s.slot n).state .held .restart] := by
    refine (enter_reports ..).trans ?_
    rw [State.slot_setSlot_self]
    rfl
  refine ⟨fun h => ?_, ⟨rs, ?_, hrising⟩, ?_, ?_, ?_⟩
  · rw [hrouter]
    exact hlost h
  · rw [restartBoard_eq, hrs, hreports, List.append_assoc]
    rfl
  · exact hrises.others.after ((enterWith_others ..).after (.of_same (withdrawApply_same n s) (by decide)))
  · exact (Posts.from_same (enterWith_posts ..) (withdrawApply_same n s) (by decide)).trans
      (hrises.posts.mono (by decide))
  · exact hrises.same.mono (by decide) |>.after hsame (fun _ h => h)

/-! #### The writer disabled, and the controller's part -/

/-- The writer disabled: its buffer may be abandoned, and nothing else of the frame store changes (R102). -/
theorem disableWriter_frame (s : State) :
    (disableWriter s).frame = { s.frame with writer := none, buffers := (disableWriter s).frame.buffers } := by
  have hframe : (disableWriter s).frame = { (abandonFilling s).frame with writer := none } :=
    (judgeWatched_same _).same .frame (by decide)
  have habandon : (abandonFilling s).frame = { s.frame with buffers := (abandonFilling s).frame.buffers } := by
    unfold abandonFilling
    split <;> rfl
  rw [hframe, habandon]

/-- The first report is acted on, with no changeover begun by it; the controller lets the others pass. -/
theorem settle_first {n : Slot} {s t : State} {rep : Report} {rs : List Report} (hr : s.co.record = none)
    (hc : s.co.current = some n) (hreports : s.reports = rep :: rs)
    (hact : { onCurrent n rep { s with reports := [] } with reports := [] } = t) (htr : t.co.record = none)
    (htc : t.co.current = some n) (hpassive : ∀ rep ∈ rs, rep.passive n) : settle s = t := by
  have htreports : t.reports = [] := by rw [← hact]
  have hfirst : onReport { s with reports := [] } rep = t := by
    unfold onReport
    dsimp only
    rw [hr, hc]
    exact hact
  rw [settle, hreports, List.foldl_cons, hfirst,
    foldl_onReport_passive htr htreports rs fun c hcur => by
      rw [htc] at hcur
      rw [← Option.some.inj hcur]
      exact hpassive,
    conduct_idle htr]
  rw [← htreports]

/-- The picture held and the writer disabled, until the restarted board is LIVE again (R97). -/
def awaitsLive (s : State) : State := setWatch .waitingLive (disableWriter (setHold true s))

theorem awaitsLive_spec (s : State) :
    (awaitsLive s).frame.hold = true ∧ (awaitsLive s).frame.writer = none ∧
      (awaitsLive s).co = { s.co with watch := .waitingLive } ∧ Posts outputKinds s (awaitsLive s) ∧
      SameOutside [.link, .co, .frame, .pic] s (awaitsLive s) := by
  have hframe := disableWriter_frame (setHold true s)
  have hco : (disableWriter (setHold true s)).co = s.co := (disableWriter_same _).same .co (by decide)
  refine ⟨(congrArg FrameStore.hold hframe :), (congrArg FrameStore.writer hframe :), ?_, ?_, ?_⟩
  · unfold awaitsLive setWatch
    dsimp only
    rw [hco]
  · exact Posts.finish (Posts.from_same (disableWriter_posts _) (setHold_same true s) (by decide)) rfl
  · exact (setWatch_same ..).after ((disableWriter_same _).after ((setHold_same true s).mono (by decide)) (by decide))
      (by decide)

theorem settle_restart {n : Slot} {s : State} (hs : Settled s) (hc : s.co.current = some n)
    (hst : (s.slot n).state = .live ∨ (s.slot n).state = .frozen) :
    settle (restartBoard n s) = awaitsLive { restartBoard n s with reports := [] } := by
  obtain ⟨hrecord, hnone⟩ := hs
  obtain ⟨-, ⟨rs, hrs, hrising⟩, -, -, hsame⟩ := restartBoard_spec n s
  have hco : (restartBoard n s).co = s.co := hsame.same .co (by decide)
  obtain ⟨-, -, hwatch, -, -⟩ := awaitsLive_spec { restartBoard n s with reports := [] }
  rw [hnone, List.nil_append] at hrs
  have hact : onCurrent n (.slot n (s.slot n).state .held .restart) { restartBoard n s with reports := [] } =
      awaitsLive { restartBoard n s with reports := [] } := (if_pos rfl).trans (if_pos hst)
  have hreports : (awaitsLive { restartBoard n s with reports := [] }).reports = [] :=
    (awaitsLive_spec _).2.2.2.2.same .reports (by decide)
  refine settle_first (n := n) (by rw [hco]; exact hrecord) (by rw [hco]; exact hc) hrs ?_ ?_ ?_
    fun rep hrep => (hrising rep hrep).passive n
  · rw [hact]
    generalize awaitsLive { restartBoard n s with reports := [] } = u at *
    rw [← hreports]
  · rw [hwatch]
    exact (congrArg Controller.record hco).trans hrecord
  · rw [hwatch]
    exact (congrArg Controller.current hco).trans hc

/-- The current board restarted, with the controller after it (R31, R97). -/
structure RestartedCurrent (n : Slot) (s u : State) : Prop where
  hold : u.frame.hold = true
  writer : u.frame.writer = none
  watch : u.co = { s.co with watch := .waitingLive }
  state : (u.slot n).state = if (s.profile n).dips.apply then .held else .booting
  lost : s.router.owner = .slot n → u.router.owner = .none ∧ u.router.claim = some n
  others : Others n s u
  kept : LinkKept s u
  same : SameOutside [.link, .slots, .bus, .co, .frame, .pic, .router, .coins] s u

theorem restartBoard_current {n : Slot} {s : State} (hs : Settled s) (hc : s.co.current = some n)
    (hst : (s.slot n).state = .live ∨ (s.slot n).state = .frozen) :
    RestartedCurrent n s (settle (restartBoard n s)) := by
  rw [settle_restart hs hc hst]
  obtain ⟨hlost, -, hothers, hposts, hsame⟩ := restartBoard_spec n s
  obtain ⟨hstate, -⟩ := restartBoard_record n s
  generalize restartBoard n s = v at *
  obtain ⟨hhold, hwriter, hwatch, hheld, hafter⟩ := awaitsLive_spec { v with reports := [] }
  have hcleared : SameOutside [.link, .slots, .bus, .router, .coins] s { v with reports := [] } :=
    hsame.cleared hs.2 (by decide)
  have hco : v.co = s.co := hsame.same .co (by decide)
  have hslots : (awaitsLive { v with reports := [] }).slots = v.slots := hafter.same .slots (by decide)
  have hrouter : (awaitsLive { v with reports := [] }).router = v.router := hafter.same .router (by decide)
  have hlink : Posts moveKinds s { v with reports := [] } := Posts.finish hposts rfl
  generalize awaitsLive { v with reports := [] } = u at *
  refine ⟨hhold, hwriter, ?_, ?_, ?_, ⟨fun m hm => ?_⟩, ?_, ?_⟩
  · rw [hwatch, hco]
  · rw [State.slot, hslots]
    exact hstate
  · rw [hrouter]
    exact hlost
  · rw [State.slot, hslots]
    exact hothers.slot m hm
  · exact ((hlink.mono (by decide : _ ⊆ ([1, 5, 6, 8] : List (Fin 11)))).trans (hheld.mono (by decide))).linkKept
  · exact (hafter.mono (by decide)).after (hcleared.mono (by decide)) (fun _ h => h)

/-- Settles O16: HELD and what follows it are reported, and the controller holds the picture at the first report. -/
theorem restartOfTheCurrentBoardHoldsThePicture : Obligations.RestartOfTheCurrentBoardHoldsThePicture := by
  intro dt tag n s b hturn hcur hsettled hst
  have hdone := restartBoard_current (n := n) (s := s.inService dt b) hsettled hcur hst
  have haccepts := slotRestartBlock_accepts (n := n) (s := s.inService dt b)
    (hst.elim (fun h => .inr (.inr (.inl h))) fun h => .inr (.inr (.inr h))) hsettled
  rw [exec_slotRestart, request_accepted hturn (slotLayout_slotByte n _) haccepts hdone.kept]
  generalize settle (restartBoard n (s.inService dt b)) = u at *
  exact ⟨_, rfl, replying_link hdone.kept _, hdone.hold, hdone.writer, hdone.watch, hdone.state, hdone.lost,
    hdone.others.slot, replying_same hdone.same (by decide) (by decide) (by decide) _⟩

end Sys2Proof.Machine

/-! ### The start of a changeover (O28) -/

namespace Sys2Proof.Machine

/-! #### Fades (R129, R139) -/

theorem startFade_done {rising : Bool} {duration level now : Nat}
    (h : duration = 0 ∨ level = if rising then 256 else 0) :
    startFade rising duration level now = (if rising then 256 else 0, none) := by
  unfold startFade
  dsimp only
  by_cases hlevel : level = if rising then 256 else 0
  · rw [if_pos hlevel, hlevel]
  · rw [if_neg hlevel, if_pos (h.resolve_right hlevel)]

theorem startFade_begun {rising : Bool} {duration level now : Nat} (hd : duration ≠ 0)
    (hl : level ≠ if rising then 256 else 0) :
    startFade rising duration level now = (level, some ⟨rising, duration, level, now, 0⟩) := by
  unfold startFade
  dsimp only
  rw [if_neg hl, if_neg hd]

theorem fadePicture_pic (rising : Bool) (duration : Nat) (s : State) :
    (fadePicture rising duration s).pic =
      { s.pic with
        level := (startFade rising duration s.pic.level s.now).1
        fade := (startFade rising duration s.pic.level s.now).2 } := rfl

theorem fadeSound_snd (rising : Bool) (duration : Nat) (s : State) :
    (fadeSound rising duration s).snd =
      { s.snd with
        gain := (startFade rising duration s.snd.gain s.now).1
        fade := (startFade rising duration s.snd.gain s.now).2 } := rfl

/-! #### The controls, the picture and the sound at QUIESCE -/

theorem giveLink_router (s : State) :
    (giveLink s).router = { s.router with owner := .link, grantMask := Tab.all 55 false, playTimer := none } := by
  unfold giveLink
  refine ((cutLostPulses_same _).same .router (by decide)).trans ?_
  split
  · rfl
  · exact (postInput_same _).same .router (by decide)

theorem giveNone_router (s : State) :
    (giveNone s).router = { s.router with owner := .none, grantMask := Tab.all 55 false, playTimer := none } :=
  (cutLostPulses_same _).same .router (by decide)

theorem routerQuiesce_router (s : State) :
    (routerQuiesce s).router =
      { s.router with
        claim := none
        owner := if s.router.linkHold then .link else .none
        grantMask := Tab.all 55 false
        playTimer := none } := by
  unfold routerQuiesce
  dsimp only
  split
  · exact giveLink_router _
  · exact giveNone_router _

theorem quiescePicture_spec (r : Record) (s : State) :
    let t := quiescePicture r s
    (r.holdStyle = true → t.frame = { s.frame with hold := true } ∧ t.pic = s.pic) ∧
    (r.holdStyle = false → t.frame = s.frame ∧
      (r.source = none ∨ s.cabinet.videoFade = 0 ∨ s.pic.level = 0 → t.pic.level = 0 ∧ t.pic.fade = none) ∧
      (r.source ≠ none → s.cabinet.videoFade ≠ 0 → s.pic.level ≠ 0 → t.pic.level = s.pic.level ∧
        t.pic.fade = some ⟨false, s.cabinet.videoFade, s.pic.level, s.now, 0⟩)) := by
  intro t
  refine ⟨fun h => ?_, fun h => ?_⟩
  · have ht : t = setHold true s := if_pos h
    rw [ht]
    exact ⟨rfl, rfl⟩
  · have ht : t = if r.source.isNone then setPictureLevel 0 s else fadePicture false s.cabinet.videoFade s :=
      if_neg (by rw [h]; exact Bool.false_ne_true)
    cases hsource : r.source with
    | none =>
      rw [hsource] at ht
      have ht : t = setPictureLevel 0 s := ht
      rw [ht]
      exact ⟨rfl, fun _ => ⟨rfl, rfl⟩, fun h => absurd rfl h⟩
    | some n =>
      rw [hsource] at ht
      have ht : t = fadePicture false s.cabinet.videoFade s := ht
      rw [ht]
      refine ⟨(fadePicture_same ..).same .frame (by decide), fun h => ?_, fun _ hd hl => ?_⟩
      · rw [fadePicture_pic, startFade_done (h.resolve_left nofun)]
        exact ⟨rfl, rfl⟩
      · rw [fadePicture_pic, startFade_begun hd hl]
        exact ⟨rfl, rfl⟩

theorem quiesceSound_spec (r : Record) (s : State) :
    let t := quiesceSound r s
    (r.source = none ∨ s.cabinet.audioFade = 0 ∨ s.snd.gain = 0 → t.snd.gain = 0 ∧ t.snd.fade = none) ∧
    (r.source ≠ none → s.cabinet.audioFade ≠ 0 → s.snd.gain ≠ 0 → t.snd.gain = s.snd.gain ∧
      t.snd.fade = some ⟨false, s.cabinet.audioFade, s.snd.gain, s.now, 0⟩) := by
  intro t
  cases hsource : r.source with
  | none =>
    have ht : t = setGain 0 s := if_pos (by rw [hsource]; rfl)
    rw [ht]
    exact ⟨fun _ => ⟨rfl, rfl⟩, fun h => absurd rfl h⟩
  | some n =>
    have ht : t = fadeSound false s.cabinet.audioFade s := if_neg (by rw [hsource]; exact Bool.false_ne_true)
    rw [ht]
    refine ⟨fun h => ?_, fun _ hd hl => ?_⟩
    · rw [fadeSound_snd, startFade_done (h.resolve_left nofun)]
      exact ⟨rfl, rfl⟩
    · rw [fadeSound_snd, startFade_begun hd hl]
      exact ⟨rfl, rfl⟩

/-! #### The start, part by part -/

/-- The record created and the controls withdrawn, before the coins, the picture and the sound. -/
def startControls (st : Start) (s : State) : State :=
  routerQuiesce (setWatch .stopped (setRecord (some (newRecord st s)) s))

theorem startChangeover_eq (st : Start) (s : State) :
    startChangeover st s = quiesceSound (newRecord st s) (quiescePicture (newRecord st s)
      (quiesceCoins (newRecord st s) (startControls st s))) := rfl

theorem startControls_same (st : Start) (s : State) :
    SameOutside [.link, .co, .router, .coins] s (startControls st s) := by
  have hrecord : SameOutside [.link, .co, .router, .coins] s (setWatch .stopped (setRecord (some (newRecord st s)) s)) :=
    (setWatch_same ..).after ((setRecord_same ..).mono (by decide)) (by decide)
  exact (routerQuiesce_same _).after hrecord (by decide)

theorem startControls_co (st : Start) (s : State) :
    (startControls st s).co = { s.co with record := some (newRecord st s), watch := .stopped } :=
  (routerQuiesce_same _).same .co (by decide)

/-- The state after the coins of `from` have been seen to: the picture and the sound are still to come. -/
def startCoins (st : Start) (s : State) : State := quiesceCoins (newRecord st s) (startControls st s)

theorem startCoins_same (st : Start) (s : State) : SameOutside [.link, .co, .router, .coins] s (startCoins st s) :=
  (quiesceCoins_same ..).after (startControls_same st s) (by decide)

theorem startChangeover_co (st : Start) (s : State) :
    (startChangeover st s).co = { s.co with record := some (newRecord st s), watch := .stopped } := by
  rw [startChangeover_eq, ← startControls_co]
  exact ((quiesceSound_same ..).same .co (by decide)).trans
    (((quiescePicture_same ..).same .co (by decide)).trans ((quiesceCoins_same ..).same .co (by decide)))

theorem startChangeover_router (st : Start) (s : State) :
    (startChangeover st s).router =
      { s.router with
        claim := none
        owner := if s.router.linkHold then .link else .none
        grantMask := Tab.all 55 false
        playTimer := none } := by
  have hrouter : (startControls st s).router = _ := routerQuiesce_router _
  rw [startChangeover_eq]
  exact ((quiesceSound_same ..).same .router (by decide)).trans
    (((quiescePicture_same ..).same .router (by decide)).trans
      (((quiesceCoins_same ..).same .router (by decide)).trans hrouter))

theorem startChangeover_queue {n : Slot} (st : Start) {s : State} (h : s.co.current = some n) :
    (startChangeover st s).queue n = [] := by
  have hcoins : (startChangeover st s).coins = (returnQueue n (startControls st s)).coins := by
    have hquiesce : startCoins st s = returnQueue n (startControls st s) := by
      rw [startCoins, quiesceCoins, show (newRecord st s).source = some n from h]
    rw [← hquiesce]
    exact ((quiesceSound_same ..).same .coins (by decide)).trans ((quiescePicture_same ..).same .coins (by decide))
  obtain ⟨⟨-, -, hqueues⟩, -⟩ := returnQueue_spec n (startControls st s)
  rw [State.queue, hcoins, hqueues]
  exact Tab.at_put_self ..

/-- The picture at the start of a changeover (R80). -/
theorem startChangeover_picture (st : Start) (s : State) :
    let t := startChangeover st s
    (s.cabinet.holdStyle = true → t.frame = { s.frame with hold := true } ∧ t.pic = s.pic) ∧
    (s.cabinet.holdStyle = false → t.frame = s.frame ∧
      (s.co.current = none ∨ s.cabinet.videoFade = 0 ∨ s.pic.level = 0 → t.pic.level = 0 ∧ t.pic.fade = none) ∧
      (s.co.current ≠ none → s.cabinet.videoFade ≠ 0 → s.pic.level ≠ 0 → t.pic.level = s.pic.level ∧
        t.pic.fade = some ⟨false, s.cabinet.videoFade, s.pic.level, s.now, 0⟩)) := by
  have hspec := quiescePicture_spec (newRecord st s) (startCoins st s)
  have hsame := startCoins_same st s
  have hframe := hsame.same .frame (by decide)
  have hpic := hsame.same .pic (by decide)
  have hprofiles := hsame.same .profiles (by decide)
  have hnow := hsame.same .now (by decide)
  simp only [Block.same] at hframe hpic hprofiles hnow
  have hcabinet : (startCoins st s).cabinet = s.cabinet := by rw [State.cabinet, hprofiles, State.cabinet]
  rw [hframe, hpic, hcabinet, hnow] at hspec
  intro t
  have htframe : t.frame = (quiescePicture (newRecord st s) (startCoins st s)).frame :=
    (quiesceSound_same ..).same .frame (by decide)
  have htpic : t.pic = (quiescePicture (newRecord st s) (startCoins st s)).pic :=
    (quiesceSound_same ..).same .pic (by decide)
  rw [htframe, htpic]
  exact hspec

/-- The sound at the start of a changeover (R80). -/
theorem startChangeover_sound (st : Start) (s : State) :
    let t := startChangeover st s
    (s.co.current = none ∨ s.cabinet.audioFade = 0 ∨ s.snd.gain = 0 → t.snd.gain = 0 ∧ t.snd.fade = none) ∧
    (s.co.current ≠ none → s.cabinet.audioFade ≠ 0 → s.snd.gain ≠ 0 → t.snd.gain = s.snd.gain ∧
      t.snd.fade = some ⟨false, s.cabinet.audioFade, s.snd.gain, s.now, 0⟩) := by
  have hspec := quiesceSound_spec (newRecord st s) (quiescePicture (newRecord st s) (startCoins st s))
  have hsame : SameOutside [.link, .co, .router, .coins, .frame, .pic] s
      (quiescePicture (newRecord st s) (startCoins st s)) :=
    (quiescePicture_same ..).after ((startCoins_same st s).mono (by decide)) (by decide)
  have hsnd := hsame.same .snd (by decide)
  have hprofiles := hsame.same .profiles (by decide)
  have hnow := hsame.same .now (by decide)
  simp only [Block.same] at hsnd hprofiles hnow
  have hcabinet : (quiescePicture (newRecord st s) (startCoins st s)).cabinet = s.cabinet := by
    rw [State.cabinet, hprofiles, State.cabinet]
  rw [hsnd, hcabinet, hnow] at hspec
  exact hspec

theorem startChangeover_posts (st : Start) (s : State) : Posts ownerKinds s (startChangeover st s) := by
  have hcontrols : Posts ownerKinds s (startControls st s) := Posts.start (routerQuiesce_posts _) rfl
  have hcoins : Posts ownerKinds (startControls st s) (startCoins st s) := by
    unfold startCoins quiesceCoins
    split
    · exact (returnQueue_posts ..).mono (by decide)
    · exact .refl _ _
  have hrest : SameOutside [.frame, .pic, .snd] (startCoins st s) (startChangeover st s) :=
    (quiesceSound_same ..).after ((quiescePicture_same ..).mono (by decide)) (by decide)
  exact (hcontrols.trans hcoins).trans (.of_same hrest (by decide))

/-- Settles O28: the start taken part by part, each part by what it says of its own block. -/
theorem changeoverStartsInQuiesce : Obligations.ChangeoverStartsInQuiesce := by
  intro st s t
  have hrouter := startChangeover_router st s
  obtain ⟨hhold, hfade⟩ := startChangeover_picture st s
  obtain ⟨hsilent, hsounding⟩ := startChangeover_sound st s
  refine ⟨⟨newRecord st s, startChangeover_co st s, rfl, rfl, rfl, rfl, rfl, rfl, rfl, rfl, rfl⟩,
    (congrArg Router.claim hrouter :), (congrArg Router.linkHold hrouter :), (congrArg Router.owner hrouter :),
    (congrArg Router.playTimer hrouter :), fun n hn => startChangeover_queue st hn, hhold, hfade, hsilent, hsounding,
    startChangeover_same st s⟩

end Sys2Proof.Machine

/-! ### SELECT (O29) -/

namespace Sys2Proof.Machine

/-! #### How far a changeover goes by itself -/

theorem advancePhases_waits {s : State} (h : advancePhase s = s) (k : Nat) : advancePhases k s = s := by
  induction k with
  | zero => rfl
  | succ k ih => rw [advancePhases, h, ih]

/-- A changeover in a phase whose end has not come waits there. -/
theorem conduct_waits {s : State} (h : advancePhase { s with reports := [] } = { s with reports := [] }) :
    conduct s = { s with reports := [] } := by
  rw [conduct, progress, advancePhases_waits h]

/-- A changeover that passes one phase and waits in the next. -/
theorem conduct_passes {s t : State} (h : advancePhase { s with reports := [] } = t) (ht : advancePhase t = t) :
    conduct s = { t with reports := [] } := by
  rw [conduct, progress, advancePhases, h, advancePhases_waits ht]

section
variable {s : State} {r : Record}

theorem advancePhase_quiesce (hr : s.co.record = some r) (hp : r.phase = .quiesce) :
    advancePhase s = if quiesceDone r s then endQuiesce r s else s := by
  unfold advancePhase
  rw [hr]
  dsimp only
  rw [hp]

/-- PARK, WAKE, LOCK and GRANT wait on no condition. -/
theorem advancePhase_event (hr : s.co.record = some r)
    (hp : r.phase = .park ∨ r.phase = .wake ∨ r.phase = .lock ∨ r.phase = .grant) : advancePhase s = s := by
  unfold advancePhase
  rw [hr]
  dsimp only
  rcases hp with hp | hp | hp | hp <;> rw [hp]

/-- QUIESCE waits for the sound. -/
theorem advancePhase_sounding (hr : s.co.record = some r) (hp : r.phase = .quiesce) (hsource : r.source ≠ none)
    (hfade : s.snd.fade ≠ none) : advancePhase s = s := by
  have hsome : r.source.isNone = false := Option.isNone_eq_false_iff.2 (Option.isSome_iff_ne_none.2 hsource)
  have hsound : s.snd.fade.isNone = false := Option.isNone_eq_false_iff.2 (Option.isSome_iff_ne_none.2 hfade)
  rw [advancePhase_quiesce hr hp, quiesceDone, fadesDone, hsome, hsound]
  rfl

end

/-- A changeover away from a board waits in QUIESCE while its sound fades (R80). -/
theorem conduct_start_sounding {st : Start} {s : State} (hc : s.co.current ≠ none) (hfade : s.cabinet.audioFade ≠ 0)
    (hgain : s.snd.gain ≠ 0) :
    conduct (startChangeover st s) = { startChangeover st s with reports := [] } := by
  obtain ⟨-, hfading⟩ := startChangeover_sound st s
  obtain ⟨-, hfading⟩ := hfading hc hfade hgain
  refine conduct_waits (advancePhase_sounding (r := newRecord st s) ?_ rfl hc ?_)
  · exact (congrArg Controller.record (startChangeover_co st s) :)
  · exact fun h => Option.some_ne_none _ (hfading.symm.trans h)

/-! #### From standby to WAKE (R80 to R83) -/

theorem disableWriter_pic (s : State) :
    (disableWriter s).pic.level = s.pic.level ∧ (disableWriter s).pic.fade = s.pic.fade := by
  have hpost (u : State) : (postOutput true u).pic = u.pic := (postOutput_same ..).same .pic (by decide)
  have hlift (u : State) : (liftDim u).pic.level = u.pic.level ∧ (liftDim u).pic.fade = u.pic.fade := by
    unfold liftDim
    split
    · rw [hpost]
      exact ⟨rfl, rfl⟩
    · exact ⟨rfl, rfl⟩
  have hjudge (u : State) : (judgeWatched u).pic.level = u.pic.level ∧ (judgeWatched u).pic.fade = u.pic.fade := by
    unfold judgeWatched
    split
    · exact ⟨rfl, rfl⟩
    · exact hlift _
  have habandon : (abandonFilling s).pic = s.pic := (abandonFilling_same s).same .pic (by decide)
  obtain ⟨hlevel, hfade⟩ := hjudge { abandonFilling s with frame := { (abandonFilling s).frame with writer := none } }
  exact ⟨hlevel.trans (congrArg Conditioner.level habandon), hfade.trans (congrArg Conditioner.fade habandon)⟩

/-- The writer disabled where the style has the picture held (R80). -/
def holdDisabled (r : Record) (s : State) : State := if r.holdStyle then disableWriter s else s

theorem holdDisabled_same (r : Record) (s : State) : SameOutside [.link, .frame, .pic] s (holdDisabled r s) := by
  unfold holdDisabled
  split
  · exact disableWriter_same s
  · exact .refl _ _

theorem holdDisabled_posts (r : Record) (s : State) : Posts outputKinds s (holdDisabled r s) := by
  unfold holdDisabled
  split
  · exact disableWriter_posts s
  · exact .refl _ _

theorem holdDisabled_kept (r : Record) (s : State) :
    (holdDisabled r s).frame.hold = s.frame.hold ∧ (holdDisabled r s).pic.level = s.pic.level := by
  unfold holdDisabled
  split
  · exact ⟨(congrArg FrameStore.hold (disableWriter_frame s) :), (disableWriter_pic s).1⟩
  · exact ⟨rfl, rfl⟩

/-- The state at the end of PARK, with no board to park. -/
def standbyParked (r : Record) (s : State) : State :=
  disableWriter (setRecord (some { r with phase := .park }) (holdDisabled r s))

theorem endQuiesce_standby {r : Record} {n : Slot} {s : State} (hsource : r.source = none) (ht : r.target = some n)
    (hp : s.co.pending = none) :
    endQuiesce r s = enterWake { r with phase := .park } n (standbyParked r s) := by
  have hpending : (holdDisabled r s).co.pending = none := by
    rw [show (holdDisabled r s).co = s.co from (holdDisabled_same r s).same .co (by decide)]
    exact hp
  have hcoins : endQuiesceCoins r (holdDisabled r s) = holdDisabled r s := by rw [endQuiesceCoins, hsource]
  change (match (endQuiesceCoins r (holdDisabled r s)).co.pending with
    | some p => supersede r p (endQuiesceCoins r (holdDisabled r s))
    | none => enterPark r (endQuiesceCoins r (holdDisabled r s))) = _
  rw [hcoins, hpending]
  unfold enterPark
  dsimp only
  rw [hsource, ht]
  dsimp only
  rw [← hsource, ← ht]
  rfl

theorem enterWake_underWay {r : Record} {n : Slot} {s t : State}
    (h : wake n (setRecord (some { r with phase := .wake }) s) = (t, .underWay)) : enterWake r n s = t := by
  unfold enterWake
  dsimp only
  rw [h]

theorem enterWake_live {r : Record} {n : Slot} {s : State} (h : (s.slot n).state = .live) (hp : s.co.pending = none) :
    enterWake r n s =
      enterLock { r with phase := .wake, wokenFrozen := false } n (setRecord (some { r with phase := .wake }) s) := by
  have hwake : wake n (setRecord (some { r with phase := .wake }) s) =
      (setRecord (some { r with phase := .wake }) s, .live false) := by
    unfold wake
    dsimp only
    rw [show ((setRecord (some { r with phase := .wake }) s).slot n).state = .live from h]
  unfold enterWake
  dsimp only
  rw [hwake]
  dsimp only
  rw [endWake, show (setRecord (some { r with phase := .wake }) s).co.pending = none from hp]

/-- A slot without a lock is waited for in LOCK, the limit running (R84). -/
theorem enterLock_waits {r : Record} {n : Slot} {s : State} (h : (s.monitor n.source).state ≠ .locked) :
    enterLock r n s = setRecord (some { r with
      phase := .lock
      lockLimit := some (s.now + ms (s.profile n).general.lockLimit)
      checkApplies := (s.profile n).general.resumeCheck && r.wokenFrozen && (s.slot n).parkedSig.isSome }) s :=
  if_neg h

theorem wake_off {n : Slot} {s : State} (h : (s.slot n).state = .off) (hm : (s.slot n).mismatch = false) :
    wake n s = (enterPowering n .wake s, .underWay) := by
  unfold wake
  dsimp only
  rw [h]
  exact if_neg (by rw [hm]; exact Bool.false_ne_true)

/-- What a changeover from standby has done when its target is about to be woken. -/
structure Begun (st : Start) (s w : State) : Prop where
  co : ∃ r : Record, w.co = { current := none, record := some r, pending := none, watch := .stopped } ∧
    r = { newRecord st s with phase := .park }
  writer : w.frame.writer = none
  hold : s.cabinet.holdStyle = true → w.frame.hold = true
  level : s.cabinet.holdStyle = false → w.pic.level = 0
  gain : w.snd.gain = 0
  owner : ∀ n, w.router.owner ≠ .slot n
  posts : Posts [3, 5, 8] s w
  same : SameOutside [.link, .co, .frame, .pic, .snd, .router, .coins, .reports] s w

theorem standbyParked_spec (r : Record) (s : State) :
    (standbyParked r s).co = { s.co with record := some { r with phase := .park } } ∧
      (standbyParked r s).frame.writer = none ∧ (standbyParked r s).frame.hold = s.frame.hold ∧
      (standbyParked r s).pic.level = s.pic.level ∧ Posts outputKinds s (standbyParked r s) ∧
      SameOutside [.link, .co, .frame, .pic] s (standbyParked r s) := by
  have hheld := (holdDisabled_same r s).mono (m := [.link, .co, .frame, .pic]) (by decide)
  have hset : SameOutside [.link, .co, .frame, .pic] s (setRecord (some { r with phase := .park }) (holdDisabled r s)) :=
    (setRecord_same ..).after hheld (by decide)
  have hco : (holdDisabled r s).co = s.co := (holdDisabled_same r s).same .co (by decide)
  have hframe := disableWriter_frame (setRecord (some { r with phase := .park }) (holdDisabled r s))
  obtain ⟨hhold, hlevel⟩ := holdDisabled_kept r s
  refine ⟨?_, (congrArg FrameStore.writer hframe :), (congrArg FrameStore.hold hframe :).trans hhold,
    (disableWriter_pic _).1.trans hlevel, ?_, (disableWriter_same _).after hset (by decide)⟩
  · refine ((disableWriter_same _).same .co (by decide)).trans ?_
    change { (holdDisabled r s).co with record := some { r with phase := .park } } = _
    rw [hco]
  · exact (holdDisabled_posts r s).trans (Posts.start (disableWriter_posts _) rfl)

theorem standbyParked_begun {st : Start} {s : State} (hc : s.co.current = none) (hp : s.co.pending = none) :
    Begun st s (standbyParked (newRecord st s) { startChangeover st s with reports := [] }) := by
  have hco := startChangeover_co st s
  have hrouter := startChangeover_router st s
  obtain ⟨hhold, hfade⟩ := startChangeover_picture st s
  obtain ⟨hsilent, -⟩ := startChangeover_sound st s
  have hstarted : Posts ownerKinds s { startChangeover st s with reports := [] } :=
    Posts.finish (startChangeover_posts st s) rfl
  have hstart : SameOutside [.link, .co, .frame, .pic, .snd, .router, .coins, .reports] s
      { startChangeover st s with reports := [] } :=
    SameOutside.with_reports ((startChangeover_same st s).mono (by decide)) (by decide)
  obtain ⟨hpco, hwriter, hkept, hlevel, hposts, hsame⟩ :=
    standbyParked_spec (newRecord st s) { startChangeover st s with reports := [] }
  have hsnd := hsame.same .snd (by decide)
  have hprouter := hsame.same .router (by decide)
  simp only [Block.same] at hsnd hprouter
  generalize standbyParked (newRecord st s) { startChangeover st s with reports := [] } = w at *
  generalize startChangeover st s = v at *
  refine ⟨⟨_, ?_, rfl⟩, hwriter, fun h => ?_, fun h => ?_, ?_, fun n => ?_, ?_, ?_⟩
  · rw [hpco, hco]
    dsimp only
    rw [hc, hp]
  · rw [hkept, (hhold h).1]
  · rw [hlevel]
    exact ((hfade h).2.1 (.inl hc)).1
  · rw [hsnd]
    exact (hsilent (.inl hc)).1
  · rw [hprouter, hrouter]
    dsimp only
    split
    · exact nofun
    · exact nofun
  · exact (hstarted.mono (by decide)).trans (hposts.mono (by decide))
  · exact (hsame.mono (by decide)).after hstart (fun _ h => h)

/-- From standby, a changeover is at once at the waking of its target (R80 to R83). -/
theorem start_standby {st : Start} {n : Slot} {s : State} (hc : s.co.current = none) (hp : s.co.pending = none)
    (ht : st.target = some n) :
    advancePhase { startChangeover st s with reports := [] } =
      enterWake { newRecord st s with phase := .park } n
        (standbyParked (newRecord st s) { startChangeover st s with reports := [] }) := by
  have hco := startChangeover_co st s
  have hrecord : ({ startChangeover st s with reports := [] } : State).co.record = some (newRecord st s) :=
    congrArg Controller.record hco
  have hpending : ({ startChangeover st s with reports := [] } : State).co.pending = none :=
    (congrArg Controller.pending hco).trans hp
  have hdone : quiesceDone (newRecord st s) { startChangeover st s with reports := [] } = true := by
    rw [quiesceDone, show (newRecord st s).source = none from hc]
    rfl
  rw [advancePhase_quiesce hrecord rfl, if_pos hdone, endQuiesce_standby (by exact hc) (by exact ht) hpending]

/-- What a changeover from standby has made of the part when it waits in a phase for its target. -/
structure Awaits (st : Start) (phase : Phase) (n : Slot) (s u : State) : Prop where
  now : u.now = s.now
  kept : LinkKept s u
  current : u.co.current = none
  pending : u.co.pending = none
  writer : u.frame.writer = none
  gain : u.snd.gain = 0
  level : s.cabinet.holdStyle = false → u.pic.level = 0
  hold : s.cabinet.holdStyle = true → u.frame.hold = true
  others : ∀ m, m ≠ n → u.slot m = s.slot m
  record : ∃ r, u.co.record = some r ∧ r.phase = phase ∧ r.tag = st.tag ∧ r.source = none ∧ r.target = st.target ∧
    (phase = .lock → r.lockLimit = some (s.now + ms (s.profile n).general.lockLimit))

/-- An OFF slot is powered, and waited for in WAKE (R83, R34). -/
theorem start_standby_wake {st : Start} {n : Slot} {s : State} (hc : s.co.current = none) (hp : s.co.pending = none)
    (ht : st.target = some n) (hoff : (s.slot n).state = .off) (hm : (s.slot n).mismatch = false)
    (hgood : (s.slot n).powerGood = false) :
    let u := conduct (startChangeover st s)
    Awaits st .wake n s u ∧ u.slot n = (s.slot n).powered s.now (s.profile n).general.lineHigh := by
  have hbegun := standbyParked_begun (st := st) hc hp
  have hpass := start_standby hc hp ht
  generalize standbyParked (newRecord st s) { startChangeover st s with reports := [] } = w at *
  obtain ⟨⟨r, hco, hr⟩, hwriter, hhold, hlevel, hgain, howner, hposts, hsame⟩ := hbegun
  rw [← hr] at hpass
  have hslots : w.slots = s.slots := hsame.same .slots (by decide)
  have hprofiles : w.profiles = s.profiles := hsame.same .profiles (by decide)
  have hnow : w.now = s.now := hsame.same .now (by decide)
  have hslot (m : Slot) : w.slot m = s.slot m := by rw [State.slot, hslots, State.slot]
  have hwake := wake_off (n := n) (s := setRecord (some { r with phase := .wake }) w)
    (by exact (congrArg SlotRecord.state (hslot n)).trans hoff) (by exact (congrArg SlotRecord.mismatch (hslot n)).trans hm)
  rw [enterWake_underWay hwake] at hpass
  have hmoves := enterPowering_moves (n := n) (s := setRecord (some { r with phase := .wake }) w) (howner n) .wake
  have hself := enterPowering_slot n .wake (setRecord (some { r with phase := .wake }) w)
  generalize enterPowering n .wake (setRecord (some { r with phase := .wake }) w) = t at *
  have htco : t.co = { w.co with record := some { r with phase := .wake } } := hmoves.same.same .co (by decide)
  have htrecord : t.co.record = some { r with phase := .wake } := by rw [htco]
  have hframe : t.frame = w.frame := hmoves.same.same .frame (by decide)
  have hpic : t.pic = w.pic := hmoves.same.same .pic (by decide)
  have hsnd : t.snd = w.snd := hmoves.same.same .snd (by decide)
  intro u
  have hu : u = { t with reports := [] } := conduct_passes hpass (advancePhase_event htrecord (.inr (.inl rfl)))
  rw [hu]
  refine ⟨⟨?_, ?_, ?_, ?_, ?_, ?_, fun h => ?_, fun h => ?_, fun m hm => ?_, _, htrecord, rfl, ?_, ?_, ?_, nofun⟩, ?_⟩
  · exact (hmoves.same.same .now (by decide)).trans hnow
  · exact ((hposts.mono (by decide : _ ⊆ ([1, 3, 5, 8] : List (Fin 11)))).trans (Posts.start
      (t := setRecord (some { r with phase := .wake }) w) (hmoves.posts.mono (by decide)) rfl)).linkKept
  · exact (congrArg Controller.current htco).trans (congrArg Controller.current hco)
  · exact (congrArg Controller.pending htco).trans (congrArg Controller.pending hco)
  · exact (congrArg FrameStore.writer hframe).trans hwriter
  · exact (congrArg Mixer.gain hsnd).trans hgain
  · exact (congrArg Conditioner.level hpic).trans (hlevel h)
  · exact (congrArg FrameStore.hold hframe).trans (hhold h)
  · exact (hmoves.others.slot m hm).trans (hslot m)
  · rw [hr]
    rfl
  · rw [hr]
    exact hc
  · rw [hr]
    rfl
  · have hwslot : (setRecord (some { r with phase := .wake }) w).slot n = s.slot n := hslot n
    have hwprofile : (setRecord (some { r with phase := .wake }) w).profile n = s.profile n :=
      congrArg (fun p : Profiles => p.working.slots.at n) hprofiles
    have hwnow : (setRecord (some { r with phase := .wake }) w).now = s.now := hnow
    rw [hwslot, hwprofile, hwnow, if_neg (by rw [hgood]; exact Bool.false_ne_true)] at hself
    exact hself

/-- A LIVE slot without a lock is waited for in LOCK (R83, R84). -/
theorem start_standby_lock {st : Start} {n : Slot} {s : State} (hc : s.co.current = none) (hp : s.co.pending = none)
    (ht : st.target = some n) (hlive : (s.slot n).state = .live) (hlock : (s.monitor n.source).state ≠ .locked) :
    let u := conduct (startChangeover st s)
    Awaits st .lock n s u ∧ u.slot n = s.slot n := by
  have hbegun := standbyParked_begun (st := st) hc hp
  have hpass := start_standby hc hp ht
  generalize standbyParked (newRecord st s) { startChangeover st s with reports := [] } = w at *
  obtain ⟨⟨r, hco, hr⟩, hwriter, hhold, hlevel, hgain, howner, hposts, hsame⟩ := hbegun
  rw [← hr] at hpass
  have hslots : w.slots = s.slots := hsame.same .slots (by decide)
  have hmonitors : w.monitors = s.monitors := hsame.same .monitors (by decide)
  have hprofiles : w.profiles = s.profiles := hsame.same .profiles (by decide)
  have hnow : w.now = s.now := hsame.same .now (by decide)
  have hslot (m : Slot) : w.slot m = s.slot m := by rw [State.slot, hslots, State.slot]
  have hwlock : (w.monitor n.source).state ≠ .locked := by
    rw [State.monitor, hmonitors]
    exact hlock
  rw [enterWake_live (by rw [hslot]; exact hlive) (congrArg Controller.pending hco), enterLock_waits (by exact hwlock)]
    at hpass
  intro u
  have hu : u = { setRecord _ (setRecord (some { r with phase := .wake }) w) with reports := [] } :=
    conduct_passes hpass (advancePhase_event rfl (.inr (.inr (.inl rfl))))
  rw [hu]
  refine ⟨⟨hnow, hposts.linkKept, congrArg Controller.current hco, congrArg Controller.pending hco, hwriter, hgain, hlevel,
    hhold, fun m _ => hslot m, _, rfl, rfl, ?_, ?_, ?_, fun _ => ?_⟩, hslot n⟩
  · rw [hr]
    rfl
  · rw [hr]
    exact hc
  · rw [hr]
    rfl
  · have hwprofile : w.profile n = s.profile n := by rw [State.profile, hprofiles, State.profile]
    change some (w.now + ms (w.profile n).general.lockLimit) = _
    rw [hwprofile, hnow]

end Sys2Proof.Machine

/-! ### What the changeover controller posts

Whatever the controller does within a step, of the link it changes the notice table alone, and leaves STORE, LINK and
READY out of it. -/

namespace Sys2Proof.Machine

/-- The kinds of everything but STORE, LINK and READY. -/
def toldKinds : List (Fin 11) := [0, 1, 2, 3, 4, 5, 6, 8]

/-- Of the link only the notice table changes, and not by a STORE, LINK or READY. -/
abbrev Tells (s t : State) : Prop := Posts toldKinds s t

theorem Tells.of {K : List (Fin 11)} {s t : State} (h : Posts K s t) (hK : K ⊆ toldKinds) : Tells s t := h.mono hK

theorem setRecord_tells (r : Option Record) (s : State) : Tells s (setRecord r s) := .of_eq rfl

theorem startChangeover_tells (st : Start) (s : State) : Tells s (startChangeover st s) :=
  .of (startChangeover_posts ..) (by decide)

theorem closeRecord_posts (r : Record) (o : CoOutcome) (s : State) : Posts [0] s (closeRecord r o s) :=
  Posts.finish (post_posts (kinds := [0]) (List.mem_cons_self (l := [])) s) rfl

theorem closeRecord_tells (r : Record) (o : CoOutcome) (s : State) : Tells s (closeRecord r o s) :=
  .of (closeRecord_posts ..) (by decide)

theorem startPending_posts (p : Pending) (s : State) : Posts ownerKinds s (startPending p s) :=
  Posts.start (startChangeover_posts _ (setPending none s)) rfl

theorem startPending_tells (p : Pending) (s : State) : Tells s (startPending p s) := .of (startPending_posts ..) (by decide)

theorem parkTarget_posts (r : Record) (evenSource : Bool) (s : State) : Posts leaveKinds s (parkTarget r evenSource s) := by
  unfold parkTarget
  split
  · exact .refl _ s
  · split
    · exact park_posts ..
    · exact .refl _ s

theorem disableWriter_tells (s : State) : Tells s (disableWriter s) := .of (disableWriter_posts s) (by decide)

theorem enableWriter_tells (n : Slot) (s : State) : Tells s (enableWriter n s) := .of (enableWriter_posts ..) (by decide)

theorem supersede_tells (r : Record) (p : Pending) (s : State) : Tells s (supersede r p s) :=
  (startPending_tells ..).after ((closeRecord_tells ..).after ((Tells.of (parkTarget_posts ..) (by decide)).after
    (disableWriter_tells s)))

theorem startNext_posts (r : Record) (s : State) : Posts ownerKinds s (startNext r s) := by
  unfold startNext
  split
  · exact startPending_posts ..
  · split
    · exact startChangeover_posts ..
    · exact startChangeover_posts ..

theorem countFailure_posts (r : Record) (s : State) : Posts counterKinds s (countFailure r s) := by
  unfold countFailure
  split
  · exact increment_posts_counter ..
  · exact .refl _ s

theorem fail_tells (r : Record) (o : CoOutcome) (s : State) : Tells s (fail r o s) := by
  have hstopped : Tells s (stopSoundFade (stopPictureFade (disableWriter s))) :=
    Posts.finish (disableWriter_tells s) rfl
  exact (Tells.of (startNext_posts ..) (by decide)).after ((closeRecord_tells ..).after
    ((Tells.of (countFailure_posts ..) (by decide)).after ((Tells.of (parkTarget_posts ..) (by decide)).after hstopped)))

theorem abortChangeover_tells (r : Record) (tag : Byte) (s : State) : Tells s (abortChangeover r tag s) := by
  have hparked : Tells s (setPending none (parkTarget r true (disableWriter s))) :=
    Posts.finish ((Tells.of (parkTarget_posts ..) (by decide)).after (disableWriter_tells s)) rfl
  exact (startChangeover_tells ..).after ((closeRecord_tells ..).after hparked)

theorem loseBoard_tells (reason : Reason) (s : State) : Tells s (loseBoard reason s) :=
  Posts.start (startChangeover_tells _ (setWatch .stopped s)) rfl

theorem startWatch_tells (length : Nat) (s : State) : Tells s (startWatch length s) := by
  unfold startWatch
  split
  · exact loseBoard_tells ..
  · exact .of_eq rfl

theorem endWatch_tells (s : State) : Tells s (endWatch s) := .of_same (endWatch_same s) (by decide)

theorem watchIfLost_tells (n : Slot) (s : State) : Tells s (watchIfLost n s) := by
  unfold watchIfLost
  split
  · exact Posts.start (startWatch_tells _ (setHold true s)) rfl
  · exact Posts.start (startWatch_tells _ (setHold true s)) rfl
  · exact .refl _ s
  · exact .refl _ s

/-! #### The phases -/

theorem granted_tells (r : Record) (s : State) : Tells s (granted r s) := by
  have hwatched : Tells s (judgeWatched { s with co := { s.co with current := r.target } }) :=
    Posts.start (Tells.of (judgeWatched_posts _) (by decide)) rfl
  have hslot (u : State) : Tells u (grantSlot r.target u) := by
    unfold grantSlot
    split
    · exact Posts.start (Tells.of (increment_posts_counter ..) (by decide)) rfl
    · exact .refl _ u
  exact (closeRecord_tells ..).after ((hslot _).after hwatched)

theorem grant_tells (r : Record) (s : State) : Tells s (grant r s) := by
  have hrouter (u : State) : Tells u (routerGrant r.target u) := .of (routerGrant_posts ..) (by decide)
  rw [grant_eq]
  refine (granted_tells r s).trans ?_
  split
  · exact startPending_tells ..
  · split
    · exact (watchIfLost_tells ..).after (hrouter _)
    · exact hrouter _

theorem enterReveal_tells (r : Record) (s : State) : Tells s (enterReveal r s) :=
  .of_same (enterReveal_same r s) (by decide)

theorem setOutput_tells (r : Record) (d : Decision) (s : State) : Tells s (setOutput r d s) := by
  unfold setOutput
  split
  · exact Posts.start (Tells.of (retime_posts d (setHold false (setBlank true (setRecord (some r) s)))) (by decide)) rfl
  · refine Posts.trans (t := follow d s) (.of_same (follow_same d s) (by decide)) ?_
    dsimp only
    generalize follow d s = u
    split
    · split
      · exact .of_eq rfl
      · exact .of_eq rfl
    · split
      · exact .of_eq rfl
      · exact .of_eq rfl

theorem enterRetime_tells (r : Record) (s : State) : Tells s (enterRetime r s) := by
  unfold enterRetime
  dsimp only
  split
  · exact fail_tells ..
  · split
    · exact setOutput_tells ..
    · next n _ =>
      exact (enableWriter_tells ..).after
        (Posts.start (setOutput_tells _ _ (placeSlot n _ (latchWindow n s))) rfl)

theorem endLock_tells (r : Record) (s : State) : Tells s (endLock r s) := by
  unfold endLock
  split
  · exact supersede_tells ..
  · exact enterRetime_tells ..

theorem judgeLock_tells (r : Record) (n : Slot) (s : State) : Tells s (judgeLock r n s) := by
  unfold judgeLock
  split
  · dsimp only
    split
    · split
      · exact setRecord_tells ..
      · exact Posts.start (enableWriter_tells n (latchWindow n (setRecord _ s))) rfl
    · exact endLock_tells ..
  · exact fail_tells ..

theorem enterLock_tells (r : Record) (n : Slot) (s : State) : Tells s (enterLock r n s) := by
  unfold enterLock
  dsimp only
  split
  · exact Posts.start (judgeLock_tells _ n (setRecord _ s)) rfl
  · exact setRecord_tells ..

theorem endWake_tells (r : Record) (n : Slot) (s : State) : Tells s (endWake r n s) := by
  unfold endWake
  split
  · exact supersede_tells ..
  · exact enterLock_tells ..

theorem enterWake_tells (r : Record) (n : Slot) (s : State) : Tells s (enterWake r n s) := by
  have hwake : Tells s (wake n (setRecord (some { r with phase := .wake }) s)).1 :=
    Posts.start (Tells.of (wake_posts n (setRecord (some { r with phase := .wake }) s)) (by decide)) rfl
  unfold enterWake
  dsimp only
  generalize wake n (setRecord (some { r with phase := .wake }) s) = x at hwake ⊢
  obtain ⟨t, report⟩ := x
  cases report with
  | live wasFrozen => exact (endWake_tells ..).after hwake
  | noBoard => exact (fail_tells ..).after hwake
  | powerFault => exact (fail_tells ..).after hwake
  | underWay => exact hwake

theorem parkedSource_tells (r : Record) (s : State) : Tells s (parkedSource r s) := by
  refine Posts.trans ?_ (disableWriter_tells _)
  split
  · split
    · exact .refl _ s
    · exact Tells.of (park_posts ..) (by decide)
  · exact .refl _ s

theorem enterPark_tells (r : Record) (s : State) : Tells s (enterPark r s) := by
  have hparked : Tells s (parkedSource r (setRecord (some { r with phase := .park }) s)) :=
    Posts.start (parkedSource_tells r (setRecord (some { r with phase := .park }) s)) rfl
  rw [enterPark_eq]
  split
  · exact (enterWake_tells ..).after hparked
  · exact (enterRetime_tells ..).after hparked

theorem endQuiesceCoins_posts (r : Record) (s : State) : Posts coinKinds s (endQuiesceCoins r s) := by
  unfold endQuiesceCoins
  split
  · exact cutPulse_posts_coin ..
  · exact .refl _ s

/-- The state in which QUIESCE ends, before where it leads is looked at. -/
def quiesced (r : Record) (s : State) : State := endQuiesceCoins r (holdDisabled r s)

theorem endQuiesce_eq (r : Record) (s : State) :
    endQuiesce r s = (quiesced r s).co.pending.elim (enterPark r (quiesced r s)) fun p => supersede r p (quiesced r s) := by
  change (match (quiesced r s).co.pending with
    | some p => supersede r p (quiesced r s)
    | none => enterPark r (quiesced r s)) = _
  cases (quiesced r s).co.pending <;> rfl

theorem quiesced_posts (r : Record) (s : State) : Posts [5, 8] s (quiesced r s) :=
  ((holdDisabled_posts r s).mono (by decide)).trans ((endQuiesceCoins_posts r _).mono (by decide))

theorem endQuiesce_tells (r : Record) (s : State) : Tells s (endQuiesce r s) := by
  have hquiesced : Tells s (quiesced r s) := .of (quiesced_posts r s) (by decide)
  rw [endQuiesce_eq]
  cases (quiesced r s).co.pending with
  | none => exact (enterPark_tells ..).after hquiesced
  | some p => exact (supersede_tells ..).after hquiesced

theorem advancePhase_tells (s : State) : Tells s (advancePhase s) := by
  unfold advancePhase
  split
  · exact .refl _ s
  · next r _ =>
    cases r.phase with
    | quiesce =>
      dsimp only
      split
      · exact endQuiesce_tells ..
      · exact .refl _ s
    | retime =>
      dsimp only
      split
      · exact enterReveal_tells ..
      · exact .refl _ s
    | reveal =>
      dsimp only
      split
      · exact grant_tells ..
      · exact .refl _ s
    | park | wake | lock | grant => exact .refl _ s

theorem advancePhases_tells (k : Nat) (s : State) : Tells s (advancePhases k s) := by
  induction k generalizing s with
  | zero => exact .refl _ s
  | succ k ih => exact (advancePhase_tells s).trans (ih _)

theorem conduct_tells (s : State) : Tells s (conduct s) :=
  Posts.finish (Posts.start (advancePhases_tells 16 { s with reports := [] }) rfl) rfl

/-! #### Reports -/

theorem onTargetState_tells (r : Record) (n m : Slot) (new : SlotState) (s : State) :
    Tells s (onTargetState r n m new s) := by
  unfold onTargetState
  split
  · cases new with
    | fault | empty => exact fail_tells ..
    | off | powering | held | booting | live | frozen => exact .refl _ s
  · exact .refl _ s

theorem onWake_tells (r : Record) (n : Slot) (rep : Report) (s : State) : Tells s (onWake r n rep s) := by
  unfold onWake
  cases rep with
  | slot m old new cause =>
    dsimp only
    split
    · cases new with
      | live => exact endWake_tells ..
      | fault | empty => exact fail_tells ..
      | off | powering | held | booting | frozen => exact .refl _ s
    · exact .refl _ s
  | dipFailed m =>
    dsimp only
    split
    · exact fail_tells ..
    · exact .refl _ s
  | monitor src st => exact .refl _ s
  | ready m sig => exact .refl _ s

theorem onLock_tells (r : Record) (n : Slot) (rep : Report) (s : State) : Tells s (onLock r n rep s) := by
  have hmonitor (st : MonState) : Tells s (onLockMonitor r n st s) := by
    unfold onLockMonitor
    cases st with
    | locked => exact judgeLock_tells ..
    | weak => exact .refl _ s
    | seeking =>
      dsimp only
      split
      · exact disableWriter_tells s
      · exact .refl _ s
    | dark =>
      dsimp only
      split
      · exact fail_tells ..
      · exact .refl _ s
  unfold onLock
  cases rep with
  | slot m old new cause => exact onTargetState_tells ..
  | dipFailed m => exact .refl _ s
  | monitor src st =>
    dsimp only
    split
    · exact hmonitor st
    · exact .refl _ s
  | ready m sig =>
    dsimp only
    split
    · unfold onCheckField
      split
      · exact endLock_tells ..
      · exact .refl _ s
    · exact .refl _ s

theorem onShown_tells (r : Record) (n : Slot) (rep : Report) (s : State) : Tells s (onShown r n rep s) := by
  have hmonitor (st : MonState) : Tells s (onShownMonitor r n st s) := by
    unfold onShownMonitor
    cases st with
    | weak => exact .refl _ s
    | seeking => exact .of_eq rfl
    | locked =>
      dsimp only
      split
      · split
        · exact .of_eq rfl
        · exact fail_tells ..
      · exact .refl _ s
    | dark => exact fail_tells ..
  unfold onShown
  cases rep with
  | slot m old new cause => exact onTargetState_tells ..
  | dipFailed m => exact .refl _ s
  | monitor src st =>
    dsimp only
    split
    · exact hmonitor st
    · exact .refl _ s
  | ready m sig =>
    dsimp only
    split
    · unfold onFirstReady
      split
      · exact .of_eq rfl
      · exact .refl _ s
    · exact .refl _ s

theorem onRecord_tells (r : Record) (rep : Report) (s : State) : Tells s (onRecord r rep s) := by
  unfold onRecord
  split
  · exact .refl _ s
  · cases r.phase with
    | wake => exact onWake_tells ..
    | lock => exact onLock_tells ..
    | retime | reveal => exact onShown_tells ..
    | quiesce | park | grant => exact .refl _ s

theorem onCurrentState_tells (n : Slot) (old new : SlotState) (cause : SlotCause) (s : State) :
    Tells s (onCurrentState n old new cause s) := by
  have hheld (w : Watch) : Tells s (setWatch w (disableWriter (setHold true s))) :=
    Posts.finish (Posts.start (disableWriter_tells (setHold true s)) rfl) rfl
  unfold onCurrentState
  split
  · exact loseBoard_tells ..
  · exact loseBoard_tells ..
  · split
    · exact hheld _
    · exact .refl _ s
  · exact hheld _
  · unfold onPauseEnd
    dsimp only
    split
    · exact (endWatch_tells _).after (enableWriter_tells ..)
    · exact (startWatch_tells ..).after (enableWriter_tells ..)
  · split
    · unfold onLiveAgain
      dsimp only
      split
      · exact (endWatch_tells _).after (enableWriter_tells ..)
      · exact (startWatch_tells ..).after (enableWriter_tells ..)
    · exact .refl _ s
  · exact .refl _ s

theorem onCurrentMonitor_tells (n : Slot) (st : MonState) (s : State) : Tells s (onCurrentMonitor n st s) := by
  unfold onCurrentMonitor
  split
  · exact .refl _ s
  · split
    · exact Posts.start (startWatch_tells _ (setHold true s)) rfl
    · exact Posts.start (startWatch_tells _ (setHold true s)) rfl
    · split
      · exact endWatch_tells s
      · exact loseBoard_tells ..
    · exact .refl _ s

theorem onCurrent_tells (n : Slot) (rep : Report) (s : State) : Tells s (onCurrent n rep s) := by
  unfold onCurrent
  cases rep with
  | slot m old new cause =>
    dsimp only
    split
    · exact onCurrentState_tells ..
    · exact .refl _ s
  | dipFailed m =>
    dsimp only
    split
    · exact loseBoard_tells ..
    · exact .refl _ s
  | monitor src st =>
    dsimp only
    split
    · exact onCurrentMonitor_tells ..
    · exact .refl _ s
  | ready m sig => exact .refl _ s

theorem onReport_tells (s : State) (rep : Report) : Tells s (onReport s rep) := by
  unfold onReport
  refine Posts.finish ?_ rfl
  split
  · exact onRecord_tells ..
  · split
    · exact onCurrent_tells ..
    · exact .refl _ s

/-- Whatever the controller does with the reports of a step (R39). -/
theorem settle_tells (s : State) : Tells s (settle s) := by
  have hreports (l : List Report) (u : State) : Tells u (l.foldl onReport u) := by
    induction l generalizing u with
    | nil => exact .refl _ u
    | cons rep l ih => exact (onReport_tells u rep).trans (ih _)
  exact (conduct_tells _).after (Posts.start (hreports s.reports { s with reports := [] }) rfl)

end Sys2Proof.Machine

/-! ### SELECT, its refusals and its answers (O29) -/

namespace Sys2Proof.Machine

theorem exec_select (dt : Nat) (tag : Byte) (p : List Byte) (s : State) :
    exec (.select dt tag p) s =
      request dt 0x06 tag p (fixedLayout 1 fun p => [byteCheck 0 0 0 8 p]) (selectBlock tag) s := rfl

theorem payloadTarget_slotCode (t : Option Slot) : payloadTarget [slotCode t] = t := by
  revert t
  simp only [payloadTarget, payloadSlot, byteAt, List.getD_cons_zero]
  decide

theorem selectLayout (t : Option Slot) (s : State) :
    fixedLayout 1 (fun p => [byteCheck 0 0 0 8 p]) s [slotCode t] = none := by
  have hle : ∀ t : Option Slot, (slotCode t).toNat ≤ 8 := by decide
  simp [fixedLayout, byteCheck, byteAt, firstBad, hle t]

theorem selectLayout_above {x : Byte} (h : 8 < x.toNat) (s : State) :
    fixedLayout 1 (fun p => [byteCheck 0 0 0 8 p]) s [x] = some (.badField 0) := by
  have hno : ¬x.toNat ≤ 8 := Nat.not_le.2 h
  simp [fixedLayout, byteCheck, byteAt, firstBad, hno]

/-! #### The slot checks -/

section
variable {t : Option Slot} {tag : Byte} {s : State}

theorem selectRefusal_unfit {n : Slot} (h : (s.slot n).state = .empty ∨ (s.slot n).state = .fault) :
    selectRefusal (some n) s = some .noBoard := if_pos h

theorem selectRefusal_wrong {n : Slot} (h : ¬((s.slot n).state = .empty ∨ (s.slot n).state = .fault))
    (hw : (s.profile n).general.expectedKind ≠ 0 ∧ (s.profile n).general.expectedKind ≠ (s.slot n).kind) :
    selectRefusal (some n) s = some .wrongBoard := (if_neg h).trans (if_pos hw)

theorem selectRefusal_none (h : ∀ n, t = some n → ¬((s.slot n).state = .empty ∨ (s.slot n).state = .fault))
    (hw : ∀ n, t = some n →
      ¬((s.profile n).general.expectedKind ≠ 0 ∧ (s.profile n).general.expectedKind ≠ (s.slot n).kind)) :
    selectRefusal t s = none := by
  cases t with
  | none => rfl
  | some n => exact (if_neg (h n rfl)).trans (if_neg (hw n rfl))

theorem selectBlock_loading (h : s.profiles.loading = true) :
    selectBlock tag s [slotCode t] = unchanged .busy s := if_pos h

theorem selectBlock_loaded (h : s.profiles.loading = false) :
    selectBlock tag s [slotCode t] =
      (selectRefusal t s).elim (selectTarget t tag s) fun r => unchanged r s := by
  unfold selectBlock
  dsimp only
  rw [payloadTarget_slotCode, if_neg (by rw [h]; exact Bool.false_ne_true)]
  cases selectRefusal t s <;> rfl

/-! #### A SELECT that passed its checks -/

theorem selectTarget_current (h : s.co.record = none) (ht : t = s.co.current) :
    selectTarget t tag s = selected .already s := by
  unfold selectTarget
  rw [h]
  exact if_pos ht

theorem selectTarget_starts (h : s.co.record = none) (ht : t ≠ s.co.current) :
    selectTarget t tag s = selected .accepted (conduct (startChangeover ⟨tag, t, false, none⟩ s)) := by
  unfold selectTarget
  rw [h]
  exact if_neg ht

theorem selectTarget_pends {r : Record} (h : s.co.record = some r) (ht : t ≠ r.target) :
    selectTarget t tag s = selected .accepted (selectPending t tag r s) := by
  unfold selectTarget
  rw [h]
  exact if_neg ht

theorem selectTarget_drops {r : Record} (h : s.co.record = some r) (ht : t = r.target) :
    selectTarget t tag s = selected .already (dropPending r s) := by
  unfold selectTarget
  rw [h]
  exact if_pos ht

end

/-- A SELECT that its block takes. -/
theorem exec_select_taken {dt : Nat} {tag : Byte} {t : Option Slot} {s u : State} {b : List Place} {r : Result}
    (hturn : Turn 0x06 tag [slotCode t] s b) (hb : selectBlock tag (s.inService dt b) [slotCode t] = selected r u)
    (hu : u.link.buffer = b) :
    exec (.select dt tag [slotCode t]) s = .next (conclude (u.replying b ⟨0x06, tag, r, selectData u⟩)) := by
  rw [exec_select, request_answered hturn (selectLayout t _) hb hu]
  rfl

/-- A SELECT that passes its checks goes by what its target makes of the changeover. -/
theorem exec_select_passed {dt : Nat} {tag : Byte} {t : Option Slot} {s u : State} {b : List Place} {r : Result}
    (hturn : Turn 0x06 tag [slotCode t] s b) (hload : s.profiles.loading = false)
    (hrefusal : selectRefusal t (s.inService dt b) = none)
    (h : selectTarget t tag (s.inService dt b) = selected r u) (hu : LinkKept (s.inService dt b) u) :
    exec (.select dt tag [slotCode t]) s = .next (conclude (u.replying b ⟨0x06, tag, r, selectData u⟩)) := by
  refine exec_select_taken hturn ?_ (by rw [hu]; rfl)
  rw [selectBlock_loaded (by exact hload), hrefusal]
  exact h

/-- A SELECT from standby waits for its target, and answers with the targets as they then stand. -/
theorem exec_select_standby {dt : Nat} {tag : Byte} {n : Slot} {s : State} {b : List Place} {phase : Phase}
    (hturn : Turn 0x06 tag [slotCode (some n)] s b) (hload : s.profiles.loading = false)
    (hrefusal : selectRefusal (some n) (s.inService dt b) = none) (hr : s.co.record = none) (hc : s.co.current = none)
    (h : Awaits ⟨tag, some n, false, none⟩ phase n (s.inService dt b)
      (conduct (startChangeover ⟨tag, some n, false, none⟩ (s.inService dt b)))) :
    exec (.select dt tag [slotCode (some n)]) s =
      .next (conclude ((conduct (startChangeover ⟨tag, some n, false, none⟩ (s.inService dt b))).replying b
        ⟨0x06, tag, .accepted, [0, slotCode (some n), 0xFF]⟩)) := by
  have hstarts := selectTarget_starts (t := some n) (tag := tag) (s := s.inService dt b) hr
    fun h => Option.some_ne_none n (h.trans hc)
  obtain ⟨r, hrecord, -, -, -, htarget, -⟩ := h.record
  have hdata : selectData (conduct (startChangeover ⟨tag, some n, false, none⟩ (s.inService dt b))) =
      [0, slotCode (some n), 0xFF] := by
    rw [selectData, h.current, h.pending, hrecord, Option.map_some, htarget]
    rfl
  rw [exec_select_passed hturn hload hrefusal hstarts h.kept, hdata]

theorem dropPending_eq (r : Record) (s : State) :
    dropPending r s = { s with co := s.co.pending.elim s.co fun q =>
      { s.co with pending := none, record := some { r with superseded := r.superseded.append q.tag } } } := by
  unfold dropPending
  cases s.co.pending <;> rfl

theorem selectPending_eq (t : Option Slot) (tag : Byte) (r : Record) (s : State) :
    selectPending t tag r s = { s with co := { s.co with
      pending := some ⟨t, tag⟩
      record := some (s.co.pending.elim r fun q => { r with superseded := r.superseded.append q.tag }) } } := by
  unfold selectPending
  cases s.co.pending <;> rfl

theorem TagList.append_full {l : TagList} {tag : Byte} (h : tag ≠ 0) (hl : l.tags.length = 6) :
    l.append tag = ⟨l.tags.tail ++ [tag], true⟩ := by
  have hne : l.tags ≠ [] := List.ne_nil_of_length_pos (by omega)
  rw [TagList.append, if_neg h, if_neg (by omega), lastSix, List.length_append, hl]
  exact congrArg (fun ts => (⟨ts, true⟩ : TagList)) (List.drop_one.trans (List.tail_append_of_ne_nil hne))

/-- Settles O29: the refusals in order, then by whether a changeover is in flight and where it goes. -/
theorem selectStartsOrQueuesAChangeover : Obligations.SelectStartsOrQueuesAChangeover := by
  refine ⟨fun dt tag t s b => ?_, fun dt tag x s b hturn hx => ?_,
    fun l tag => ⟨if_pos rfl, fun h hl => ?_, fun h hl => TagList.append_full h hl⟩⟩
  · intro p refused unfit wrong code reply hturn
    have hrefused {r : Result} (h : selectBlock tag (s.inService dt b) p = unchanged r (s.inService dt b)) :
        exec (.select dt tag p) s = refused r := by
      rw [exec_select, request_unchanged hturn (selectLayout t _) h]
    refine ⟨fun h => hrefused (selectBlock_loading (by exact h)), fun hload hunfit => hrefused ?_,
      fun hload hfit hwrong => hrefused ?_, fun hload hfit hright => ?_⟩
    · obtain ⟨n, rfl, hn⟩ := hunfit
      rw [selectBlock_loaded (by exact hload), selectRefusal_unfit (by exact hn)]
      rfl
    · obtain ⟨n, rfl, hn⟩ := hwrong
      rw [selectBlock_loaded (by exact hload), selectRefusal_wrong (by exact fun h => hfit ⟨n, rfl, h⟩) (by exact hn)]
      rfl
    · have hrefusal : selectRefusal t (s.inService dt b) = none :=
        selectRefusal_none (fun n hn h => hfit ⟨n, hn, h⟩) fun n hn h => hright ⟨n, hn, h⟩
      have hdata (u : State) : selectData u =
          [slotCode u.co.current, code (u.co.record.map Record.target), code (u.co.pending.map Pending.target)] := by
        have hcode (x : Option (Option Slot)) : slotCodeOr x = code x := by cases x <;> rfl
        rw [selectData, hcode, hcode]
      have htells := (conduct_tells _).after (startChangeover_tells ⟨tag, t, false, none⟩ (s.inService dt b))
      refine ⟨fun hr ht => ?_, fun hr ht hc hfade hgain => ?_, fun hr ht => ?_, fun n hr hp hc ht => ?_,
        fun r hr ht => ?_, fun r hr ht => ?_⟩
      · rw [exec_select_passed hturn hload hrefusal (selectTarget_current (by exact hr) (by exact ht)) (.refl _), hdata]
        rfl
      · rw [exec_select_passed hturn hload hrefusal (selectTarget_starts (by exact hr) (by exact ht)) htells.linkKept, hdata,
          conduct_start_sounding (s := s.inService dt b) hc hfade hgain]
        rfl
      · rw [exec_select_passed hturn hload hrefusal (selectTarget_starts (by exact hr) (by exact ht)) htells.linkKept, hdata]
        rfl
      · subst ht
        refine ⟨fun hoff hm hgood => ?_, fun hlive hlock => ?_⟩
        · obtain ⟨hwaits, hslot⟩ := start_standby_wake (st := ⟨tag, some n, false, none⟩) (n := n) (s := s.inService dt b) hc
            hp rfl hoff hm hgood
          have hexec := exec_select_standby hturn hload hrefusal hr hc hwaits
          generalize conduct (startChangeover ⟨tag, some n, false, none⟩ (s.inService dt b)) = u at *
          obtain ⟨r, hrecord, hphase, htag, hsource, htarget, -⟩ := hwaits.record
          refine ⟨_, ⟨hexec, hwaits.now, replying_link hwaits.kept _, hwaits.current, hwaits.pending, hwaits.writer,
            hwaits.gain, hwaits.level, hwaits.hold, hwaits.others, r, hrecord, hphase, htag, hsource, htarget, nofun⟩, ?_⟩
          change (u.slot n).state = .powering ∧ (u.slot n).runUp = true ∧ (u.slot n).pgWindow = _
          rw [hslot]
          exact ⟨rfl, rfl, rfl⟩
        · obtain ⟨hwaits, hslot⟩ := start_standby_lock (st := ⟨tag, some n, false, none⟩) (n := n) (s := s.inService dt b) hc
            hp rfl hlive hlock
          have hexec := exec_select_standby hturn hload hrefusal hr hc hwaits
          generalize conduct (startChangeover ⟨tag, some n, false, none⟩ (s.inService dt b)) = u at *
          obtain ⟨r, hrecord, hphase, htag, hsource, htarget, hlimit⟩ := hwaits.record
          refine ⟨_, ⟨hexec, hwaits.now, replying_link hwaits.kept _, hwaits.current, hwaits.pending, hwaits.writer,
            hwaits.gain, hwaits.level, hwaits.hold, hwaits.others, r, hrecord, hphase, htag, hsource, htarget, fun h =>
              (hlimit h).trans ?_⟩, hslot⟩
          exact congrArg (fun d => some (s.now + dt + d)) (Nat.mul_comm ..)
      · intro co
        have hco : co = { s.co with
            pending := some ⟨t, tag⟩
            record := some (s.co.pending.elim r fun q => { r with superseded := r.superseded.append q.tag }) } := by
          simp only [co]
          cases s.co.pending <;> rfl
        rw [exec_select_passed hturn hload hrefusal (selectTarget_pends (by exact hr) ht) (.of_eq rfl), hdata,
          selectPending_eq, hco]
        rfl
      · intro co
        have hco : co = s.co.pending.elim s.co fun q =>
            { s.co with pending := none, record := some { r with superseded := r.superseded.append q.tag } } := by
          simp only [co]
          cases s.co.pending <;> rfl
        have hdrop := dropPending_eq r (s.inService dt b)
        rw [exec_select_passed hturn hload hrefusal (selectTarget_drops (by exact hr) ht) (by rw [hdrop]; exact .of_eq rfl),
          hdata, hdrop, hco]
        rfl
  · rw [exec_select, request_refused hturn (selectLayout_above hx _)]
  · rw [TagList.append, if_neg h, if_pos hl]

end Sys2Proof.Machine

/-! ### Parks and wakes (R33 to R36) -/

namespace Sys2Proof.Machine

/-! #### The notice of a move, and the frame of a leave -/

/-- The notice of a move stays whatever the router and the coin unit make of it. -/
theorem enter_tells_host (n : Slot) (new : SlotState) (cause : SlotCause) {s : State} (hm : s.link.mask.at 1 = true) :
    ∃ e ∈ (enter n new cause s).link.notices, e.notice = .slot n new cause (s.slot n).kind := by
  obtain ⟨e, he, hn, -⟩ := exists_post (n := .slot n new cause (s.slot n).kind) (s := moved n new s)
    (fun m => by cases m <;> rfl) hm
  have hrest : Posts [5, 6] (post (.slot n new cause (s.slot n).kind) (moved n new s)) (enter n new cause s) := by
    rw [enter_eq]
    exact Posts.finish ((routerSlotChanged_posts ..).trans ((judgePulse_posts ..).mono (by decide))) rfl
  exact ⟨e, hrest.keeps he (by rw [hn]; simp [Notice.kind]), hn⟩

/-- A slot's leave touches no picture and no sound: they hang on no slot's monitor. -/
theorem leaveSupplied_frame (n : Slot) (new : SlotState) (cause : SlotCause) (s : State) :
    SameOutside [.link, .counters, .slots, .bus, .monitors, .frame, .router, .coins, .reports] s
      (leaveSupplied n new cause s) := by
  have hset : SameOutside [.link, .counters, .slots, .bus, .router, .coins, .reports] s
      ((withdrawApply n s).setSlot n
        (((withdrawApply n s).slot n).powerless.entering new (mismatchOf n (withdrawApply n s)))) :=
    (State.setSlot_same ..).after ((withdrawApply_same n s).mono (by decide)) (by decide)
  have hleft : SameOutside [.link, .counters, .slots, .bus, .router, .coins, .reports] s (leftSupplied n new cause s) :=
    (enter_same ..).after hset (by decide)
  rw [leaveSupplied_eq]
  exact ((leaveSupplied_rest ..).same.mono (by decide)).after (hleft.mono (by decide)) (fun _ h => h)

theorem leaveSupplied_others (n : Slot) (new : SlotState) (cause : SlotCause) (s : State) :
    Others n s (leaveSupplied n new cause s) := by
  have hleft : Others n s (leftSupplied n new cause s) :=
    (enterWith_others ..).after (.of_same (withdrawApply_same n s) (by decide))
  rw [leaveSupplied_eq]
  exact (leaveSupplied_rest ..).others.after hleft

/-- Of the frame store only the buffers change. -/
def BuffersOnly (s t : State) : Prop := t.frame = { s.frame with buffers := t.frame.buffers }

theorem BuffersOnly.of_eq {s t : State} (h : t.frame = s.frame) : BuffersOnly s t := by rw [BuffersOnly, h]

theorem BuffersOnly.after {s t u : State} (h' : BuffersOnly t u) (h : BuffersOnly s t) : BuffersOnly s u := by
  rw [BuffersOnly, h', h]

theorem BuffersOnly.of_same {l : List Block} {s t : State} (h : SameOutside l s t) (hl : Block.frame ∉ l) :
    BuffersOnly s t := .of_eq (h.same .frame hl)

theorem fieldCloses_rejects_buffers (src : Source) (s : State) : BuffersOnly s (fieldCloses src false s) := by
  unfold fieldCloses
  split <;> rfl

theorem supplyGone_buffers (n : Slot) (s : State) : BuffersOnly s (supplyGone n s) := by
  unfold supplyGone
  dsimp only
  split
  · exact (fieldCloses_rejects_buffers ..).after (.of_eq rfl)
  · rfl

theorem leaveSupplied_buffers (n : Slot) (new : SlotState) (cause : SlotCause) (s : State) :
    BuffersOnly s (leaveSupplied n new cause s) := by
  have hleft : BuffersOnly s (leftSupplied n new cause s) :=
    (BuffersOnly.of_same (enter_same ..) (by decide)).after (.of_eq rfl)
  rw [leaveSupplied_eq, supplyOff_eq]
  exact (BuffersOnly.of_same (applyMonitor_same ..) (by decide)).after ((supplyGone_buffers ..).after
    ((BuffersOnly.of_same (returnQueue_same ..) (by decide)).after
      ((BuffersOnly.of_same (cutPulse_same ..) (by decide)).after hleft)))

theorem leaveSupplied_tells_host (n : Slot) {new : SlotState} (hnew : new ≠ .empty) (cause : SlotCause) {s : State}
    (hm : s.link.mask.at 1 = true) :
    ∃ e ∈ (leaveSupplied n new cause s).link.notices, e.notice = .slot n new cause (s.slot n).kind := by
  have hkind : (((withdrawApply n s).slot n).powerless.entering new (mismatchOf n (withdrawApply n s))).kind =
      (s.slot n).kind := by
    cases new with
    | empty => exact absurd rfl hnew
    | off | powering | held | booting | live | frozen | fault => rfl
  obtain ⟨e, he, hn⟩ := enter_tells_host n new cause (s := (withdrawApply n s).setSlot n
    (((withdrawApply n s).slot n).powerless.entering new (mismatchOf n (withdrawApply n s)))) hm
  rw [State.slot_setSlot_self, hkind] at hn
  rw [leaveSupplied_eq]
  exact ⟨e, (leaveSupplied_rest ..).posts.keeps he (by rw [hn]; simp [leftKinds, Notice.kind]), hn⟩

/-! #### What a park makes of the record (R33, R35, R36) -/

/-- The record of a slot stopped at HELD. -/
def SlotRecord.parkedHeld (r : SlotRecord) : SlotRecord :=
  SlotRecord.move { r with bootWindow := none, runUp := false, paused := false, lastSig := none } .held

/-- The record of a slot that is not running, in state `st`, parked into FREEZE or HOLD. -/
def SlotRecord.parkedIdle (r : SlotRecord) (st : SlotState) : SlotRecord :=
  match st with
  | .powering => { r with runUp := false }
  | .held => { r with runUp := false, applying := false }
  | .booting => r.parkedHeld
  | .empty | .off | .fault | .live | .frozen => r

/-- The record of a slot in state `st` parked in a standing mode; `mismatch` is what R24 makes of it in OFF. -/
def SlotRecord.parked (r : SlotRecord) (mode : StandingMode) (mismatch : Bool) (st : SlotState) : SlotRecord :=
  match mode, st with
  | .run, .frozen => SlotRecord.move { r with paused := false, parkedSig := none } .live
  | .run, _ => r
  | .freeze, .live => SlotRecord.move { r with parkedSig := r.lastSig } .frozen
  | .freeze, .frozen => { r with paused := false, parkedSig := r.lastSig }
  | .freeze, st => r.parkedIdle st
  | .hold, .live => r.parkedHeld
  | .hold, .frozen => SlotRecord.parkedHeld { r with parkedSig := none }
  | .hold, st => r.parkedIdle st
  | .off, .powering | .off, .held | .off, .booting | .off, .live | .off, .frozen =>
    SlotRecord.move (r.powerless.entering .off mismatch) .off
  | .off, _ => r

theorem SlotRecord.parked_parked (g : General) (r : SlotRecord) :
    Parked g r (r.parked g.standing (decide (g.expectedKind ≠ 0 ∧ g.expectedKind ≠ r.kind)) r.state) := by
  unfold Parked
  cases hmode : g.standing with
  | run =>
    cases hst : r.state with
    | frozen => simp [SlotRecord.parked, hst, parkedState, SlotRecord.move, SlotState.supplied]
    | empty | off | powering | held | booting | live | fault =>
      simp [SlotRecord.parked, hst, parkedState, SlotState.supplied]
  | freeze =>
    cases hst : r.state with
    | live | frozen =>
      simp [SlotRecord.parked, hst, parkedState, SlotRecord.move, SlotState.supplied]
    | empty | off | powering | held | booting | fault =>
      simp [SlotRecord.parked, SlotRecord.parkedIdle, SlotRecord.parkedHeld, hst, parkedState, SlotRecord.move,
        SlotState.supplied]
  | hold =>
    cases hst : r.state with
    | live | frozen =>
      simp [SlotRecord.parked, SlotRecord.parkedHeld, hst, parkedState, SlotRecord.move, SlotState.supplied]
    | empty | off | powering | held | booting | fault =>
      simp [SlotRecord.parked, SlotRecord.parkedIdle, SlotRecord.parkedHeld, hst, parkedState, SlotRecord.move,
        SlotState.supplied]
  | off =>
    cases hst : r.state with
    | powering | held | booting | live | frozen =>
      simp [SlotRecord.parked, hst, parkedState, SlotRecord.move, SlotState.supplied, SlotRecord.entering,
        SlotRecord.powerless]
    | empty | off | fault => simp [SlotRecord.parked, hst, parkedState, SlotState.supplied]

/-! #### What a park does to the part -/

/-- The blocks a park changes. -/
def parkBlocks : List Block := [.link, .counters, .slots, .bus, .monitors, .frame, .router, .coins, .reports]

/-- A park of slot `n` that leaves it the record `r`: a change of its state is posted as PARKED, and a park that leaves the
state posts nothing (log 47). -/
structure Parks (n : Slot) (s t : State) (r : SlotRecord) : Prop where
  slot : t.slot n = r
  others : Others n s t
  buffers : BuffersOnly s t
  quiet : r.state = (s.slot n).state → t.link = s.link
  tells : r.state ≠ (s.slot n).state → s.link.mask.at 1 = true →
    ∃ e ∈ t.link.notices, e.notice = .slot n r.state .parked (s.slot n).kind
  same : SameOutside parkBlocks s t

section
variable {n : Slot} {s : State} {r : SlotRecord}

theorem Parks.refl : Parks n s s (s.slot n) :=
  ⟨rfl, .refl n s, rfl, fun _ => rfl, fun h => absurd rfl h, .refl _ _⟩

theorem Parks.set (h : r.state = (s.slot n).state) : Parks n s (s.setSlot n r) r :=
  ⟨State.slot_setSlot_self .., setSlot_others .., rfl, fun _ => rfl, fun hne => absurd h hne,
    (State.setSlot_same ..).mono (by decide)⟩

theorem Parks.withdrawn (h : r.state = (s.slot n).state) : Parks n s ((withdrawApply n s).setSlot n r) r :=
  ⟨State.slot_setSlot_self .., (setSlot_others ..).after (.of_same (withdrawApply_same n s) (by decide)), rfl,
    fun _ => rfl, fun hne => absurd h hne,
    (State.setSlot_same ..).after ((withdrawApply_same n s).mono (by decide)) (by decide)⟩

theorem Parks.entered {new : SlotState} (hkind : r.kind = (s.slot n).kind) (hne : new ≠ (s.slot n).state) :
    Parks n s (enter n new .parked (s.setSlot n r)) (r.move new) := by
  refine ⟨enterWith_slot .., enterWith_others .., ?_, fun h => absurd h hne, fun _ hm => ?_, ?_⟩
  · exact (BuffersOnly.of_same (enter_same ..) (by decide)).after (.of_eq rfl)
  · obtain ⟨e, he, hn⟩ := enter_tells_host n new .parked (s := s.setSlot n r) hm
    rw [State.slot_setSlot_self, hkind] at hn
    exact ⟨e, he, hn⟩
  · exact (enter_same ..).after ((State.setSlot_same ..).mono (by decide)) (by decide)

theorem Parks.left (hne : (s.slot n).state ≠ .off) :
    Parks n s (leaveSupplied n .off .parked s) (((s.slot n).powerless.entering .off (mismatchOf n s)).move .off) :=
  ⟨leaveSupplied_slot .., leaveSupplied_others .., leaveSupplied_buffers .., fun h => absurd h.symm hne,
    fun _ hm => leaveSupplied_tells_host n (by decide) .parked hm, leaveSupplied_frame ..⟩

theorem parkHeld_parks (hne : (s.slot n).state ≠ .held) : Parks n s (parkHeld n s) (s.slot n).parkedHeld :=
  Parks.entered rfl hne.symm

theorem parkNotRunning_parks : Parks n s (parkNotRunning n s) ((s.slot n).parkedIdle (s.slot n).state) := by
  unfold parkNotRunning
  generalize hst : (s.slot n).state = st
  cases st with
  | powering => exact Parks.set (r := { s.slot n with runUp := false }) rfl
  | held => exact Parks.withdrawn (r := { s.slot n with runUp := false, applying := false }) rfl
  | booting => exact parkHeld_parks (by rw [hst]; decide)
  | empty | off | fault | live | frozen => exact Parks.refl

theorem parkRun_parks (m : Bool) : Parks n s (parkRun n s) ((s.slot n).parked .run m (s.slot n).state) := by
  unfold parkRun
  generalize hst : (s.slot n).state = st
  cases st with
  | frozen =>
    exact Parks.entered (r := { s.slot n with paused := false, parkedSig := none }) rfl (by rw [hst]; decide)
  | empty | off | powering | held | booting | live | fault => exact Parks.refl

theorem parkFreeze_parks (m : Bool) {st : SlotState} (hst : (s.slot n).state = st) :
    Parks n s (parkFreeze n s) ((s.slot n).parked .freeze m st) := by
  have hidle := parkNotRunning_parks (n := n) (s := s)
  rw [hst] at hidle
  unfold parkFreeze
  dsimp only
  split <;> rename_i h <;> obtain rfl := hst.symm.trans h
  · exact Parks.entered (r := { s.slot n with parkedSig := (s.slot n).lastSig }) rfl (by rw [hst]; decide)
  · exact Parks.set (r := { s.slot n with paused := false, parkedSig := (s.slot n).lastSig }) rfl
  all_goals exact hidle

theorem parkHold_parks (m : Bool) : Parks n s (parkHold n s) ((s.slot n).parked .hold m (s.slot n).state) := by
  have hidle := parkNotRunning_parks (n := n) (s := s)
  unfold parkHold
  generalize hst : (s.slot n).state = st at hidle ⊢
  cases st with
  | live =>
    change Parks n s (parkHeld n s) (s.slot n).parkedHeld
    exact parkHeld_parks (by rw [hst]; decide)
  | frozen =>
    change Parks n s (parkHeld n (s.setSlot n { s.slot n with parkedSig := none }))
      (SlotRecord.parkedHeld { s.slot n with parkedSig := none })
    have hset := parkHeld_parks (n := n) (s := s.setSlot n { s.slot n with parkedSig := none })
      (by rw [State.slot_setSlot_self, hst]; decide)
    rw [State.slot_setSlot_self] at hset
    obtain ⟨hslot, hothers, hbuffers, hquiet, htells, hsame⟩ := hset
    rw [State.slot_setSlot_self] at hquiet htells
    exact ⟨hslot, hothers.after (setSlot_others ..), hbuffers, hquiet, htells,
      hsame.after ((State.setSlot_same ..).mono (by decide)) (fun _ h => h)⟩
  | empty | off | powering | held | booting | fault => exact hidle

/-- A park, in the slot's standing mode (R33). -/
theorem park_parks (n : Slot) (s : State) :
    Parks n s (park n s) ((s.slot n).parked (s.profile n).general.standing (mismatchOf n s) (s.slot n).state) := by
  unfold park
  cases (s.profile n).general.standing with
  | run => exact parkRun_parks _
  | freeze => exact parkFreeze_parks _ rfl
  | hold => exact parkHold_parks _
  | off =>
    dsimp only
    generalize hst : (s.slot n).state = st
    cases st with
    | powering | held | booting | live | frozen =>
      rw [if_pos (by decide)]
      exact Parks.left (by rw [hst]; decide)
    | empty | off | fault =>
      rw [if_neg (by decide)]
      exact Parks.refl

end

theorem park_parked (n : Slot) (s : State) : Parked (s.profile n).general (s.slot n) ((park n s).slot n) := by
  rw [(park_parks n s).slot, mismatchOf_eq]
  exact SlotRecord.parked_parked ..

end Sys2Proof.Machine

/-! ### Wakes (R34) -/

namespace Sys2Proof.Machine

/-! #### What a wake answers, state by state -/

section
variable {n : Slot} {s : State}

theorem wake_live (h : (s.slot n).state = .live) : wake n s = (s, .live false) := by
  unfold wake
  dsimp only
  split <;> rename_i h' <;> cases h.symm.trans h'
  rfl

theorem wake_frozen (h : (s.slot n).state = .frozen) :
    wake n s = (enter n .live .wake (s.setSlot n { s.slot n with paused := false }), .live true) := by
  unfold wake
  dsimp only
  split <;> rename_i h' <;> cases h.symm.trans h'
  rfl

theorem wake_booting (h : (s.slot n).state = .booting) : wake n s = (s, .underWay) := by
  unfold wake
  dsimp only
  split <;> rename_i h' <;> cases h.symm.trans h'
  rfl

theorem wake_held (h : (s.slot n).state = .held) :
    wake n s =
      (if (s.slot n).applying then s.setSlot n { s.slot n with runUp := true }
      else proceedHeld n (s.setSlot n { s.slot n with runUp := true }), .underWay) := by
  unfold wake
  dsimp only
  split <;> rename_i h' <;> cases h.symm.trans h'
  rfl

theorem wake_powering (h : (s.slot n).state = .powering) :
    wake n s = (s.setSlot n { s.slot n with runUp := true }, .underWay) := by
  unfold wake
  dsimp only
  split <;> rename_i h' <;> cases h.symm.trans h'
  rfl

theorem wake_refitted (h : (s.slot n).state = .off) (hm : (s.slot n).mismatch = true) : wake n s = (s, .noBoard) := by
  unfold wake
  dsimp only
  split <;> rename_i h' <;> cases h.symm.trans h'
  exact if_pos hm

theorem wake_fault (h : (s.slot n).state = .fault) : wake n s = (s, .powerFault) := by
  unfold wake
  dsimp only
  split <;> rename_i h' <;> cases h.symm.trans h'
  rfl

theorem wake_empty (h : (s.slot n).state = .empty) : wake n s = (s, .noBoard) := by
  unfold wake
  dsimp only
  split <;> rename_i h' <;> cases h.symm.trans h'
  rfl

theorem poweringReady_others : Others n s (poweringReady n s) := by
  have hcoins : Others n s (readCoinLevels n s) := .of_same (readCoinLevels_same n s) (by decide)
  have hsupply (u : State) : Others n u (supplyOn n u) := .of_same (supplyOn_same n u) (by decide)
  exact (hsupply _).after ((setSlot_others ..).after hcoins)

theorem enterPowering_others (cause : SlotCause) : Others n s (enterPowering n cause s) := by
  have hbegun : Others n s (poweringBegun n cause s) := (enter_others ..).after poweringReady_others
  rw [enterPowering_begun]
  split
  · exact (powerGoodSeen_others ..).after hbegun
  · exact hbegun

theorem enterPowering_tells_host (cause : SlotCause) (hgood : (s.slot n).powerGood = false)
    (hm : s.link.mask.at 1 = true) :
    ∃ e ∈ (enterPowering n cause s).link.notices, e.notice = .slot n .powering cause (s.slot n).kind := by
  have hready : (poweringReady n s).slot n =
      { s.slot n with
        runUp := true
        pgWindow := some (s.now + ms 1000)
        lineHigh := (s.profile n).general.lineHigh
        rereadLevels := false } := State.slot_setSlot_self ..
  obtain ⟨e, he, hn⟩ := enter_tells_host n .powering cause (s := poweringReady n s) hm
  rw [enterPowering_begun, if_neg (by rw [hgood]; exact Bool.false_ne_true)]
  exact ⟨e, he, hn.trans (by rw [hready])⟩

/-- A wake of one slot touches no other. -/
theorem wake_others : Others n s (wake n s).1 := by
  cases h : (s.slot n).state with
  | live => rw [wake_live h]; exact .refl n s
  | frozen => rw [wake_frozen h]; exact enterWith_others ..
  | booting => rw [wake_booting h]; exact .refl n s
  | powering => rw [wake_powering h]; exact setSlot_others ..
  | fault => rw [wake_fault h]; exact .refl n s
  | empty => rw [wake_empty h]; exact .refl n s
  | held =>
    rw [wake_held h]
    dsimp only
    split
    · exact setSlot_others ..
    · exact (proceedHeld_others ..).after (setSlot_others ..)
  | off =>
    cases hm : (s.slot n).mismatch with
    | true => rw [wake_refitted h hm]; exact .refl n s
    | false => rw [wake_off h hm]; exact enterPowering_others _

/-! #### What a wake makes of the slot -/

theorem wake_frozen_spec (h : (s.slot n).state = .frozen) :
    (wake n s).2 = .live true ∧ ((wake n s).1.slot n).state = .live ∧ ((wake n s).1.slot n).paused = false ∧
      ((wake n s).1.slot n).parkedSig = (s.slot n).parkedSig ∧
      (s.link.mask.at 1 = true → ∃ e ∈ (wake n s).1.link.notices, e.notice = .slot n .live .wake (s.slot n).kind) := by
  have hslot : (enter n .live .wake (s.setSlot n { s.slot n with paused := false })).slot n =
      SlotRecord.move { s.slot n with paused := false } .live := enterWith_slot ..
  rw [wake_frozen h]
  refine ⟨rfl, by rw [hslot]; rfl, by rw [hslot]; rfl, by rw [hslot]; rfl, fun hm => ?_⟩
  obtain ⟨e, he, hn⟩ := enter_tells_host n .live .wake (s := s.setSlot n { s.slot n with paused := false }) hm
  rw [State.slot_setSlot_self] at hn
  exact ⟨e, he, hn⟩

/-- A slot in HELD whose DIP settings are not being applied goes on, with the run-up flag set. -/
theorem wake_held_slot (h : (s.slot n).state = .held) (ha : (s.slot n).applying = false) :
    (wake n s).1.slot n = goneOn { s.slot n with runUp := true } (s.profile n) s.now := by
  rw [wake_held h, if_neg (by rw [ha]; exact Bool.false_ne_true), proceedHeld_goneOn, State.slot_setSlot_self]
  rfl

theorem wake_held_spec (h : (s.slot n).state = .held) :
    (wake n s).2 = .underWay ∧
      ((s.slot n).applying = true → (wake n s).1 = s.setSlot n { s.slot n with runUp := true }) ∧
      ((s.slot n).applying = false → (s.profile n).dips.apply = true →
        ((wake n s).1.slot n).state = .held ∧ ((wake n s).1.slot n).runUp = true ∧
          ((wake n s).1.slot n).applying = true) ∧
      ((s.slot n).applying = false → (s.profile n).dips.apply = false →
        ((wake n s).1.slot n).state = .booting ∧
          ((wake n s).1.slot n).bootWindow = some (s.now + 27000 * (s.profile n).general.bootTime)) := by
  refine ⟨by rw [wake_held h], fun ha => by rw [wake_held h, if_pos ha], fun ha happly => ?_, fun ha happly => ?_⟩
  · rw [wake_held_slot h ha, goneOn_runUp, happly]
    exact ⟨(goneOn_state { s.slot n with runUp := true } _ _ h).trans (by rw [happly]; rfl), rfl, goneOn_applying _ _ _ rfl happly⟩
  · rw [wake_held_slot h ha]
    exact ⟨(goneOn_state { s.slot n with runUp := true } _ _ h).trans (by rw [happly]; rfl), goneOn_released _ _ _ rfl happly⟩

theorem wake_off_spec (h : (s.slot n).state = .off) (hm : (s.slot n).mismatch = false) :
    (wake n s).2 = .underWay ∧
      ((s.slot n).powerGood = false → ((wake n s).1.slot n).state = .powering ∧ ((wake n s).1.slot n).runUp = true ∧
        ((wake n s).1.slot n).pgWindow = some (s.now + 27000000) ∧
        (s.link.mask.at 1 = true →
          ∃ e ∈ (wake n s).1.link.notices, e.notice = .slot n .powering .wake (s.slot n).kind)) ∧
      ((s.slot n).powerGood = true →
        ((wake n s).1.slot n).state = (if (s.profile n).dips.apply then .held else .booting) ∧
        ((wake n s).1.slot n).runUp = (s.profile n).dips.apply ∧ ((wake n s).1.slot n).pgWindow = none) := by
  have hslot := enterPowering_slot n .wake s
  rw [wake_off h hm]
  refine ⟨rfl, fun hgood => ?_, fun hgood => ?_⟩
  · rw [if_neg (by rw [hgood]; exact Bool.false_ne_true)] at hslot
    exact ⟨congrArg SlotRecord.state hslot, congrArg SlotRecord.runUp hslot, congrArg SlotRecord.pgWindow hslot,
      enterPowering_tells_host _ hgood⟩
  · rw [if_pos hgood] at hslot
    obtain ⟨-, hwindow, -⟩ := goneOn_kept ((s.slot n).powered s.now (s.profile n).general.lineHigh).heldGood
      (s.profile n) s.now
    refine ⟨?_, ?_, (congrArg SlotRecord.pgWindow hslot).trans hwindow⟩
    · refine ((congrArg SlotRecord.state hslot).trans (goneOn_state _ _ _ rfl)).trans ?_
      cases (s.profile n).dips.apply <;> rfl
    · exact ((congrArg SlotRecord.runUp hslot).trans (goneOn_runUp _ _ _)).trans (Bool.true_and _)

end

end Sys2Proof.Machine

/-! ### ABORT (O30) -/

namespace Sys2Proof.Machine

/-! #### What is kept by notices of other kinds -/

/-- Without an entry of a kind, notices of other kinds give none. -/
theorem Posts.none_of {kinds : List (Fin 11)} {s t : State} (h : Posts kinds s t) {k : Fin 11} (hk : k ∉ kinds)
    (hs : ∀ e ∈ s.link.notices, e.notice.kind ≠ k) : ∀ e ∈ t.link.notices, e.notice.kind ≠ k := by
  obtain ⟨ns, hns, ht⟩ := h
  rw [ht]
  dsimp only
  clear ht
  generalize s.link.notices = l at hs
  induction ns generalizing l with
  | nil => exact hs
  | cons n ns ih =>
    refine ih (fun m hm => hns m (List.mem_cons_of_mem _ hm)) _ fun e he heq => ?_
    rcases mem_tableWith he with he | he
    · exact hs e he heq
    · have hkind : e.notice.kind = n.kind := congrArg Prod.fst he
      exact hk (by rw [← heq, hkind]; exact hns n List.mem_cons_self)

/-! #### The end of a record (R94) -/

theorem mergeDone_fields (old new : DoneReport) :
    mergeDone old new = { new with superseded := (mergeDone old new).superseded } := rfl

/-- The end of a changeover is told to the host; in the entry only the superseded tags can hold more than its own. -/
theorem exists_tableWith_done (d : DoneReport) (l : List Entry) :
    ∃ e ∈ tableWith (.changeoverDone d) l, ∃ d', e.notice = .changeoverDone d' ∧
      d' = { d with superseded := d'.superseded } ∧ ((∀ e ∈ l, e.notice.kind ≠ 0) → d' = d) := by
  induction l with
  | nil => exact ⟨_, List.mem_cons_self, d, rfl, rfl, fun _ => rfl⟩
  | cons x l ih =>
    by_cases hk : x.notice.key = Notice.key (.changeoverDone d)
    · have hkind : x.notice.kind = 0 := congrArg Prod.fst hk
      rw [tableWith, if_pos hk]
      cases hx : x.notice with
      | changeoverDone old =>
        exact ⟨_, List.mem_cons_self, mergeDone old d, rfl, rfl, fun h => absurd hkind (h x List.mem_cons_self)⟩
      | slot | signal | menuCall | bank | chute | input | link | counter | output | store | ready =>
        exact absurd (hx ▸ hkind) (by simp [Notice.kind])
    · obtain ⟨e, he, d', hd, hfields, hsame⟩ := ih
      rw [tableWith, if_neg hk]
      exact ⟨e, List.mem_cons_of_mem _ he, d', hd, hfields, fun h => hsame fun y hy => h y (List.mem_cons_of_mem _ hy)⟩

theorem closeRecord_tells_host (r : Record) (o : CoOutcome) {s : State} (hm : s.link.mask.at 0 = true) :
    ∃ e ∈ (closeRecord r o s).link.notices, ∃ d, e.notice = .changeoverDone d ∧
      d = { r.report o with superseded := d.superseded } ∧
      ((∀ e ∈ s.link.notices, e.notice.kind ≠ 0) → d = r.report o) := by
  have hpost : (closeRecord r o s).link.notices = tableWith (.changeoverDone (r.report o)) s.link.notices := by
    unfold closeRecord post
    rw [if_pos (by exact hm)]
    rfl
  rw [hpost]
  exact exists_tableWith_done ..

/-! #### The park of `to` (R89, R91, R93) -/

/-- `to` is parked; with `evenSource` also where it is `from`. -/
theorem parkTarget_spec (r : Record) (evenSource : Bool) (s : State) :
    let t := parkTarget r evenSource s
    (∀ n, r.target = some n → evenSource = true ∨ r.source ≠ some n →
      Parked (s.profile n).general (s.slot n) (t.slot n)) ∧
    (∀ n, r.target ≠ some n ∨ (evenSource = false ∧ r.source = some n) → t.slot n = s.slot n) ∧
    BuffersOnly s t ∧ SameOutside parkBlocks s t := by
  intro t
  have ht : t = parkTarget r evenSource s := rfl
  rw [ht]
  unfold parkTarget
  split
  · next hnone =>
    refine ⟨fun n hn _ => ?_, fun _ _ => rfl, .of_eq rfl, .refl _ _⟩
    rw [hnone] at hn
    exact absurd hn.symm (Option.some_ne_none n)
  · next m hm =>
    rw [hm]
    split
    · next hpark =>
      refine ⟨fun n hn _ => ?_, fun n hn => ?_, (park_parks m s).buffers, (park_parks m s).same⟩
      · obtain rfl := Option.some.inj hn
        exact park_parked ..
      · refine (park_parks m s).others.slot n ?_
        rintro rfl
        rcases hn with hn | ⟨hf, hsource⟩
        · exact hn rfl
        · rw [hf, hsource] at hpark
          simp at hpark
    · next hkeep =>
      refine ⟨fun n hn h => ?_, fun _ _ => rfl, .of_eq rfl, .refl _ _⟩
      obtain rfl := Option.some.inj hn
      refine absurd ?_ hkeep
      rcases h with h | h
      · rw [h, Bool.true_or]
      · rw [bne_iff_ne.2 h, Bool.or_true]

/-! #### The abort (R91) -/

/-- The record as an ABORT reports it: the tag of a pending target joins the superseded tags. -/
def abortedRecord (r : Record) (pending : Option Pending) : Record :=
  pending.elim r fun q => { r with superseded := r.superseded.append q.tag }

/-- The part when the aborted changeover has been stopped and reported. -/
def abortReported (r : Record) (s : State) : State :=
  closeRecord (abortedRecord r s.co.pending) .aborted (setPending none (parkTarget r true (disableWriter s)))

theorem abortChangeover_eq (r : Record) (tag : Byte) (s : State) :
    abortChangeover r tag s = startChangeover ⟨tag, none, false, none⟩ (abortReported r s) := by
  have hco : (parkTarget r true (disableWriter s)).co = s.co :=
    ((parkTarget_same ..).same .co (by decide)).trans ((disableWriter_same s).same .co (by decide))
  unfold abortChangeover abortReported
  dsimp only
  rw [hco]
  cases s.co.pending <;> rfl

section
variable (r : Record) (s : State)

theorem abortReported_same :
    SameOutside [.link, .counters, .slots, .bus, .monitors, .co, .frame, .pic, .router, .coins, .reports] s
      (abortReported r s) := by
  obtain ⟨-, -, -, hparked⟩ := parkTarget_spec r true (disableWriter s)
  have hpending : SameOutside [.link, .counters, .slots, .bus, .monitors, .co, .frame, .pic, .router, .coins, .reports]
      s (setPending none (parkTarget r true (disableWriter s))) :=
    (setPending_same ..).after ((hparked.mono (by decide)).after ((disableWriter_same s).mono (by decide))
      (fun _ h => h)) (by decide)
  exact (closeRecord_same ..).after hpending (by decide)

theorem abortReported_co : (abortReported r s).co = { s.co with record := none, pending := none } := by
  have hco : (parkTarget r true (disableWriter s)).co = s.co :=
    ((parkTarget_same ..).same .co (by decide)).trans ((disableWriter_same s).same .co (by decide))
  have hpost (n : Notice) (u : State) : (post n u).co = u.co := (post_same ..).same .co (by decide)
  unfold abortReported closeRecord setRecord
  dsimp only
  rw [hpost]
  change { (parkTarget r true (disableWriter s)).co with record := none, pending := none } = _
  rw [hco]

theorem abortReported_writer : (abortReported r s).frame.writer = none := by
  obtain ⟨-, -, hbuffers, -⟩ := parkTarget_spec r true (disableWriter s)
  have hframe : (abortReported r s).frame = (parkTarget r true (disableWriter s)).frame :=
    ((closeRecord_same ..).same .frame (by decide)).trans rfl
  rw [hframe, hbuffers, disableWriter_frame]

/-- What the abort makes of the slots. -/
theorem abortReported_slots :
    (∀ n, r.target = some n → Parked (s.profile n).general (s.slot n) ((abortReported r s).slot n)) ∧
      ∀ n, r.target ≠ some n → (abortReported r s).slot n = s.slot n := by
  obtain ⟨hparked, hkept, -, -⟩ := parkTarget_spec r true (disableWriter s)
  have hslots : (abortReported r s).slots = (parkTarget r true (disableWriter s)).slots :=
    ((closeRecord_same ..).same .slots (by decide)).trans rfl
  have hbefore : (disableWriter s).slots = s.slots := (disableWriter_same s).same .slots (by decide)
  have hprofiles : (disableWriter s).profiles = s.profiles := (disableWriter_same s).same .profiles (by decide)
  simp only [State.slot, State.profile, hbefore, hprofiles] at hparked hkept ⊢
  rw [hslots]
  exact ⟨fun n hn => hparked n hn (.inl trivial), fun n hn => hkept n (.inl hn)⟩

theorem abortReported_tells_host (hm : s.link.mask.at 0 = true) :
    ∃ e ∈ (abortReported r s).link.notices, ∃ d, e.notice = .changeoverDone d ∧
      d = { (abortedRecord r s.co.pending).report .aborted with superseded := d.superseded } ∧
      ((∀ e ∈ s.link.notices, e.notice.kind ≠ 0) → d = (abortedRecord r s.co.pending).report .aborted) := by
  have hposts : Posts (leaveKinds ++ outputKinds) s (setPending none (parkTarget r true (disableWriter s))) :=
    Posts.finish (((disableWriter_posts s).mono (by decide)).trans ((parkTarget_posts ..).mono (by decide))) rfl
  have hmask : (setPending none (parkTarget r true (disableWriter s))).link.mask = s.link.mask :=
    by rw [(hposts.linkKept :)]
  obtain ⟨e, he, d, hd, hfields, hown⟩ := closeRecord_tells_host (abortedRecord r s.co.pending) .aborted
    (s := setPending none (parkTarget r true (disableWriter s))) (by rw [hmask]; exact hm)
  exact ⟨e, he, d, hd, hfields, fun hs => hown (hposts.none_of (by decide) hs)⟩

end

theorem abortedRecord_superseded (r : Record) (p : Option Pending) :
    (abortedRecord r p).superseded = match p with
      | some q => r.superseded.append q.tag
      | none => r.superseded := by
  cases p <;> rfl

theorem abortedRecord_kept (r : Record) (p : Option Pending) :
    (abortedRecord r p).tag = r.tag ∧ (abortedRecord r p).source = r.source ∧ (abortedRecord r p).target = r.target ∧
      (abortedRecord r p).resume = r.resume := by
  cases p <;> exact ⟨rfl, rfl, rfl, rfl⟩

end Sys2Proof.Machine

/-! ### The changeover to standby that an ABORT starts (O30) -/

namespace Sys2Proof.Machine

theorem exec_abort (dt : Nat) (tag : Byte) (p : List Byte) (s : State) :
    exec (.abort dt tag p) s = request dt 0x07 tag p noPayload (abortBlock tag) s := rfl

section
variable {r : Record} {tag : Byte} {s : State} {p : List Byte}

theorem abortBlock_none (h : s.co.record = none) : abortBlock tag s p = unchanged .wrongState s := by
  rw [abortBlock, h]

theorem abortBlock_late (h : s.co.record = some r) (hp : r.phase = .retime ∨ r.phase = .reveal ∨ r.phase = .grant) :
    abortBlock tag s p = unchanged .tooLate s := by
  rw [abortBlock, h]
  dsimp only
  rcases hp with hp | hp | hp <;> rw [hp]

theorem abortBlock_aborts (h : s.co.record = some r)
    (hp : r.phase = .quiesce ∨ r.phase = .park ∨ r.phase = .wake ∨ r.phase = .lock) :
    abortBlock tag s p = (conduct (abortChangeover r tag s), some (.plain .accepted)) := by
  rw [abortBlock, h]
  dsimp only
  rcases hp with hp | hp | hp | hp <;> rw [hp]

end

/-- The changeover to standby an ABORT starts. -/
def abortStart (tag : Byte) : Start := ⟨tag, none, false, none⟩

/-- An ABORT while a board is current and its sound has to fade: the part waits in QUIESCE. -/
structure AbortWaits (r : Record) (tag : Byte) (s t : State) : Prop where
  co : t.co = { s.co with record := some (newRecord (abortStart tag) (abortReported r s)), pending := none, watch := .stopped }
  writer : t.frame.writer = none
  slots : ∀ n, t.slot n = (abortReported r s).slot n
  notices : ∀ e ∈ (abortReported r s).link.notices, e.notice.kind = 0 → e ∈ t.link.notices
  same : SameOutside [.link, .slots, .bus, .monitors, .co, .frame, .pic, .snd, .router, .coins, .counters, .reports] s t

theorem abort_waits (r : Record) (tag : Byte) {s : State} (hc : s.co.current ≠ none) (hfade : s.cabinet.audioFade ≠ 0)
    (hgain : s.snd.gain ≠ 0) : AbortWaits r tag s (conduct (abortChangeover r tag s)) := by
  have hreported := abortReported_same r s
  have hco := abortReported_co r s
  have hwriter := abortReported_writer r s
  have hsnd : (abortReported r s).snd = s.snd := hreported.same .snd (by decide)
  have hcabinet : (abortReported r s).cabinet = s.cabinet := by
    rw [State.cabinet, hreported.same .profiles (by decide), State.cabinet]
  rw [abortChangeover_eq, conduct_start_sounding (by rw [hco]; exact hc) (by rw [hcabinet]; exact hfade)
    (by rw [hsnd]; exact hgain)]
  have hstarted := startChangeover_co (abortStart tag) (abortReported r s)
  obtain ⟨hhold, hstyle⟩ := startChangeover_picture (abortStart tag) (abortReported r s)
  have hsame := startChangeover_same (abortStart tag) (abortReported r s)
  have hposts := startChangeover_posts (abortStart tag) (abortReported r s)
  refine ⟨?_, ?_, State.slot_congr (hsame.same .slots (by decide)), fun e he hk => hposts.keeps he (by rw [hk]; decide), ?_⟩
  · rw [hco] at hstarted
    exact hstarted
  · cases hs : (abortReported r s).cabinet.holdStyle with
    | true => exact (congrArg FrameStore.writer (hhold hs).1).trans hwriter
    | false => exact (congrArg FrameStore.writer (hstyle hs).1).trans hwriter
  · exact SameOutside.with_reports ((hsame.mono (by decide)).after (hreported.mono (by decide)) (fun _ h => h)) (by decide)

theorem newRecord_standby (tag : Byte) (s : State) :
    let r := newRecord (abortStart tag) s
    r.tag = tag ∧ r.source = s.co.current ∧ r.target = none ∧ r.phase = .quiesce ∧ r.isReturn = false ∧ r.reason = none ∧
      r.superseded = ⟨[], false⟩ := ⟨rfl, rfl, rfl, rfl, rfl, rfl, rfl⟩

theorem abort_tells (r : Record) (tag : Byte) (s : State) : Tells s (conduct (abortChangeover r tag s)) :=
  (conduct_tells _).after (abortChangeover_tells r tag s)

/-- Settles O30: ABORT by the phase; a park and a wake by the slot's state. -/
theorem abortGoesToStandby : Obligations.AbortGoesToStandby := by
  refine ⟨fun dt tag s b hturn => ?_, fun n s => ?_, fun n s => ?_⟩
  · intro said
    refine ⟨fun h => ?_, fun r hr => ⟨fun hp => ?_, fun hp => ?_⟩⟩
    · rw [exec_abort, request_unchanged hturn (noPayload_nil _) (abortBlock_none (by exact h))]
    · rw [exec_abort, request_unchanged hturn (noPayload_nil _) (abortBlock_late (by exact hr) hp)]
    · have hkept : LinkKept (s.inService dt b) (conduct (abortChangeover r tag (s.inService dt b))) :=
        (abort_tells ..).linkKept
      have hexec : exec (.abort dt tag []) s =
          .next (conclude ((conduct (abortChangeover r tag (s.inService dt b))).replying b ⟨0x07, tag, .accepted, []⟩)) :=
        request_answered hturn (noPayload_nil _) (abortBlock_aborts (by exact hr) hp)
          (congrArg Link.buffer (show _ = _ from hkept) :)
      refine ⟨hexec, fun hc hfade hgain => ?_⟩
      have hwaits := abort_waits r tag (s := s.inService dt b) hc hfade hgain
      obtain ⟨hparked, hothers⟩ := abortReported_slots r (s.inService dt b)
      have htold := abortReported_tells_host r (s.inService dt b)
      obtain ⟨htag, hsource, htarget, hphase, hreturn, hreason, hsuper⟩ :=
        newRecord_standby tag (abortReported r (s.inService dt b))
      have hcurrent : (abortReported r (s.inService dt b)).co.current = s.co.current := by
        rw [abortReported_co]
        rfl
      obtain ⟨hco, hwriter, hslots, hnotices, hsame⟩ := hwaits
      generalize newRecord (abortStart tag) (abortReported r (s.inService dt b)) = r' at *
      generalize conduct (abortChangeover r tag (s.inService dt b)) = u at *
      refine ⟨_, hexec, replying_link hkept _, replying_now hsame (by decide) _,
        (congrArg Controller.current hco :), (congrArg Controller.pending hco :), (congrArg Controller.watch hco :),
        ⟨r', (congrArg Controller.record hco :), htag, hsource.trans hcurrent, htarget, hphase, hreturn, hreason, hsuper⟩,
        hwriter, fun n hn => ?_, fun n hn => ?_, fun hm => ?_, replying_same hsame (by decide) (by decide) (by decide) _⟩
      · have hn := hparked n hn
        rw [← hslots] at hn
        exact hn
      · exact (hslots n).trans (hothers n hn)
      · obtain ⟨e, he, d, hd, hfields, hown⟩ := htold hm
        obtain ⟨hrtag, hrsource, hrtarget, hresume⟩ := abortedRecord_kept r s.co.pending
        refine ⟨e, hnotices e he (by rw [hd]; rfl), d, hd, ?_⟩
        refine ⟨by rw [hfields]; rfl, by rw [hfields]; exact hrtag, by rw [hfields]; exact hrsource,
          by rw [hfields]; exact hrtarget, by rw [hfields]; exact hresume, fun hnone => ?_⟩
        rw [hown hnone]
        exact abortedRecord_superseded r s.co.pending
  · obtain ⟨hslot, hothers, -, hquiet, htells, -⟩ := park_parks n s
    intro t
    have hslot : t.slot n = _ := hslot
    refine ⟨park_parked n s, hothers.slot, ?_, ?_, park_same n s⟩
    · rw [hslot]
      exact htells
    · rw [hslot]
      exact hquiet
  · refine ⟨fun h => ?_, wake_frozen_spec, fun h => ?_, wake_held_spec, fun h => ?_, fun h hm => ?_, wake_off_spec,
      fun h => ?_, fun h => ?_, wake_others.slot, wake_same n s⟩
    · rw [wake_live h]
      exact ⟨rfl, rfl⟩
    · rw [wake_booting h]
      exact ⟨rfl, rfl⟩
    · rw [wake_powering h]
      exact ⟨rfl, rfl⟩
    · rw [wake_refitted h hm]
      exact ⟨rfl, rfl⟩
    · rw [wake_fault h]
      exact ⟨rfl, rfl⟩
    · rw [wake_empty h]
      exact ⟨rfl, rfl⟩

end Sys2Proof.Machine

/-! ### CONTROLS_TAKE (O40) -/

namespace Sys2Proof.Machine

/-! #### The pulses that a change of owner cuts (R167) -/

/-- Units that join the bank: the bank, the drained total and the lockout reasons. -/
theorem addUnits_coins (k : Nat) (s : State) :
    (addUnits k s).coins = { (unitsAdded k s).coins with chutes := (addUnits k s).coins.chutes } := by
  have hjudge : (if k = 0 then unitsAdded k s else judgeBankLimit (unitsAdded k s)).coins =
      { (unitsAdded k s).coins with
        chutes := (if k = 0 then unitsAdded k s else judgeBankLimit (unitsAdded k s)).coins.chutes } := by
    split
    · rfl
    · rw [judgeBankLimit_coins]
  unfold addUnits
  dsimp only
  split
  · have hpost : ∀ u, (postBank .overflow u).coins = u.coins := fun u => (postBank_same ..).same .coins (by decide)
    rw [hpost]
    exact hjudge
  · exact hjudge

theorem addUnits_generator (k : Nat) (s : State) (n : Slot) : (addUnits k s).generator n = s.generator n := by
  rw [State.generator, addUnits_coins]
  rfl

theorem unitCut_generator (n m : Slot) (gap : Nat) (s : State) :
    (unitCut n gap s).generator m = if m = n then .gap (s.now + gap) else s.generator m :=
  State.generator_setGenerator ..

theorem cutPulse_off (n : Slot) (toBank : Bool) (s : State) : ((cutPulse n toBank s).generator n).isOn = false := by
  unfold cutPulse
  split
  · next line expiry gap _ =>
    dsimp only
    split
    · rw [addUnits_generator]
      exact congrArg Generator.isOn ((unitCut_generator n n gap s).trans (if_pos rfl))
    · exact congrArg Generator.isOn ((unitCut_generator n n gap s).trans (if_pos rfl))
  · next h =>
    cases hg : s.generator n with
    | on line expiry gap => exact absurd hg (h line expiry gap)
    | idle | gap => rfl

theorem cutPulse_generator {n m : Slot} (h : m ≠ n) (toBank : Bool) (s : State) :
    (cutPulse n toBank s).generator m = s.generator m := by
  rcases cutPulse_cases n toBank s with hc | ⟨gap, hc | ⟨line, -, hc⟩⟩
  · rw [hc]
  · rw [hc, addUnits_generator, unitCut_generator, if_neg h]
  · rw [hc, State.generator_setQueue, unitCut_generator, if_neg h]

theorem cutIfLost_generator {n m : Slot} (h : m ≠ n) (s : State) : (cutIfLost n s).generator m = s.generator m := by
  unfold cutIfLost
  split
  · rfl
  · exact cutPulse_generator h ..

/-- A pulse that no owner and no QUIESCE protects is off once its slot has been judged, and stays off. -/
theorem cutAll_off {n : Slot} (l : List Slot) {s : State} (ho : s.router.owner ≠ .slot n) (hq : s.quiescing n = false)
    (h : n ∈ l ∨ (s.generator n).isOn = false) : ((forAll l cutIfLost s).generator n).isOn = false := by
  induction l generalizing s with
  | nil => exact h.resolve_left List.not_mem_nil
  | cons m l ih =>
    have hrouter : (cutIfLost m s).router = s.router := (cutIfLost_same m s).same .router (by decide)
    have hco : (cutIfLost m s).co = s.co := (cutIfLost_same m s).same .co (by decide)
    refine ih (by rw [hrouter]; exact ho) (by rw [State.quiescing, hco]; exact hq) ?_
    by_cases hm : n = m
    · right
      subst hm
      have hcut : cutIfLost n s = cutPulse n (!(s.slot n).state.supplied) s := if_neg (by rw [hq]; simp [ho])
      change ((cutIfLost n s).generator n).isOn = false
      rw [hcut]
      exact cutPulse_off ..
    · change n ∈ l ∨ ((cutIfLost m s).generator n).isOn = false
      rw [cutIfLost_generator hm]
      exact h.imp_left fun h => (List.mem_cons.1 h).resolve_left hm

theorem cutLostPulses_off {n : Slot} {s : State} (ho : s.router.owner ≠ .slot n) (hq : s.quiescing n = false) :
    ((cutLostPulses s).generator n).isOn = false :=
  cutAll_off allSlots ho hq (.inl (mem_allSlots n))

/-! #### The controls taken -/

/-- The host has the controls: the router, and no pulse that a QUIESCE does not protect. -/
structure Taken (s t : State) : Prop where
  router : t.router = { s.router with
    owner := .link, linkHold := true, claim := none, grantMask := Tab.all 55 false, playTimer := none }
  off : ∀ n, s.quiescing n = false → (t.generator n).isOn = false
  posts : Posts ownerKinds s t
  same : SameOutside [.link, .router, .coins] s t

theorem takeControls_taken (s : State) : Taken s (takeControls s) := by
  refine ⟨giveLink_router _, fun n hq => ?_, Posts.start (giveLink_posts _) rfl, takeControls_same s⟩
  unfold takeControls giveLink
  dsimp only
  have hpost (u : State) : (postInput u).router = u.router ∧ (postInput u).co = u.co :=
    ⟨(postInput_same u).same .router (by decide), (postInput_same u).same .co (by decide)⟩
  split
  · exact cutLostPulses_off (by simp) hq
  · refine cutLostPulses_off ?_ ?_
    · rw [(hpost _).1]
      simp
    · rw [State.quiescing, (hpost _).2]
      exact hq

/-- A change of owner to LINK posts the snapshot. -/
theorem takeControls_tells_host {s : State} (ho : s.router.owner ≠ .link) (hm : s.link.mask.at 3 = true) :
    ∃ e ∈ (takeControls s).link.notices, e.notice = .input s.router.debounced s.router.latch := by
  unfold takeControls giveLink
  dsimp only
  rw [if_neg ho]
  have hinput := exists_post (n := .input s.router.debounced s.router.latch) (s := { s with router := { s.router with
    owner := .link, linkHold := true, claim := none, grantMask := Tab.all 55 false, playTimer := none } })
    (fun m => by cases m <;> rfl) hm
  obtain ⟨e, he, hn, -⟩ := hinput
  exact ⟨e, (cutLostPulses_posts _).keeps he (by rw [hn]; simp [coinKinds, Notice.kind]), hn⟩

/-! #### The freeze (R37) -/

/-- The picture held and the writer disabled while the current board is paused (R98). -/
def pauseHeld (s : State) : State := setWatch .stopped (disableWriter (setHold true s))

theorem pauseHeld_spec (s : State) :
    (pauseHeld s).frame.hold = true ∧ (pauseHeld s).frame.writer = none ∧
      (pauseHeld s).co = { s.co with watch := .stopped } ∧ Posts outputKinds s (pauseHeld s) ∧
      SameOutside [.link, .co, .frame, .pic] s (pauseHeld s) := by
  have hframe := disableWriter_frame (setHold true s)
  have hco : (disableWriter (setHold true s)).co = s.co := (disableWriter_same _).same .co (by decide)
  refine ⟨(congrArg FrameStore.hold hframe :), (congrArg FrameStore.writer hframe :), ?_, ?_, ?_⟩
  · unfold pauseHeld setWatch
    dsimp only
    rw [hco]
  · exact Posts.finish (Posts.from_same (disableWriter_posts _) (setHold_same true s) (by decide)) rfl
  · exact (setWatch_same ..).after ((disableWriter_same _).after ((setHold_same true s).mono (by decide)) (by decide))
      (by decide)

/-- The report of a pause. -/
def pauseReport (n : Slot) : Report := .slot n .live .frozen .pause

/-- A board without the controls is frozen by a pause; no changeover is in flight, and it is current. -/
structure Paused (n : Slot) (s t : State) : Prop where
  slot : t.slot n = SlotRecord.move { s.slot n with paused := true } .frozen
  others : Others n s t
  hold : t.frame.hold = true
  writer : t.frame.writer = none
  co : t.co = { s.co with watch := .stopped }
  kept : LinkKept s t
  same : SameOutside [.link, .slots, .co, .frame, .pic] s t

theorem settle_pauseFreeze {n : Slot} {s : State} (hs : Settled s) (ha : Apart n s) (hc : s.co.current = some n)
    (hlive : (s.slot n).state = .live) : Paused n s (settle (pauseFreeze n s)) := by
  have hset : Moves slotKinds [.link, .slots, .reports] (· = pauseReport n) n s
      (s.setSlot n { s.slot n with paused := true }) :=
    (setSlot_moves ..).mono (fun _ h => h) (by decide) fun _ h => h
  have hmoves : Moves slotKinds [.link, .slots, .reports] (· = pauseReport n) n s (pauseFreeze n s) := by
    rw [pauseFreeze, if_pos hlive]
    refine hset.trans (enter_moves (s := s.setSlot n { s.slot n with paused := true }) ha ?_)
    rw [State.slot_setSlot_self]
    exact congrArg (fun st => Report.slot n st .frozen .pause) hlive
  have hreports : (pauseFreeze n s).reports = [pauseReport n] := by
    rw [pauseFreeze, if_pos hlive, enter_apart (s := s.setSlot n { s.slot n with paused := true }) ha,
      State.slot_setSlot_self]
    have hnone (k : Nat) : (post (.slot n .frozen .pause k)
        (moved n .frozen (s.setSlot n { s.slot n with paused := true }))).reports = [] :=
      ((post_same ..).same .reports (by decide)).trans hs.2
    refine (congrArg (· ++ _) (hnone _)).trans ?_
    exact congrArg (fun st => [Report.slot n st .frozen .pause]) hlive
  have hslot : (pauseFreeze n s).slot n = SlotRecord.move { s.slot n with paused := true } .frozen := by
    rw [pauseFreeze, if_pos hlive]
    exact enterWith_slot ..
  have hcleared : SameOutside [.link, .slots] s { pauseFreeze n s with reports := [] } := hmoves.cleared hs (by decide)
  have hco : (pauseFreeze n s).co = s.co := hmoves.same.same .co (by decide)
  have hposts : Posts slotKinds s { pauseFreeze n s with reports := [] } := Posts.finish hmoves.posts rfl
  have hothers := hmoves.others
  generalize pauseFreeze n s = u at *
  obtain ⟨hhold, hwriter, hwatch, hheld, hsame⟩ := pauseHeld_spec { u with reports := [] }
  have hact : onCurrent n (pauseReport n) { u with reports := [] } = pauseHeld { u with reports := [] } := if_pos rfl
  have hnone : (pauseHeld { u with reports := [] }).reports = [] := hsame.same .reports (by decide)
  have hsettle : settle u = pauseHeld { u with reports := [] } := by
    refine settle_first (n := n) (by rw [hco]; exact hs.1) (by rw [hco]; exact hc) hreports ?_ ?_ ?_ (by simp)
    · rw [hact]
      generalize pauseHeld { u with reports := [] } = v at *
      rw [← hnone]
    · rw [hwatch]
      exact (congrArg Controller.record hco).trans hs.1
    · rw [hwatch]
      exact (congrArg Controller.current hco).trans hc
  have hslots : (pauseHeld { u with reports := [] }).slots = u.slots := hsame.same .slots (by decide)
  rw [hsettle]
  generalize pauseHeld { u with reports := [] } = v at *
  refine ⟨?_, ⟨fun m hm => ?_⟩, hhold, hwriter, ?_, ?_, ?_⟩
  · rw [State.slot, hslots]
    exact hslot
  · rw [State.slot, hslots]
    exact hothers.slot m hm
  · rw [hwatch, hco]
  · exact ((hposts.mono (by decide : _ ⊆ ([1, 8] : List (Fin 11)))).trans (hheld.mono (by decide))).linkKept
  · exact (hsame.mono (by decide)).after (hcleared.mono (by decide)) (fun _ h => h)

end Sys2Proof.Machine

/-! ### CONTROLS_TAKE, its refusals and its answers (O40) -/

namespace Sys2Proof.Machine

theorem exec_controlsTake (dt : Nat) (tag : Byte) (p : List Byte) (s : State) :
    exec (.controlsTake dt tag p) s =
      request dt 0x0F tag p (fixedLayout 1 fun p => [boolCheck 0 0 p]) controlsTakeBlock s := rfl

theorem controlsTakeLayout_above {x : Byte} (h : 1 < x.toNat) (s : State) :
    fixedLayout 1 (fun p => [boolCheck 0 0 p]) s [x] = some (.badField 0) := by
  have hno : ¬x.toNat ≤ 1 := Nat.not_le.2 h
  simp [fixedLayout, boolCheck, byteAt, firstBad, hno]

section
variable {s : State}

theorem controlsTakeBlock_already (ho : s.router.owner = .link) (hl : s.router.linkHold = true) :
    controlsTakeBlock s [0] = unchanged .already s :=
  (if_neg Bool.false_ne_true).trans (if_pos ⟨ho, hl⟩)

theorem controlsTakeBlock_takes (h : s.router.owner ≠ .link ∨ s.router.linkHold = false) :
    controlsTakeBlock s [0] = unchanged .ok (takeControls s) :=
  (if_neg Bool.false_ne_true).trans
    (if_neg fun ⟨ho, hl⟩ => h.elim (fun h => h ho) fun h => Bool.false_ne_true (h.symm.trans hl))

theorem takeFrozen_adrift (h : s.co.record ≠ none ∨ s.co.current = none) : takeFrozen s = unchanged .wrongState s := by
  unfold takeFrozen
  split
  · rfl
  · rfl
  · next hr hc =>
    rcases h with h | h
    · exact absurd hr h
    · rw [hc] at h
      exact absurd h (Option.some_ne_none _)

theorem takeFrozen_current {n : Slot} (hr : s.co.record = none) (hc : s.co.current = some n) :
    takeFrozen s =
      if isPaused n s then unchanged .already s
      else if (s.slot n).state = .live then answered .ok (pauseFreeze n (takeControls s))
      else unchanged .wrongState s := by
  unfold takeFrozen
  rw [hr, hc]

theorem isPaused_iff (n : Slot) (s : State) :
    isPaused n s = true ↔ (s.slot n).state = .frozen ∧ (s.slot n).paused = true := by
  simp [isPaused]

end

/-- The controls taken with the freeze of the current board. -/
theorem settle_takeFrozen {n : Slot} {s : State} (hs : Settled s) (hc : s.co.current = some n)
    (hlive : (s.slot n).state = .live) : Paused n (takeControls s) (settle (pauseFreeze n (takeControls s))) := by
  obtain ⟨hrouter, -, -, hsame⟩ := takeControls_taken s
  have hco : (takeControls s).co = s.co := hsame.same .co (by decide)
  have hreports : (takeControls s).reports = s.reports := hsame.same .reports (by decide)
  have hslots : (takeControls s).slots = s.slots := hsame.same .slots (by decide)
  refine settle_pauseFreeze ⟨by rw [hco]; exact hs.1, by rw [hreports]; exact hs.2⟩ ?_ (by rw [hco]; exact hc)
    (by rw [State.slot, hslots]; exact hlive)
  rw [Apart, hrouter]
  exact ⟨by simp, by simp⟩

/-- Settles O40: without freeze by the owner and the hold flag, with freeze by the current slot's state. -/
theorem controlsTakeGivesTheHostTheControls : Obligations.ControlsTakeGivesTheHostTheControls := by
  intro dt tag s b said taken
  refine ⟨fun hturn => ⟨fun ho hl => ?_, fun h => ?_⟩, fun hturn => ⟨fun h => ?_, fun n hr hc => ⟨fun hst hp => ?_,
    fun hst hp => ?_, fun hlive hreports => ?_⟩⟩, fun x hx hturn => ?_⟩
  · rw [exec_controlsTake, request_unchanged hturn rfl (controlsTakeBlock_already (by exact ho) (by exact hl))]
  · obtain ⟨hrouter, hoff, hposts, hsame⟩ := takeControls_taken (s.inService dt b)
    have htells := takeControls_tells_host (s := s.inService dt b)
    have hexec : exec (.controlsTake dt tag [0]) s =
        .next (conclude ((takeControls (s.inService dt b)).replying b ⟨0x0F, tag, .ok, []⟩)) :=
      request_answered hturn rfl (controlsTakeBlock_takes (by exact h)) (congrArg Link.buffer (show _ = _ from hposts.linkKept) :)
    generalize takeControls (s.inService dt b) = u at *
    exact ⟨_, hexec, ⟨replying_link hposts.linkKept _, replying_now hsame (by decide) _, hrouter, hoff⟩,
      fun ho hm => htells ho hm, replying_same hsame (by decide) (by decide) (by decide) _⟩
  · rw [exec_controlsTake, request_unchanged hturn rfl (takeFrozen_adrift (by exact h))]
  · have hblock : controlsTakeBlock (s.inService dt b) [1] = unchanged .already (s.inService dt b) :=
      (takeFrozen_current (by exact hr) (by exact hc)).trans (if_pos ((isPaused_iff n _).2 ⟨hst, hp⟩))
    rw [exec_controlsTake, request_unchanged hturn rfl hblock]
  · have hpaused : ¬isPaused n (s.inService dt b) = true := fun h => by
      obtain ⟨hfrozen, hpaused⟩ := (isPaused_iff n _).1 h
      exact Bool.false_ne_true ((hp hfrozen).symm.trans hpaused)
    have hblock : controlsTakeBlock (s.inService dt b) [1] = unchanged .wrongState (s.inService dt b) :=
      ((takeFrozen_current (by exact hr) (by exact hc)).trans (if_neg hpaused)).trans (if_neg (by exact hst))
    rw [exec_controlsTake, request_unchanged hturn rfl hblock]
  · have hpaused : ¬isPaused n (s.inService dt b) = true := fun h =>
      absurd (hlive.symm.trans ((isPaused_iff n _).1 h).1) (by decide)
    have hblock : controlsTakeBlock (s.inService dt b) [1] =
        answered .ok (pauseFreeze n (takeControls (s.inService dt b))) :=
      ((takeFrozen_current (by exact hr) (by exact hc)).trans (if_neg hpaused)).trans (if_pos (by exact hlive))
    obtain ⟨hrouter, hoff, hposts, htaken⟩ := takeControls_taken (s.inService dt b)
    have hfrozen := settle_takeFrozen (n := n) (s := s.inService dt b) ⟨hr, hreports⟩ hc hlive
    have hkept : LinkKept (s.inService dt b) (settle (pauseFreeze n (takeControls (s.inService dt b)))) :=
      hposts.linkKept.trans hfrozen.kept
    have hexec := request_accepted hturn (check := fixedLayout 1 fun p => [boolCheck 0 0 p]) rfl hblock hkept
    generalize settle (pauseFreeze n (takeControls (s.inService dt b))) = u at *
    obtain ⟨hslot, hothers, hhold, hwriter, hco, -, hpause⟩ := hfrozen
    have hslots : (takeControls (s.inService dt b)).slots = s.slots := htaken.same .slots (by decide)
    have hbefore : (takeControls (s.inService dt b)).co = s.co := htaken.same .co (by decide)
    have hsame : SameOutside [.link, .slots, .co, .frame, .pic, .router, .coins] (s.inService dt b) u :=
      (hpause.mono (by decide)).after (htaken.mono (by decide)) (fun _ h => h)
    refine ⟨_, hexec, ⟨replying_link hkept _, replying_now hsame (by decide) _, ?_, fun m hm => ?_⟩,
      (congrArg SlotRecord.state hslot :), (congrArg SlotRecord.paused hslot :), fun m hm => ?_, hhold, hwriter, ?_,
      replying_same hsame (by decide) (by decide) (by decide) _⟩
    · exact (hpause.same .router (by decide) :).trans hrouter
    · have hcoins : u.coins = (takeControls (s.inService dt b)).coins := hpause.same .coins (by decide)
      change (u.coins.generators.at m).isOn = false
      rw [hcoins]
      exact hoff m hm
    · exact (hothers.slot m hm :).trans (State.slot_congr hslots m)
    · exact (hco :).trans (by rw [hbefore])
  · rw [exec_controlsTake, request_refused hturn (controlsTakeLayout_above hx _)]

end Sys2Proof.Machine

/-! ### CONTROLS_GIVE (O41) -/

namespace Sys2Proof.Machine

/-! #### The writer and the watch of the current board (R95 to R98, R102) -/

theorem judgeWatched_frame (s : State) : (judgeWatched s).frame = s.frame := (judgeWatched_same s).same .frame (by decide)

theorem enableWriter_frame (n : Slot) (s : State) :
    (enableWriter n s).frame = { s.frame with writer := some n, buffers := (enableWriter n s).frame.buffers } := by
  unfold enableWriter
  split
  · rw [judgeWatched_frame]
  · next m hm =>
    split
    · next heq => rw [← heq, ← hm]
    · dsimp only
      rw [judgeWatched_frame]
      rw [disableWriter_frame]

/-- Whether a signal fits reads the monitors, the output and the settings alone. -/
theorem lockedAndFits_congr {n : Slot} {s t : State} (hm : t.monitors = s.monitors) (ho : t.out = s.out)
    (hp : t.profiles = s.profiles) : lockedAndFits n t = lockedAndFits n s := by
  obtain ⟨_, _, _, _, _, _, _, _, _, _, _, _, _, _, _, _, _, _, _⟩ := s
  obtain ⟨_, _, _, _, _, _, _, _, _, _, _, _, _, _, _, _, _, _, _⟩ := t
  dsimp only at hm ho hp
  subst hm ho hp
  rfl

/-- The end of the watch: the picture is let go, and the reader's rate is that of the signal (R96). -/
theorem endWatch_spec (s : State) :
    let t := endWatch s
    t.co = { s.co with watch := .stopped } ∧ t.frame.hold = false ∧ t.frame.writer = s.frame.writer ∧
      (∀ n f, s.frame.reader = some n → (s.monitor n.source).fref = some f → t.frame.fin = some f ∧ t.frame.acc = f / 2) ∧
      SameOutside [.co, .frame] s t := by
  refine ⟨rfl, rfl, rfl, fun n f hn hf => ?_, endWatch_same s⟩
  have hfin : (endWatch s).frame.fin = some f ∧ (endWatch s).frame.acc = (some f).getD 0 / 2 := by
    unfold endWatch recentre setHold setWatch
    dsimp only
    rw [hn]
    dsimp only
    change ((s.monitor n.source).fref).or s.frame.fin = some f ∧ (((s.monitor n.source).fref).or s.frame.fin).getD 0 / 2 = _
    rw [hf]
    exact ⟨rfl, rfl⟩
  exact hfin

/-- The current board's writer enabled again and the watch ended (R97, R98). -/
def resumed (n : Slot) (s : State) : State := endWatch (enableWriter n s)

theorem resumed_spec (n : Slot) (s : State) :
    let t := resumed n s
    t.co = { s.co with watch := .stopped } ∧ t.frame.hold = false ∧ t.frame.writer = some n ∧
      (∀ m f, s.frame.reader = some m → (s.monitor m.source).fref = some f → t.frame.fin = some f ∧ t.frame.acc = f / 2) ∧
      Posts outputKinds s t ∧ SameOutside [.link, .co, .frame, .pic] s t := by
  have hframe := enableWriter_frame n s
  have hsame := enableWriter_same n s
  obtain ⟨hco, hhold, hwriter, hrate, hend⟩ := endWatch_spec (enableWriter n s)
  have hposts : Posts outputKinds s (resumed n s) :=
    Posts.trans (enableWriter_posts n s) (.of_same hend (by decide))
  have hbefore : (enableWriter n s).co = s.co := hsame.same .co (by decide)
  have hmonitors : (enableWriter n s).monitors = s.monitors := hsame.same .monitors (by decide)
  refine ⟨by rw [← hbefore]; exact hco, hhold, hwriter.trans (congrArg FrameStore.writer hframe :), fun m f hm hf => ?_,
    hposts, (hend.mono (by decide)).after (hsame.mono (by decide)) (fun _ h => h)⟩
  refine hrate m f ((congrArg FrameStore.reader hframe :).trans hm) ?_
  rw [State.monitor, hmonitors]
  exact hf

/-! #### The controls given (R146, R151, R152) -/

theorem giveSlot_router (n : Slot) (s : State) :
    (giveSlot n s).router = { s.router with
      owner := .slot n, claim := none, grantMask := heldInputs s, playTimer := some (s.now + ms 1000) } :=
  ((judgePulse_same ..).same .router (by decide)).trans ((cutLostPulses_same _).same .router (by decide))

/-- The report of a pause's end. -/
def resumeReport (n : Slot) : Report := .slot n .frozen .live .pauseEnd

/-- The paused board LIVE again with the claim to the controls, before the controller acts. -/
structure Unpaused (n : Slot) (s t : State) : Prop where
  slot : t.slot n = SlotRecord.move { s.slot n with paused := false, parkedSig := none } .live
  others : Others n s t
  router : t.router = { s.router with
    owner := .slot n, claim := none, grantMask := heldInputs s, playTimer := some (s.now + ms 1000) }
  posts : Posts moveKinds s t
  reports : t.reports = s.reports ++ [resumeReport n]
  same : SameOutside [.link, .counters, .slots, .router, .coins, .reports] s t

theorem pauseRelease_unpaused {n : Slot} {s : State} (hr : s.co.record = none) (ho : s.router.owner ≠ .slot n)
    (hc : s.router.claim = some n) (hp : isPaused n s = true) : Unpaused n s (pauseRelease n s) := by
  obtain ⟨hfrozen, -⟩ := (isPaused_iff n s).1 hp
  have heq : pauseRelease n s = enter n .live .pauseEnd (s.setSlot n { s.slot n with paused := false, parkedSig := none }) :=
    if_pos hp
  have hset : (s.setSlot n { s.slot n with paused := false, parkedSig := none }).reports = s.reports := rfl
  refine ⟨?_, ?_, ?_, ?_, ?_, pauseRelease_same n s⟩ <;> rw [heq]
  · exact enterWith_slot ..
  · exact enterWith_others ..
  · generalize hu : s.setSlot n { s.slot n with paused := false, parkedSig := none } = u
    have hrouter : u.router = s.router := by rw [← hu]; rfl
    have hco : u.co = s.co := by rw [← hu]; rfl
    have hnow : u.now = s.now := by rw [← hu]; rfl
    have hpost (m : Notice) : (post m (moved n .live u)).router = s.router := ((post_same ..).same .router (by decide)).trans hrouter
    have hpco (m : Notice) : (post m (moved n .live u)).co = s.co := ((post_same ..).same .co (by decide)).trans hco
    have hpnow (m : Notice) : (post m (moved n .live u)).now = s.now := ((post_same ..).same .now (by decide)).trans hnow
    have hgives (m : Notice) : routerSlotChanged n .live (post m (moved n .live u)) =
        giveSlot n (post m (moved n .live u)) := by
      have hidle : ¬(post m (moved n .live u)).inFlight = true := by
        rw [State.inFlight, hpco, hr]
        exact Bool.false_ne_true
      rw [routerSlotChanged, hpost, if_neg fun h => ho h.1, if_pos hc]
      exact if_neg hidle
    rw [enter_eq, hgives]
    refine ((judgePulse_same ..).same .router (by decide) :).trans ((giveSlot_router ..).trans ?_)
    rw [heldInputs, hpnow, hpost]
    simp only [inputActive, hpost]
    rfl
  · exact enterWith_posts ..
  · rw [enter_reports, State.slot_setSlot_self]
    exact congrArg (fun st => s.reports ++ [Report.slot n st .live .pauseEnd]) hfrozen

/-- The paused board LIVE again, with the controller after it. -/
structure Resumed (n : Slot) (s t : State) : Prop where
  slot : t.slot n = SlotRecord.move { s.slot n with paused := false, parkedSig := none } .live
  others : Others n s t
  router : t.router = { s.router with
    owner := .slot n, claim := none, grantMask := heldInputs s, playTimer := some (s.now + ms 1000) }
  hold : t.frame.hold = false
  writer : t.frame.writer = some n
  kept : LinkKept s t
  same : SameOutside [.link, .counters, .slots, .co, .frame, .pic, .router, .coins] s t

theorem settle_pauseRelease {n : Slot} {s : State} (hs : Settled s) (hcur : s.co.current = some n)
    (ho : s.router.owner ≠ .slot n) (hc : s.router.claim = some n) (hp : isPaused n s = true)
    (hf : lockedAndFits n s = true) : Resumed n s (settle (pauseRelease n s)) := by
  obtain ⟨hslot, hothers, hrouter, hposts, hreports, hsame⟩ := pauseRelease_unpaused hs.1 ho hc hp
  generalize pauseRelease n s = u at *
  have hco : u.co = s.co := hsame.same .co (by decide)
  rw [hs.2, List.nil_append] at hreports
  have hfits : lockedAndFits n (enableWriter n { u with reports := [] }) = true := by
    rw [lockedAndFits_congr (s := s), hf]
    · exact ((enableWriter_same ..).same .monitors (by decide)).trans (hsame.same .monitors (by decide) :)
    · exact ((enableWriter_same ..).same .out (by decide)).trans (hsame.same .out (by decide) :)
    · exact ((enableWriter_same ..).same .profiles (by decide)).trans (hsame.same .profiles (by decide) :)
  have hact : onCurrent n (resumeReport n) { u with reports := [] } = resumed n { u with reports := [] } :=
    (if_pos rfl).trans (if_pos hfits)
  obtain ⟨hwatch, hhold, hwriter, -, hafter, hrest⟩ := resumed_spec n { u with reports := [] }
  have hnone : (resumed n { u with reports := [] }).reports = [] := hrest.same .reports (by decide)
  have hsettle : settle u = resumed n { u with reports := [] } := by
    refine settle_first (n := n) (by rw [hco]; exact hs.1) (by rw [hco]; exact hcur) hreports ?_ ?_ ?_ (by simp)
    · rw [hact]
      generalize resumed n { u with reports := [] } = v at *
      rw [← hnone]
    · rw [hwatch]
      exact (congrArg Controller.record hco).trans hs.1
    · rw [hwatch]
      exact (congrArg Controller.current hco).trans hcur
  rw [hsettle]
  have hslots : (resumed n { u with reports := [] }).slots = u.slots := hrest.same .slots (by decide)
  have hkeeps : (resumed n { u with reports := [] }).router = u.router := hrest.same .router (by decide)
  have hcleared : SameOutside [.link, .counters, .slots, .router, .coins] s { u with reports := [] } :=
    hsame.cleared hs.2 (by decide)
  have hcleared' : Posts moveKinds s { u with reports := [] } := Posts.finish hposts rfl
  generalize resumed n { u with reports := [] } = v at *
  refine ⟨(State.slot_congr hslots n).trans hslot, ⟨fun m hm => (State.slot_congr hslots m).trans (hothers.slot m hm)⟩,
    hkeeps.trans hrouter, hhold, hwriter, ?_, ?_⟩
  · exact ((hcleared'.mono (by decide : _ ⊆ ([1, 5, 6, 8] : List (Fin 11)))).trans (hafter.mono (by decide))).linkKept
  · exact (hrest.mono (by decide)).after (hcleared.mono (by decide)) (fun _ h => h)

end Sys2Proof.Machine

/-! ### CONTROLS_GIVE, and what the boards see of the controls (O41) -/

namespace Sys2Proof.Machine

theorem exec_controlsGive (dt : Nat) (tag : Byte) (p : List Byte) (s : State) :
    exec (.controlsGive dt tag p) s = request dt 0x10 tag p noPayload controlsGiveBlock s := rfl

section
variable {n : Slot} {s : State} {p : List Byte}

theorem controlsGiveBlock_moving (h : s.co.record ≠ none) :
    controlsGiveBlock s p =
      if s.router.linkHold = false ∧ s.router.owner = .none then unchanged .already s
      else unchanged .accepted (giveNone (clearHold s)) := if_pos (Option.isSome_iff_ne_none.2 h)

theorem controlsGiveBlock_idle (h : s.co.record = none) (hc : s.co.current = none) :
    controlsGiveBlock s p = unchanged .wrongState s := by
  have hidle : ¬s.inFlight = true := by
    rw [State.inFlight, h]
    exact Bool.false_ne_true
  rw [controlsGiveBlock, if_neg hidle, hc]

theorem controlsGiveBlock_current (h : s.co.record = none) (hc : s.co.current = some n) :
    controlsGiveBlock s p = giveToSlot n s := by
  have hidle : ¬s.inFlight = true := by
    rw [State.inFlight, h]
    exact Bool.false_ne_true
  rw [controlsGiveBlock, if_neg hidle, hc]

end

/-! #### The board lines (R144, R149 to R151) -/

theorem lineActive_iff (s : State) (k : Line) :
    lineActive s k = true ↔
      ∃ e ∈ s.router.workingMap, e.target = k ∧
        (e.invert = false ↔ (passes s ⟨e.source.val, by omega⟩ = true ∧ s.router.grantMask.at e.source = false)) := by
  have hsource (t : Line) : sourceActive s t = true ↔
      (passes s ⟨t.val, by omega⟩ = true ∧ s.router.grantMask.at t = false) := by
    simp [sourceActive, lineInput]
  simp only [lineActive, List.any_eq_true, Bool.and_eq_true, beq_iff_eq, ← hsource]
  refine exists_congr fun e => and_congr_right fun _ => and_congr_right fun _ => ?_
  cases e.invert <;> cases sourceActive s e.source <;> decide

theorem passes_plain {s : State} {i : Input} (h : 52 ≤ i.val ∨ 4 ≤ i.val % 13) : passes s i = s.router.debounced.at i := by
  have hnone : dirOf i = none := by
    revert h
    revert i
    decide
  rw [passes, hnone]
  rfl

/-- The number of a direction among a player's inputs. -/
def Dir.index : Dir → Nat
  | .up => 0
  | .down => 1
  | .left => 2
  | .right => 3

theorem dirOf_index (p : Player) (d : Dir) : dirOf (Fin.ofNat 60 (13 * p.val + d.index)) = some (p, d) := by
  revert p
  cases d <;> decide

theorem passedDir_iff (l : List Dir) (d : Dir) :
    passedDir l = some d ↔ l.getLast? = some d ∧ d.opposite ∉ l := by
  unfold passedDir
  cases l.getLast? with
  | none => simp
  | some e =>
    by_cases he : e = d
    · subst he
      simp
    · simp [he]

theorem passes_direction (s : State) (p : Player) (d : Dir) :
    passes s (Fin.ofNat 60 (13 * p.val + d.index)) =
      if s.router.fourWay.at p then passedDir (s.router.order.at p) == some d
      else s.router.debounced.at (Fin.ofNat 60 (13 * p.val + d.index)) := by
  rw [passes, dirOf_index]
  rfl

theorem boardLine_supplied {n : Slot} {s : State} (h : (s.slot n).state.supplied = true) (k : Line) :
    boardLine s n k =
      some (if s.router.owner == .slot n && lineActive s k then (s.slot n).lineHigh.at k
        else !(s.slot n).lineHigh.at k) := if_pos h

/-- Settles O41: by whether a changeover is in flight and by the current slot's state; the lines by supply and owner. -/
theorem controlsGiveReturnsTheControls : Obligations.ControlsGiveReturnsTheControls := by
  refine ⟨fun dt tag s b hturn => ?_, fun n k s => ?_⟩
  · intro said replied owned freed
    have hrefused {r : Result} (h : controlsGiveBlock (s.inService dt b) [] = unchanged r (s.inService dt b)) :
        exec (.controlsGive dt tag []) s = said r := by
      rw [exec_controlsGive, request_unchanged hturn (noPayload_nil _) h]
    have hanswered {r : Result} {t : State} (h : controlsGiveBlock (s.inService dt b) [] = unchanged r t)
        (hkept : LinkKept (s.inService dt b) t) (hnow : t.now = s.now + dt) : replied r (t.replying b ⟨0x10, tag, r, []⟩) :=
      ⟨request_answered hturn (noPayload_nil _) h (congrArg Link.buffer (show _ = _ from hkept) :), hnow,
        replying_link hkept _⟩
    have hfreed : Posts coinKinds (s.inService dt b) (giveNone (clearHold (s.inService dt b))) :=
      Posts.start (giveNone_posts _) rfl
    have hfreedSame : SameOutside [.link, .router, .coins] (s.inService dt b) (giveNone (clearHold (s.inService dt b))) :=
      (giveNone_same _).after ((clearHold_same _).mono (by decide)) (by decide)
    have hfreedRouter := giveNone_router (clearHold (s.inService dt b))
    refine ⟨fun hr => ⟨fun hh ho => hrefused ?_, fun h => ⟨_, hanswered (t := giveNone (clearHold (s.inService dt b))) ?_
      hfreed.linkKept (hfreedSame.same .now (by decide)), hfreedRouter,
      replying_same hfreedSame (by decide) (by decide) (by decide) _⟩⟩, fun hr hc => hrefused ?_, fun n hr hc => ?_⟩
    · rw [controlsGiveBlock_moving (by exact hr), if_pos ⟨hh, ho⟩]
    · rw [controlsGiveBlock_moving (by exact hr), if_neg]
      rintro ⟨hh, ho⟩
      rcases h with h | h
      · exact Bool.false_ne_true (hh.symm.trans h)
      · exact h ho
    · exact controlsGiveBlock_idle (by exact hr) (by exact hc)
    · have hblock : controlsGiveBlock (s.inService dt b) [] = giveToSlot n (s.inService dt b) :=
        controlsGiveBlock_current (by exact hr) (by exact hc)
      refine ⟨fun ho => hrefused (hblock.trans (if_pos (by exact ho))), fun ho hlive => ?_,
        fun ho hfrozen hpaused hreports hfits => ?_, fun ho hlive hpaused => ?_⟩
      · have hgives := (hblock.trans (if_neg (by exact ho))).trans (if_pos (by exact hlive))
        have hsame : SameOutside [.link, .counters, .router, .coins] (s.inService dt b)
            (giveSlot n (clearHold (s.inService dt b))) :=
          (giveSlot_same ..).after ((clearHold_same _).mono (by decide)) (by decide)
        exact ⟨_, hanswered hgives (Posts.start (giveSlot_posts n (clearHold (s.inService dt b))) rfl).linkKept
          (hsame.same .now (by decide)), giveSlot_router .., replying_same hsame (by decide) (by decide) (by decide) _⟩
      · have hp : isPaused n (s.inService dt b) = true := (isPaused_iff n _).2 ⟨hfrozen, hpaused⟩
        have hlive : ¬(s.slot n).state = .live := fun h => absurd (hfrozen.symm.trans h) (by decide)
        have hdone := settle_pauseRelease (n := n) (s := setClaim n (clearHold (s.inService dt b))) ⟨hr, hreports⟩ hc ho rfl
          hp hfits
        have hgives := ((hblock.trans (if_neg (by exact ho))).trans (if_neg (by exact hlive))).trans (if_pos hp)
        have hclaim : SameOutside [.router] (s.inService dt b) (setClaim n (clearHold (s.inService dt b))) :=
          (setClaim_same ..).after (clearHold_same _) (by decide)
        have hkept : LinkKept (s.inService dt b) (settle (pauseRelease n (setClaim n (clearHold (s.inService dt b))))) :=
          hdone.kept
        have hexec := request_accepted hturn (noPayload_nil _) hgives hkept
        generalize settle (pauseRelease n (setClaim n (clearHold (s.inService dt b)))) = u at *
        obtain ⟨hslot, hothers, hrouter, hhold, hwriter, -, hrest⟩ := hdone
        have hsame : SameOutside [.link, .counters, .slots, .co, .frame, .pic, .router, .coins] (s.inService dt b) u :=
          hrest.after (hclaim.mono (by decide)) (fun _ h => h)
        exact ⟨_, ⟨hexec, replying_now hsame (by decide) _, replying_link hkept _⟩, hrouter,
          (congrArg SlotRecord.state hslot :), (congrArg SlotRecord.paused hslot :), (congrArg SlotRecord.parkedSig hslot :),
          hwriter, hhold, hothers.slot, replying_same hsame (by decide) (by decide) (by decide) _⟩
      · have hp : ¬isPaused n (s.inService dt b) = true := fun h => by
          obtain ⟨hfrozen, hpause⟩ := (isPaused_iff n _).1 h
          exact Bool.false_ne_true ((hpaused hfrozen).symm.trans hpause)
        have hgives := ((hblock.trans (if_neg (by exact ho))).trans (if_neg (by exact hlive))).trans (if_neg hp)
        have hsame : SameOutside [.link, .router, .coins] (s.inService dt b)
            (setClaim n (giveNone (clearHold (s.inService dt b)))) :=
          (setClaim_same ..).after hfreedSame (by decide)
        refine ⟨_, hanswered hgives (Posts.finish hfreed rfl).linkKept (hsame.same .now (by decide)), ?_,
          replying_same hsame (by decide) (by decide) (by decide) _⟩
        exact congrArg (fun r : Router => { r with claim := some n }) hfreedRouter
  · intro high state active
    have hactive : lineActive s k = true ↔ active := lineActive_iff s k
    refine ⟨fun h => if_neg (by rw [h]; exact Bool.false_ne_true), fun hs => ⟨fun h => ?_, fun ho ha => ?_⟩,
      fun i => passes_plain, fun p d => ?_⟩
    · rw [boardLine_supplied hs, if_neg]
      rw [Bool.and_eq_true, beq_iff_eq, hactive]
      rintro ⟨ho, ha⟩
      exact h.elim (fun h => h ho) fun h => h ha
    · rw [boardLine_supplied hs, if_pos]
      rw [Bool.and_eq_true, beq_iff_eq, hactive]
      exact ⟨ho, ha⟩
    · intro i opposite
      have hi : i = Fin.ofNat 60 (13 * p.val + d.index) := by cases d <;> rfl
      have hopposite : opposite = d.opposite := by cases d <;> rfl
      rw [hi, hopposite, passes_direction]
      refine ⟨fun hf => if_neg (by rw [hf]; exact Bool.false_ne_true), fun hf => ?_⟩
      rw [if_pos hf, beq_iff_eq]
      exact passedDir_iff ..

end Sys2Proof.Machine

/-! ### A monitor's change that nothing else watches (R71 to R73) -/

namespace Sys2Proof.Machine

/-! #### Menu presence (R72) -/

/-- Menu presence as a record of monitor 9 gives it. -/
def menuOf (m : Monitor) (fout : Nat) : Bool :=
  match m.state, m.fref with
  | .locked, some r => decide (((r : Int) - fout).natAbs ≤ fout / 256)
  | _, _ => false

theorem absDiff_eq (a b : Nat) : absDiff a b = ((a : Int) - b).natAbs := by
  unfold absDiff
  omega

theorem menuLocked_eq (s : State) : menuLocked s = menuOf (s.monitor sourceM) s.out.fout := by
  unfold menuLocked menuOf
  dsimp only
  cases (s.monitor sourceM).state with
  | locked =>
    cases (s.monitor sourceM).fref with
    | none => rfl
    | some r => exact congrArg (fun d => decide (d ≤ s.out.fout / 256)) (absDiff_eq ..)
  | dark | seeking | weak => rfl

theorem menuOf_unlocked {m : Monitor} (h : m.state ≠ .locked) (fout : Nat) : menuOf m fout = false := by
  unfold menuOf
  split
  · next hl _ => exact absurd hl h
  · rfl

/-- Menu presence judged where the source is monitor 9's. -/
def menuJudged (src : Source) (s : State) : State := if src = sourceM then judgeMenu s else s

theorem menuJudged_same (src : Source) (s : State) : SameOutside [.pic, .snd] s (menuJudged src s) := by
  unfold menuJudged
  split
  · exact judgeMenu_same s
  · exact .refl _ _

theorem applyMonitor_eq (src : Source) (m : Monitor) (c : Option SignalCause) (s : State) :
    applyMonitor src m c s =
      if m.state = (s.monitor src).state then menuJudged src (monitorTaken src m c s)
      else (menuJudged src (monitorTaken src m c s)).report (.monitor src m.state) := rfl

/-! #### A new record, with the controller after it -/

/-- A monitor has taken a new record: nothing but it, its notice and, for monitor 9, the menu has changed. -/
structure MonitorDone (src : Source) (x : Monitor) (s t : State) : Prop where
  monitors : t.monitors = s.monitors.put src x
  slot : src ≠ 8 → SameOutside [.link, .monitors] s t
  menu : src = 8 → t.pic = { s.pic with menuPresent := menuOf x s.out.fout } ∧
    t.snd = { s.snd with ducked := s.pic.overlay.enable && menuOf x s.out.fout } ∧
    SameOutside [.link, .monitors, .pic, .snd] s t

/-- No current slot listens to the source. -/
def Unwatched (src : Source) (s : State) : Prop := ∀ n : Slot, n.source = src → s.co.current ≠ some n

section
variable {src : Source} {s : State}

theorem monitorJudged_done (x : Monitor) (c : Option SignalCause) :
    MonitorDone src x s (menuJudged src (monitorTaken src x c s)) := by
  have hsame := monitorTaken_same src x c s
  have hmonitors := monitorTaken_monitors src x c s
  generalize monitorTaken src x c s = u at *
  have hout : u.out = s.out := hsame.same .out (by decide)
  have hpic : u.pic = s.pic := hsame.same .pic (by decide)
  have hsnd : u.snd = s.snd := hsame.same .snd (by decide)
  refine ⟨((menuJudged_same src u).same .monitors (by decide)).trans hmonitors, fun h => ?_, fun h => ?_⟩
  · rw [menuJudged, if_neg h]
    exact hsame
  · subst h
    have hmenu : menuLocked u = menuOf x s.out.fout := by
      have hself : u.monitor sourceM = x := by
        rw [State.monitor, hmonitors]
        exact Tab.at_put_self ..
      rw [menuLocked_eq, hself, hout]
    refine ⟨?_, ?_, (menuJudged_same sourceM u).mono (by decide) |>.after (hsame.mono (by decide)) (fun _ h => h)⟩
    · change { u.pic with menuPresent := menuLocked u } = _
      rw [hpic, hmenu]
    · change { u.snd with ducked := u.pic.overlay.enable && menuLocked u } = _
      rw [hsnd, hpic, hmenu]

/-- The controller lets the report of an unwatched source pass. -/
theorem settle_applyMonitor (hs : Settled s) (hw : Unwatched src s) (x : Monitor) (c : Option SignalCause) :
    settle (applyMonitor src x c s) = menuJudged src (monitorTaken src x c s) := by
  have hsame : SameOutside [.link, .monitors, .pic, .snd] s (menuJudged src (monitorTaken src x c s)) :=
    ((menuJudged_same ..).mono (by decide)).after ((monitorTaken_same ..).mono (by decide)) (fun _ h => h)
  rw [applyMonitor_eq]
  generalize menuJudged src (monitorTaken src x c s) = u at *
  have hco : u.co = s.co := hsame.same .co (by decide)
  have hnone : u.reports = [] := (hsame.same .reports (by decide) :).trans hs.2
  have hrecord : u.co.record = none := by rw [hco]; exact hs.1
  split
  · rw [settle_passive hrecord (by rw [hnone]; simp), ← hnone]
  · rw [settle_passive (s := u.report (.monitor src x.state)) hrecord fun n hn rep hrep v => ?_]
    · rw [← hnone]
      rfl
    · have hreports : (u.report (.monitor src x.state)).reports = [.monitor src x.state] :=
        congrArg (fun l => l ++ [Report.monitor src x.state]) hnone
      rw [hreports, List.mem_singleton] at hrep
      subst hrep
      refine if_neg fun heq => hw n heq.symm ?_
      rw [← hco]
      exact hn

theorem settle_applyMonitor_done (hs : Settled s) (hw : Unwatched src s) (x : Monitor) (c : Option SignalCause) :
    MonitorDone src x s (settle (applyMonitor src x c s)) := by
  rw [settle_applyMonitor hs hw]
  exact monitorJudged_done x c

theorem settle_applyMonitor_silent (hs : Settled s) (hw : Unwatched src s) (x : Monitor) :
    (settle (applyMonitor src x none s)).link = s.link := by
  rw [settle_applyMonitor hs hw]
  exact ((menuJudged_same ..).same .link (by decide)).trans rfl

theorem settle_applyMonitor_told (hs : Settled s) (hw : Unwatched src s) (x : Monitor) (why : SignalCause)
    (hm : s.link.mask.at 2 = true) :
    ∃ e ∈ (settle (applyMonitor src x (some why) s)).link.notices,
      e.notice = .signal src x.state why x.cls (x.fref.getD 0) := by
  obtain ⟨e, he, hn, -⟩ := exists_post (n := .signal src x.state why x.cls (x.fref.getD 0)) (s := s.setMonitor src x)
    (fun m => by cases m <;> rfl) hm
  have htaken : monitorTaken src x (some why) s =
      post (.signal src x.state why x.cls (x.fref.getD 0)) (s.setMonitor src x) := by
    unfold monitorTaken postSignal
    dsimp only
    rw [State.monitor_setMonitor_self]
  have hlink : (settle (applyMonitor src x (some why) s)).link =
      (post (.signal src x.state why x.cls (x.fref.getD 0)) (s.setMonitor src x)).link := by
    rw [settle_applyMonitor hs hw, ← htaken]
    exact (menuJudged_same ..).same .link (by decide)
  rw [hlink]
  exact ⟨e, he, hn⟩

end

/-! #### The sync timer and the field limit (O27) -/

theorem exec_fieldTimeout {src : Source} {s : State} (h : s.powered = true) :
    exec (.fieldTimeout src) s = .next (conclude (fieldExpires src s)) := event_powered h (fieldExpires src)

theorem exec_syncTimerExpiry {src : Source} {s : State} (h : s.powered = true) :
    exec (.syncTimerExpiry src) s = .next (conclude (settle (syncTimerExpires src s))) :=
  event_powered h fun s => settle (syncTimerExpires src s)

end Sys2Proof.Machine

/-! ### The field limit and the sync timer (O27) -/

namespace Sys2Proof.Machine

section
variable {src : Source} {s : State}

/-! #### The buffer a source fills (R104) -/

theorem fillingFrom_none (h : ∀ b, (s.buffer b).state = .filling → (s.buffer b).source.map Slot.source ≠ some src) :
    fillingFrom src s = none := by
  unfold fillingFrom
  rw [Option.filter_eq_none_iff]
  intro b hb
  have hfilling : (s.buffer b).state = .filling := by simpa using List.find?_some hb
  simpa using h b hfilling

/-- The one element of a list with a property is the one that is found. -/
theorem find?_unique {α : Type} {l : List α} {p : α → Bool} {a : α} (ha : a ∈ l) (hp : p a = true)
    (hone : ∀ b ∈ l, p b = true → b = a) : l.find? p = some a := by
  cases h : l.find? p with
  | none => exact absurd hp (List.find?_eq_none.1 h a ha)
  | some b => rw [hone b (List.mem_of_find?_eq_some h) (List.find?_some h)]

theorem mem_allBuffers (b : Fin 3) : b ∈ allBuffers := by
  revert b
  decide

theorem findBuffer_unique {b : Fin 3} {st : BufState} (hb : (s.buffer b).state = st)
    (hone : ∀ c, (s.buffer c).state = st → c = b) : findBuffer st s = some b := by
  exact find?_unique (mem_allBuffers b) (by simp [hb]) fun c _ hc => hone c (by simpa using hc)

theorem fillingFrom_some {b : Fin 3} (hb : (s.buffer b).state = .filling)
    (hone : ∀ c, (s.buffer c).state = .filling → c = b) (hsrc : (s.buffer b).source.map Slot.source = some src) :
    fillingFrom src s = some b := by
  rw [fillingFrom, findBuffer_unique hb hone]
  simp [Option.filter, hsrc]

theorem fieldCloses_none (h : fillingFrom src s = none) (accepted : Bool) : fieldCloses src accepted s = s := by
  rw [fieldCloses, h]

theorem fieldCloses_frees {b : Fin 3} (h : fillingFrom src s = some b) {accepted : Bool}
    (ha : (s.buffer b).abandoned = true ∨ accepted = false) : fieldCloses src accepted s = s.setBuffer b .free := by
  rw [fieldCloses, h]
  refine if_neg ?_
  rcases ha with ha | ha <;> simp [ha]

/-- A rejected field frees at most the buffer its source was filling. -/
theorem fieldCloses_rejected_cases :
    fieldCloses src false s = s ∨ ∃ b, (s.buffer b).state = .filling ∧ fieldCloses src false s = s.setBuffer b .free := by
  cases h : fillingFrom src s with
  | none => exact .inl (fieldCloses_none h false)
  | some b =>
    have hfind : findBuffer .filling s = some b := Option.eq_some_of_filter_eq_some h
    exact .inr ⟨b, by simpa using List.find?_some hfind, fieldCloses_frees h (.inr rfl)⟩

end

theorem fieldExpires_running {src : Source} {s : State} {f : OpenField} (h : (s.monitor src).field = some f) :
    fieldExpires src s = closeField src false (s.reach (f.start + 675000)) := by
  rw [fieldExpires, h]

/-! #### The stages of the sync timer (R67) -/

section
variable {src : Source} {s : State} {t : SyncTimer}

theorem syncTimerExpires_last (h : (s.monitor src).timer = some t) (hstage : t.stage = .seek ∨ t.stage = .second) :
    syncTimerExpires src s = applyMonitor src (s.monitor src).dark (some .lost) (s.reach t.expiry) := by
  unfold syncTimerExpires
  dsimp only
  rw [h]
  rcases hstage with hstage | hstage <;> dsimp only <;> rw [hstage]

/-- The second stage follows the first. -/
def secondStage (m : Monitor) (t : SyncTimer) : Option SyncTimer := some ⟨.second, t.since, t.since + 8 * m.fref.getD 0⟩

theorem syncTimerExpires_locked (h : (s.monitor src).timer = some t) (hstage : t.stage = .first)
    (hm : (s.monitor src).state = .locked) :
    syncTimerExpires src s =
      applyMonitor src { s.monitor src with state := .weak, timer := secondStage (s.monitor src) t } (some .weak)
        (s.reach t.expiry) := by
  unfold syncTimerExpires
  dsimp only
  rw [h]
  dsimp only
  rw [hstage]
  exact if_pos hm

theorem syncTimerExpires_weak (h : (s.monitor src).timer = some t) (hstage : t.stage = .first)
    (hm : (s.monitor src).state = .weak) :
    syncTimerExpires src s =
      applyMonitor src { s.monitor src with timer := secondStage (s.monitor src) t } none (s.reach t.expiry) := by
  unfold syncTimerExpires
  dsimp only
  rw [h]
  dsimp only
  rw [hstage]
  exact if_neg (by rw [hm]; decide)

end

/-- Settles O27: the field limit by the buffer being filled, the sync timer by its stage. -/
theorem monitorTimersExpire : Obligations.MonitorTimersExpire := by
  intro src s hp hs hw m
  refine ⟨fun h => ?_, fun f h => ?_, fun h => ?_, ?_⟩
  · have hfield : fieldExpires src s = s := by rw [fieldExpires, show (s.monitor src).field = none from h]
    rw [exec_fieldTimeout hp, hfield]
  · have hsame := closeField_rejected src (s.reach (f.start + 675000))
    refine ⟨_, (exec_fieldTimeout hp).trans (congrArg (fun u => Host.Outcome.next (conclude u)) (fieldExpires_running h)),
      hsame.same .now (by decide), closeField_monitors .., fun b hb => ?_, fun b hb hone hsrc => ?_, ?_⟩
    · rcases fieldCloses_rejected_cases (src := src)
        (s := (s.reach (f.start + 675000)).setMonitor src { s.monitor src with field := none }) with hc | ⟨c, hc, hfree⟩
      · exact congrArg (fun u => u.buffer b) hc
      · have hne : b ≠ c := fun heq => hb (heq ▸ hc)
        exact (congrArg (fun u => u.buffer b) hfree).trans ((Tab.at_put ..).trans (if_neg hne))
    · have hfill : fillingFrom src ((s.reach (f.start + 675000)).setMonitor src { s.monitor src with field := none }) =
        some b := fillingFrom_some hb hone hsrc
      have hfree := fieldCloses_frees hfill (.inr rfl)
      exact congrArg Buffer.state ((congrArg (fun u => u.buffer b) hfree).trans (Tab.at_put_self ..))
    · exact (hsame.mono (by decide)).after ((State.reach_same ..).mono (by decide)) (fun _ h => h)
  · have htimer : syncTimerExpires src s = s := by
      unfold syncTimerExpires
      dsimp only
      rw [show (s.monitor src).timer = none from h]
    rw [exec_syncTimerExpiry hp, htimer, settle_settled hs]
  · intro t h hdark taken second
    have hdone (x : Monitor) (c : Option SignalCause) (hx : x.state ≠ .locked)
        (heq : syncTimerExpires src s = applyMonitor src x c (s.reach t.expiry)) :
        taken x (settle (applyMonitor src x c (s.reach t.expiry))) := by
      have hfinish := settle_applyMonitor_done (src := src) (s := s.reach t.expiry) hs hw x c
      generalize hu : settle (applyMonitor src x c (s.reach t.expiry)) = u at *
      obtain ⟨hmonitors, hslot, hmenu⟩ := hfinish
      rw [menuOf_unlocked hx, Bool.and_false] at hmenu
      have hnow : u.now = max s.now t.expiry := by
        by_cases h8 : src = 8
        · exact (hmenu h8).2.2.same .now (by decide)
        · exact (hslot h8).same .now (by decide)
      refine ⟨(exec_syncTimerExpiry hp).trans ?_, hnow, hmonitors, fun h8 => ?_, fun h8 => ?_⟩
      · rw [heq, hu]
      · exact ((hslot h8).mono (by decide)).after ((State.reach_same ..).mono (by decide)) (fun _ h => h)
      · obtain ⟨hpic, hsnd, hsame⟩ := hmenu h8
        exact ⟨hpic, hsnd, (hsame.mono (by decide)).after ((State.reach_same ..).mono (by decide)) (fun _ h => h)⟩
    refine ⟨fun hstage => ?_, fun hstage hlocked => ?_, fun hstage hweak => ?_⟩
    · exact ⟨_, hdone (s.monitor src).dark (some .lost) (show MonState.dark ≠ .locked by decide) (syncTimerExpires_last h hstage),
        settle_applyMonitor_told (s := s.reach t.expiry) hs hw (s.monitor src).dark .lost⟩
    · exact ⟨_, hdone _ (some .weak) (by simp) (syncTimerExpires_locked h hstage hlocked),
        settle_applyMonitor_told (s := s.reach t.expiry) hs hw _ .weak⟩
    · exact ⟨_, hdone _ none (by rw [show (s.monitor src).state = .weak from hweak]; decide)
        (syncTimerExpires_weak h hstage hweak), settle_applyMonitor_silent (s := s.reach t.expiry) hs hw _⟩

end Sys2Proof.Machine

/-! ### A vertical sync and the field it judges (O25) -/

namespace Sys2Proof.Machine

theorem exec_verticalSync {dt : Nat} {src : Source} {s : State} (h : s.powered = true) :
    exec (.verticalSync dt src) s = .next (conclude (verticalSyncAt src (s.tick dt))) :=
  event_powered h fun s => verticalSyncAt src (s.tick dt)

/-! #### What an accepted field makes of the record (R62 to R68) -/

section
variable {m : Monitor} {now f l : Nat}

/-- The record with the figures of an accepted field (R59). -/
def Monitor.figured (m : Monitor) (f l : Nat) : Monitor :=
  { m with lastF := f, lastL := l, lineRate := lineRateOf f l, fieldRate := fieldRateOf f }

/-- The class of an accepted field (R60). -/
def fieldClass (f l : Nat) : SigClass := classOf (lineRateOf f l)

theorem acceptField_dark (h : m.state = .dark) :
    m.acceptField now f l = ((m.figured f l).seekFrom now f (fieldClass f l), none) := by
  unfold Monitor.acceptField
  dsimp only
  rw [h]
  simp only [Monitor.figured, h]
  rfl

theorem acceptField_seeking (h : m.state = .seeking) :
    m.acceptField now f l = (m.figured f l).seekField now f l (fieldClass f l) := by
  unfold Monitor.acceptField
  dsimp only
  rw [h]
  simp only [Monitor.figured, h]
  rfl

theorem acceptField_locked (h : m.state = .locked ∨ m.state = .weak) :
    m.acceptField now f l = (m.figured f l).lockField now f l (fieldClass f l) := by
  unfold Monitor.acceptField
  dsimp only
  rcases h with h | h <;> rw [h] <;> simp only [Monitor.figured, h] <;> rfl

end

section
variable {m : Monitor} {now f l : Nat} {c : SigClass}

theorem seekField_runs (hs : steady c f (m.reference.getD 0) = true) (hc : m.cls = c) (hr : m.run < 3) :
    m.seekField now f l c =
      ({ m with run := m.run + 1, runSum := m.runSum + f, reference := some f, timer := seekTimer now }, none) := by
  rw [Monitor.seekField, if_pos (by rw [hs, hc, beq_self_eq_true]; rfl)]
  exact if_neg (Nat.not_le.2 hr)

theorem seekField_locks (hs : steady c f (m.reference.getD 0) = true) (hc : m.cls = c) (hr : m.run = 3) :
    m.seekField now f l c =
      ({ m with
          state := .locked
          run := 4
          runSum := m.runSum + f
          fref := some ((m.runSum + f) / 4)
          lref := some l
          unsteady := 0
          reference := none
          timer := firstTimer now ((m.runSum + f) / 4) }, some .locked) := by
  rw [Monitor.seekField, if_pos (by rw [hs, hc, beq_self_eq_true]; rfl)]
  exact if_pos hr.ge

theorem seekField_restarts (h : m.cls ≠ c ∨ steady c f (m.reference.getD 0) = false) :
    m.seekField now f l c = (m.seekFrom now f c, none) := by
  refine if_neg ?_
  rw [Bool.and_eq_true, beq_iff_eq]
  rintro ⟨hs, hc⟩
  exact h.elim (fun h => h hc.symm) fun h => Bool.false_ne_true (h.symm.trans hs)

theorem lockField_changes (h : m.cls ≠ c) : m.lockField now f l c = (m.seekFrom now f c, some .changed) :=
  if_pos (Ne.symm h)

theorem lockField_tracks {r : Nat} (hc : m.cls = c) (hr : m.fref = some r) (hs : steady c f r = true) :
    m.lockField now f l c =
      ({ m with
          state := .locked
          fref := some (trackRef r f)
          lref := some l
          unsteady := 0
          timer := firstTimer now (trackRef r f) }, if m.state = .weak then some .locked else none) := by
  unfold Monitor.lockField
  dsimp only
  rw [if_neg (not_not.2 hc.symm), hr, Option.getD_some, if_pos hs]

theorem lockField_counts {r : Nat} (hc : m.cls = c) (hr : m.fref = some r) (hs : steady c f r = false)
    (hu : m.unsteady < 2) :
    m.lockField now f l c = ({ m with unsteady := m.unsteady + 1, timer := firstTimer now r }, none) := by
  unfold Monitor.lockField
  dsimp only
  rw [if_neg (not_not.2 hc.symm), hr, Option.getD_some, if_neg (by rw [hs]; exact Bool.false_ne_true),
    if_neg (Nat.not_le.2 hu)]

theorem lockField_gives_up {r : Nat} (hc : m.cls = c) (hr : m.fref = some r) (hs : steady c f r = false)
    (hu : 2 ≤ m.unsteady) : m.lockField now f l c = (m.seekFrom now f c, some .changed) := by
  unfold Monitor.lockField
  dsimp only
  rw [if_neg (not_not.2 hc.symm), hr, Option.getD_some, if_neg (by rw [hs]; exact Bool.false_ne_true), if_pos hu]

end

/-! #### The sync of a source that nothing else watches -/

section
variable {src : Source} {s : State}

/-- No current slot listens to the source, and the frame store neither writes nor buffers it. -/
def Alone (src : Source) (s : State) : Prop :=
  ∀ n : Slot, n.source = src → s.co.current ≠ some n ∧ s.frame.writer ≠ some n ∧
    ∀ b, (s.buffer b).state = .filling → (s.buffer b).source ≠ some n

theorem Alone.unwatched (h : Alone src s) : Unwatched src s := fun n hn => (h n hn).1

theorem Alone.fills_none (h : Alone src s) : fillingFrom src s = none := by
  refine fillingFrom_none fun b hb heq => ?_
  cases hsource : (s.buffer b).source with
  | none => simp [hsource] at heq
  | some n =>
    rw [hsource] at heq
    exact (h n (by simpa using heq)).2.2 b hb hsource

theorem fieldOpens_elsewhere (h : ∀ n, s.frame.writer = some n → n.source ≠ src) : fieldOpens src s = s := by
  unfold fieldOpens
  split
  · next n hn => exact if_neg (h n hn)
  · rfl

theorem Alone.closes (h : Alone src s) (accepted : Bool) :
    closeField src accepted s = s.setMonitor src { s.monitor src with field := none } :=
  fieldCloses_none (s := s.setMonitor src { s.monitor src with field := none }) h.fills_none accepted

theorem syncOpens_elsewhere (h : ∀ n, s.frame.writer = some n → n.source ≠ src) :
    syncOpens src s = s.setMonitor src { s.monitor src with field := some ⟨s.now, 0⟩ } :=
  fieldOpens_elsewhere (s := s.setMonitor src { s.monitor src with field := some ⟨s.now, 0⟩ }) h

theorem Alone.opens (h : Alone src s) :
    syncOpens src s = s.setMonitor src { s.monitor src with field := some ⟨s.now, 0⟩ } :=
  syncOpens_elsewhere fun n hn hsrc => (h n hsrc).2.1 hn

theorem verticalSyncAt_untaken (h : (s.monitor src).taking = false) : verticalSyncAt src s = s :=
  if_neg (by rw [h]; exact Bool.false_ne_true)

theorem verticalSyncAt_opens (h : (s.monitor src).taking = true)
    (ht : ((settle (syncCloses src s)).monitor src).taking = true) :
    verticalSyncAt src s = syncOpens src (settle (syncCloses src s)) := (if_pos h).trans (if_pos ht)

theorem syncCloses_idle (h : (s.monitor src).field = none) : syncCloses src s = s := by
  rw [syncCloses, h]

theorem syncCloses_rejects {f : OpenField} (h : (s.monitor src).field = some f)
    (ha : fieldAccepted (s.now - f.start) f.lines = false) : syncCloses src s = closeField src false s := by
  rw [syncCloses, h]
  exact if_neg (by rw [ha]; exact Bool.false_ne_true)

theorem syncCloses_accepts {f : OpenField} {x : Monitor} {c : Option SignalCause} (h : (s.monitor src).field = some f)
    (ha : fieldAccepted (s.now - f.start) f.lines = true)
    (hx : (Monitor.acceptField { s.monitor src with field := none } s.now (s.now - f.start) f.lines) = (x, c)) :
    syncCloses src s = applyMonitor src x c (closeField src true s) := by
  have hself : (closeField src true s).monitor src = { s.monitor src with field := none } := by
    rw [State.monitor, closeField_monitors]
    exact Tab.at_put_self ..
  have hnow : (closeField src true s).now = s.now := (fieldCloses_same ..).same .now (by decide)
  rw [syncCloses, h]
  dsimp only
  rw [if_pos ha, hself, hnow, hx]

/-- What the sync leaves, where an accepted field has given the record `x`. -/
structure FieldJudged (src : Source) (x : Monitor) (s t : State) : Prop where
  now : t.now = s.now
  monitors : t.monitors = s.monitors.put src { x with field := some ⟨s.now, 0⟩ }
  slot : src ≠ 8 → SameOutside [.link, .monitors] s t
  menu : src = 8 → t.pic = { s.pic with menuPresent := menuOf x s.out.fout } ∧
    t.snd = { s.snd with ducked := s.pic.overlay.enable && menuOf x s.out.fout } ∧
    SameOutside [.link, .monitors, .pic, .snd] s t

theorem Alone.accepts (h : Alone src s) (hs : Settled s) (ht : (s.monitor src).taking = true) {f : OpenField}
    (hf : (s.monitor src).field = some f) (ha : fieldAccepted (s.now - f.start) f.lines = true) {x : Monitor}
    {c : Option SignalCause}
    (hx : (Monitor.acceptField { s.monitor src with field := none } s.now (s.now - f.start) f.lines) = (x, c))
    (htaking : x.taking = true) :
    FieldJudged src x s (verticalSyncAt src s) ∧ (c = none → (verticalSyncAt src s).link = s.link) ∧
      ∀ why, c = some why → s.link.mask.at 2 = true →
        ∃ e ∈ (verticalSyncAt src s).link.notices, e.notice = .signal src x.state why x.cls (x.fref.getD 0) := by
  have hw : Unwatched src (s.setMonitor src { s.monitor src with field := none }) := h.unwatched
  have hset : Settled (s.setMonitor src { s.monitor src with field := none }) := hs
  have hcloses : syncCloses src s = applyMonitor src x c (s.setMonitor src { s.monitor src with field := none }) := by
    rw [syncCloses_accepts hf ha hx, h.closes]
  obtain ⟨hmonitors, hslot, hmenu⟩ := settle_applyMonitor_done hset hw x c
  have hsilent : c = none → (settle (syncCloses src s)).link = s.link := by
    rintro rfl
    rw [hcloses]
    exact settle_applyMonitor_silent hset hw x
  have htold : ∀ why, c = some why → s.link.mask.at 2 = true → ∃ e ∈ (settle (syncCloses src s)).link.notices,
      e.notice = .signal src x.state why x.cls (x.fref.getD 0) := by
    rintro why rfl hm
    rw [hcloses]
    exact settle_applyMonitor_told hset hw x why hm
  rw [← hcloses] at hmonitors hslot hmenu
  have hself : (settle (syncCloses src s)).monitor src = x := by
    rw [State.monitor, hmonitors]
    exact Tab.at_put_self ..
  have hopens := verticalSyncAt_opens ht (by rw [hself]; exact htaking)
  generalize settle (syncCloses src s) = u at *
  have hput : u.monitors = s.monitors.put src x := hmonitors.trans (Tab.put_put ..)
  have hkept : ∀ k, k ∉ ([.link, .monitors, .pic, .snd] : List Block) → Block.same s u k := by
    intro k hk
    by_cases h8 : src = 8
    · have hsame : SameOutside [.link, .monitors, .pic, .snd] s u :=
        (hmenu h8).2.2.after ((State.setMonitor_same ..).mono (by decide)) (fun _ h => h)
      exact hsame.same k hk
    · have hsame : SameOutside [.link, .monitors] s u :=
        (hslot h8).after ((State.setMonitor_same ..).mono (by decide)) (fun _ h => h)
      exact hsame.same k fun hk' => hk ((by decide : ([.link, .monitors] : List Block) ⊆ _) hk')
  have hnow : u.now = s.now := hkept .now (by decide)
  have hframe : u.frame = s.frame := hkept .frame (by decide)
  have hwriter : syncOpens src u = u.setMonitor src { x with field := some ⟨s.now, 0⟩ } := by
    rw [syncOpens_elsewhere (fun n hn hsrc => (h n hsrc).2.1 (by rw [← hframe]; exact hn)), hself, hnow]
  rw [hopens, hwriter]
  refine ⟨⟨hnow, ?_, fun h8 => ?_, fun h8 => ?_⟩, hsilent, htold⟩
  · exact (congrArg (fun v => v.put src { x with field := some ⟨s.now, 0⟩ }) hput).trans (Tab.put_put ..)
  · exact (State.setMonitor_same ..).after ((hslot h8).after ((State.setMonitor_same ..).mono (by decide)) (fun _ h => h))
      (by decide)
  · obtain ⟨hpic, hsnd, hsame⟩ := hmenu h8
    exact ⟨hpic, hsnd, (State.setMonitor_same ..).after (hsame.after ((State.setMonitor_same ..).mono (by decide))
      (fun _ h => h)) (by decide)⟩

end

end Sys2Proof.Machine

/-! ### O25, monitor state by monitor state -/

namespace Sys2Proof.Machine

/-- Settles O25: by whether a field is open and accepted, then by the monitor's state. -/
theorem verticalSyncJudgesTheField : Obligations.VerticalSyncJudgesTheField := by
  intro dt src s hp hs halone m now opened
  have halone' : Alone src (s.tick dt) := halone
  have hsettled : Settled (s.tick dt) := hs
  refine ⟨fun ht => ?_, fun ht hf => ?_, fun f ht hf ha => ?_, fun f ht hf ha => ?_⟩
  · rw [exec_verticalSync hp, verticalSyncAt_untaken (by exact ht)]
    rfl
  · have hcloses : settle (syncCloses src (s.tick dt)) = s.tick dt := by
      rw [syncCloses_idle (by exact hf), settle_settled hsettled]
    rw [exec_verticalSync hp, verticalSyncAt_opens (by exact ht) (by rw [hcloses]; exact ht), hcloses, halone'.opens]
    rfl
  · have hcloses : settle (syncCloses src (s.tick dt)) =
        (s.tick dt).setMonitor src { (s.tick dt).monitor src with field := none } := by
      rw [syncCloses_rejects (by exact hf) (by exact ha), halone'.closes, settle_settled (by exact hsettled)]
    have hself : ((s.tick dt).setMonitor src { (s.tick dt).monitor src with field := none }).monitor src =
        { s.monitor src with field := none } := State.monitor_setMonitor_self ..
    rw [exec_verticalSync hp, verticalSyncAt_opens (by exact ht) (by rw [hcloses, hself]; exact ht), hcloses,
      Alone.opens (by exact halone), hself]
    exact congrArg (fun v => Host.Outcome.next (conclude { s with now := now, monitors := v })) (Tab.put_put ..)
  · intro F rate c kept begun menu taken silent told
    have hjudges {x : Monitor} {why : Option SignalCause}
        (hx : (Monitor.acceptField { s.monitor src with field := none } now F f.lines) = (x, why))
        (htaking : x.taking = true) :
        ∃ u, exec (.verticalSync dt src) s = .next (conclude u) ∧ taken x u ∧ (why = none → u.link = s.link) ∧
          ∀ y, why = some y → s.link.mask.at 2 = true →
            ∃ e ∈ u.link.notices, e.notice = .signal src x.state y x.cls (x.fref.getD 0) := by
      obtain ⟨⟨hnow, hmonitors, hslot, hmenu⟩, hsilent, htold⟩ :=
        halone'.accepts hsettled (by exact ht) (by exact hf) (by exact ha) (by exact hx) htaking
      have hexec := exec_verticalSync (dt := dt) (src := src) hp
      generalize verticalSyncAt src (s.tick dt) = u at *
      refine ⟨u, hexec, ⟨hnow, hmonitors, fun h8 => ?_, fun h8 => ?_⟩, hsilent, htold⟩
      · exact ((hslot h8).mono (by decide)).after ((State.tick_same ..).mono (by decide)) (fun _ h => h)
      · obtain ⟨hpic, hsnd, hsame⟩ := hmenu h8
        exact ⟨hpic, hsnd, (hsame.mono (by decide)).after ((State.tick_same ..).mono (by decide)) (fun _ h => h)⟩
    have hsilent {x : Monitor}
        (hx : (Monitor.acceptField { s.monitor src with field := none } now F f.lines) = (x, none))
        (htaking : x.taking = true) : silent x := by
      obtain ⟨u, hexec, htaken, hlink, -⟩ := hjudges hx htaking
      exact ⟨u, hexec, htaken, hlink rfl⟩
    have htold {x : Monitor} {y : SignalCause}
        (hx : (Monitor.acceptField { s.monitor src with field := none } now F f.lines) = (x, some y))
        (htaking : x.taking = true) : told x y := by
      obtain ⟨u, hexec, htaken, -, hnotice⟩ := hjudges hx htaking
      exact ⟨u, hexec, htaken, hnotice y rfl⟩
    refine ⟨fun hst => ?_, fun hst => ?_, fun r hst hr => ?_⟩
    · have haccept := acceptField_dark (m := { s.monitor src with field := none }) (now := now) (f := F) (l := f.lines)
        hst
      exact (hsilent haccept ht :)
    · have haccept := acceptField_seeking (m := { s.monitor src with field := none }) (now := now) (f := F)
        (l := f.lines) hst
      refine ⟨fun hc hsteady => ⟨fun hr => ?_, fun hr => ?_⟩, fun h => ?_⟩
      · exact (hsilent (haccept.trans (seekField_runs (by exact hsteady) (by exact hc) (by exact hr))) ht :)
      · exact (htold (haccept.trans (seekField_locks (by exact hsteady) (by exact hc) (by exact hr))) ht :)
      · exact (hsilent (haccept.trans (seekField_restarts (by exact h))) ht :)
    · intro tracked
      have haccept := acceptField_locked (m := { s.monitor src with field := none }) (now := now) (f := F) (l := f.lines)
        hst
      refine ⟨fun hc hsteady => ?_, fun hc hsteady => ⟨fun hu => ?_, fun hu => ?_⟩, fun hc => ?_⟩
      · have htracks := haccept.trans (lockField_tracks (by exact hc) (by exact hr) (by exact hsteady))
        refine ⟨fun hlocked => ?_, fun hweak => ?_⟩
        · rw [if_neg (by rw [Monitor.figured, show (s.monitor src).state = .locked from hlocked]; decide)] at htracks
          exact (hsilent htracks ht :)
        · rw [if_pos (by exact hweak)] at htracks
          exact (htold htracks ht :)
      · exact (hsilent (haccept.trans (lockField_counts (by exact hc) (by exact hr) (by exact hsteady) (by exact hu))) ht :)
      · exact (htold (haccept.trans (lockField_gives_up (by exact hc) (by exact hr) (by exact hsteady) (by exact hu))) ht :)
      · exact (htold (haccept.trans (lockField_changes (by exact hc))) ht :)

end Sys2Proof.Machine

/-! ### The capture writer's buffers (R102 to R105) -/

namespace Sys2Proof.Machine

/-! #### The writer's choice at an opening (R103) -/

section
variable {s : State}

theorem findBuffer_absent {st : BufState} (h : ∀ b, (s.buffer b).state ≠ st) : findBuffer st s = none := by
  refine List.find?_eq_none.2 fun b _ hb => h b ?_
  simpa using hb

theorem findBuffer_some_of_state {b : Fin 3} {st : BufState} (hb : (s.buffer b).state = st) :
    ∃ c, findBuffer st s = some c := by
  cases h : findBuffer st s with
  | some c => exact ⟨c, rfl⟩
  | none => exact absurd (by simp [hb]) (List.find?_eq_none.1 h b (mem_allBuffers b))

theorem findBuffer_lowest {b : Fin 3} {st : BufState} (hb : (s.buffer b).state = st)
    (hlow : ∀ c, c < b → (s.buffer c).state ≠ st) : findBuffer st s = some b := by
  unfold findBuffer allBuffers
  match b with
  | 0 => simp [hb]
  | 1 => simp [hb, hlow 0 (by decide)]
  | 2 => simp [hb, hlow 0 (by decide), hlow 1 (by decide)]

theorem newer_of {x y : Word16} (hlow : 1 ≤ (x - y).toNat) (hhigh : (x - y).toNat ≤ 32767) : newer x y = true := by
  rw [newer, decide_eq_true hlow, decide_eq_true hhigh]
  rfl

theorem newer_asymm {x y : Word16} (h : newer x y = true) : newer y x = false := by
  simp only [newer, Bool.and_eq_true, decide_eq_true_eq] at h
  simp only [newer, Bool.and_eq_false_iff, decide_eq_false_iff_not]
  bv_omega

theorem mem_readyBuffers (b : Fin 3) : b ∈ readyBuffers none s ↔ (s.buffer b).state = .ready := by
  simp [readyBuffers, mem_allBuffers]

/-- The READY buffer that every other one is newer than. -/
theorem oldestOf_ready {b : Fin 3} {x : Word16} (hb : (s.buffer b).state = .ready) (hx : (s.buffer b).seq = some x)
    (hold : ∀ c, c ≠ b → (s.buffer c).state = .ready → ∃ y, (s.buffer c).seq = some y ∧
      1 ≤ (y - x).toNat ∧ (y - x).toNat ≤ 32767) : oldestOf (readyBuffers none s) s = some b := by
  have hnewer (c : Fin 3) (hc : c ≠ b) (hr : (s.buffer c).state = .ready) :
      (s.buffer c).newerThan (s.buffer b) = true := by
    obtain ⟨y, hy, hlow, hhigh⟩ := hold c hc hr
    rw [Buffer.newerThan, hx, hy]
    exact newer_of hlow hhigh
  refine find?_unique ((mem_readyBuffers b).2 hb) (List.all_eq_true.2 fun c hc => ?_) fun c hc hall => ?_
  · by_cases heq : c = b
    · simp [heq]
    · rw [hnewer c heq ((mem_readyBuffers c).1 hc), Bool.or_true]
  · by_contra hne
    have hback := List.all_eq_true.1 hall b ((mem_readyBuffers b).2 hb)
    obtain ⟨y, hy, hlow, hhigh⟩ := hold c hne ((mem_readyBuffers c).1 hc)
    have hyx : newer y x = true := newer_of hlow hhigh
    rw [Bool.or_eq_true, beq_iff_eq, Buffer.newerThan, hx, hy] at hback
    exact hback.elim (fun h => hne h.symm) fun h => Bool.false_ne_true ((newer_asymm hyx).symm.trans h)

/-- The buffer a field of a slot is taken into. -/
def filledBuffer (n : Slot) (w : Window) : Buffer := ⟨.filling, none, some n, none, false, w, []⟩

theorem fillBuffer_eq {n : Slot} {w : Window} (hw : s.frame.window = some w) (b : Fin 3) :
    fillBuffer b n s = s.setBuffer b (filledBuffer n w) := by
  rw [fillBuffer, hw]
  rfl

theorem takeForField_filling {n : Slot} {b : Fin 3} (h : (s.buffer b).state = .filling) : takeForField n s = s := by
  obtain ⟨c, hc⟩ := findBuffer_some_of_state h
  rw [takeForField, hc]

theorem takeForField_free {n : Slot} {w : Window} {b : Fin 3} (hw : s.frame.window = some w)
    (hf : ∀ b, (s.buffer b).state ≠ .filling) (hb : (s.buffer b).state = .free)
    (hlow : ∀ c, c < b → (s.buffer c).state ≠ .free) : takeForField n s = s.setBuffer b (filledBuffer n w) := by
  rw [takeForField, findBuffer_absent hf, findBuffer_lowest hb hlow]
  exact fillBuffer_eq hw b

theorem takeForField_drops {n : Slot} {w : Window} {b : Fin 3} {x : Word16} (hw : s.frame.window = some w)
    (hf : ∀ b, (s.buffer b).state ≠ .filling) (hfree : ∀ b, (s.buffer b).state ≠ .free) (hb : (s.buffer b).state = .ready)
    (hx : (s.buffer b).seq = some x)
    (hold : ∀ c, c ≠ b → (s.buffer c).state = .ready → ∃ y, (s.buffer c).seq = some y ∧
      1 ≤ (y - x).toNat ∧ (y - x).toNat ≤ 32767) :
    takeForField n s = increment framesDropped (s.setBuffer b (filledBuffer n w)) := by
  rw [takeForField, findBuffer_absent hf, findBuffer_absent hfree, oldestOf_ready hb hx hold]
  dsimp only
  rw [fillBuffer_eq hw]

theorem fieldOpens_writer {n : Slot} (h : s.frame.writer = some n) : fieldOpens n.source s = takeForField n s := by
  rw [fieldOpens, h]
  exact if_pos rfl

end

/-! #### The signature (R104) -/

/-- The bits of one sample, in the order in which they enter the register. -/
def sampleBits (p : RGB) : List Bool :=
  [p.r, p.g, p.b].flatMap fun (y : Byte) => [7, 6, 5, 4, 3, 2, 1, 0].map fun i => y.getLsbD i

theorem crcBit_eq (reg : Word16) (b : Bool) :
    crcBit reg b = if reg.msb = b then reg <<< 1 else (reg <<< 1) ^^^ 0x1021 := by
  unfold crcBit
  by_cases h : reg.msb = b <;> simp [h]

theorem crcSample_eq (reg : Word16) (p : RGB) : crcSample reg p = (sampleBits p).foldl crcBit reg := by
  simp only [crcSample, crcByte, sampleBits, List.flatMap_cons, List.flatMap_nil, List.append_nil, List.foldl_append,
    List.foldl_map]

theorem signatureOf_eq (lines : List (List RGB)) :
    signatureOf lines = (lines.flatten.flatMap sampleBits).foldl
      (fun (reg : Word16) bit => if reg.msb = bit then reg <<< 1 else (reg <<< 1) ^^^ 0x1021) 0xFFFF := by
  have hbit : (fun (reg : Word16) (bit : Bool) => if reg.msb = bit then reg <<< 1 else (reg <<< 1) ^^^ 0x1021) = crcBit :=
    funext fun reg => funext fun bit => (crcBit_eq reg bit).symm
  have hsample : crcSample = fun reg p => (sampleBits p).foldl crcBit reg :=
    funext fun reg => funext fun p => crcSample_eq reg p
  rw [hbit, List.foldl_flatMap, List.foldl_flatten, signatureOf, hsample]

/-! #### The closing of a buffer (R104) -/

section
variable {s : State}

/-- The buffer a closed field leaves. -/
def readyBuffer (x : Buffer) (seq : Word16) : Buffer :=
  { x with state := .ready, seq := some seq, signature := some (signatureOf (completeLines x)), lines := completeLines x }

/-- The part with the field's buffer READY, before it is reported. -/
def fieldStored (b : Fin 3) (s : State) : State :=
  { s.setBuffer b (readyBuffer (s.buffer b) s.frame.nextSeq) with
    frame := { (s.setBuffer b (readyBuffer (s.buffer b) s.frame.nextSeq)).frame with nextSeq := s.frame.nextSeq + 1 } }

theorem makeReady_eq {b : Fin 3} {n : Slot} (h : (s.buffer b).source = some n) :
    makeReady b s = reportReady n (signatureOf (completeLines (s.buffer b))) (fieldStored b s) := by
  unfold makeReady
  dsimp only
  split
  · next m hm =>
    obtain rfl : m = n := Option.some.inj (hm.symm.trans h)
    rfl
  · next hnone => exact absurd (hnone.symm.trans h).symm (Option.some_ne_none n)

theorem reportReady_spec (n : Slot) (sig : Word16) (s : State) :
    let u := reportReady n sig s
    u.frame = s.frame ∧ u.slots = s.slots.put n { s.slot n with lastSig := some sig } ∧
      u.reports = s.reports ++ [.ready n sig] ∧ SameOutside [.link, .slots, .pic, .reports] s u := by
  have hstill := stillSignature_same n sig (s.setSlot n { s.slot n with lastSig := some sig })
  refine ⟨hstill.same .frame (by decide), hstill.same .slots (by decide),
    congrArg (· ++ [Report.ready n sig]) (hstill.same .reports (by decide) :), ?_⟩
  exact (State.report_same ..).after ((hstill.mono (by decide)).after ((State.setSlot_same ..).mono (by decide))
    (fun _ h => h)) (by decide)

theorem fieldCloses_stores {src : Source} {b : Fin 3} (h : fillingFrom src s = some b)
    (ha : (s.buffer b).abandoned = false) : fieldCloses src true s = makeReady b s := by
  rw [fieldCloses, h]
  exact if_pos (by rw [ha]; rfl)

end

end Sys2Proof.Machine

/-! ### Line syncs, and the vertical sync of a slot that is not current (O26) -/

namespace Sys2Proof.Machine

/-! #### The samples of a line (R105) -/

theorem foldl_latest {α β : Type} (p : α → Bool) (f : α → β) (l : List α) (d : β) :
    l.foldl (fun c e => if p e then f e else c) d = ((l.filter p).getLast?.map f).getD d := by
  induction l generalizing d with
  | nil => rfl
  | cons e l ih =>
    rw [List.foldl_cons, ih, List.filter_cons]
    cases hp : p e with
    | false => rfl
    | true =>
      rw [if_pos rfl, if_pos rfl, List.getLast?_cons]
      cases (l.filter p).getLast? <;> rfl

theorem levelAt_eq (video : List (Nat × RGB)) (a b : Nat) :
    levelAt video a b =
      (((video.filter fun e => decide (e.1 * b ≤ 1024 * a)).getLast?).map Prod.snd).getD ⟨0, 0, 0⟩ := by
  rw [levelAt, ← foldl_latest]
  simp only [decide_eq_true_eq, RGB.black]

theorem exec_lineSync {dt : Nat} {src : Source} {video : List (Nat × RGB)} {s : State} (h : s.powered = true) :
    exec (.lineSync dt src video) s = .next (conclude (lineSyncAt src video (s.tick dt))) :=
  event_powered h fun s => lineSyncAt src video (s.tick dt)

section
variable {src : Source} {s : State} {video : List (Nat × RGB)}

theorem lineSyncAt_untaken (h : (s.monitor src).taking = false ∨ (s.monitor src).field = none) :
    lineSyncAt src video s = s := by
  unfold lineSyncAt
  dsimp only
  split
  · next ht hf =>
    rcases h with h | h
    · exact absurd (h.symm.trans ht) Bool.false_ne_true
    · exact absurd (h.symm.trans hf).symm (Option.some_ne_none _)
  · rfl

theorem lineSyncAt_counts {f : OpenField} (ht : (s.monitor src).taking = true) (hf : (s.monitor src).field = some f) :
    lineSyncAt src video s =
      (captureLine src f.lines video s).setMonitor src
        { s.monitor src with field := some { f with lines := min 701 (f.lines + 1) } } := by
  unfold lineSyncAt
  dsimp only
  rw [ht, hf]

theorem captureLine_none {k : Nat} (h : fillingFrom src s = none) : captureLine src k video s = s := by
  rw [captureLine, h]

theorem captureLine_some {k : Nat} {b : Fin 3} (h : fillingFrom src s = some b) :
    captureLine src k video s =
      if (s.buffer b).window.firstLine ≤ k ∧
          k < (s.buffer b).window.firstLine + (s.buffer b).window.activeLines then
        s.setBuffer b { s.buffer b with
          lines := (s.buffer b).lines ++
            [captureSamples (s.buffer b).window (linePeriodOf (s.monitor src)) video] }
      else s := by
  rw [captureLine, h]

end

/-! #### What the closing and the opening read -/

theorem liftDim_pic (s : State) : (liftDim s).pic = if s.pic.dimmed then { s.pic with dimmed := false } else s.pic := by
  unfold liftDim
  split
  · exact (postOutput_same ..).same .pic (by decide)
  · rfl

/-- The conditioner after a READY buffer of a slot, with the working still limit at a moment (R135). -/
def stillPic (n : Slot) (sig : Word16) (limit now : Nat) (p : Conditioner) : Conditioner :=
  if p.watched = some n then
    (if p.previousSig = some sig then p
    else { p with
      previousSig := some sig
      stillTimer := if limit = 0 then none else some (now + ms (1000 * limit))
      dimmed := if p.previousSig = none then p.dimmed else false })
  else p

theorem stillSignature_pic (n : Slot) (sig : Word16) (s : State) :
    (stillSignature n sig s).pic = stillPic n sig s.cabinet.stillLimit s.now s.pic := by
  have hlift (p : Conditioner) : (liftDim { s with pic := p }).pic = { p with dimmed := false } := by
    rw [liftDim_pic]
    split
    · rfl
    · next hd =>
      have hfalse : p.dimmed = false := by simpa using hd
      rw [← hfalse]
  have hstart (u : State) : (startStill u).pic = { u.pic with
      stillTimer := if u.cabinet.stillLimit = 0 then none else some (u.now + ms (1000 * u.cabinet.stillLimit)) } := rfl
  have hcabinet (p : Conditioner) : (liftDim { s with pic := p }).cabinet = s.cabinet ∧
      (liftDim { s with pic := p }).now = s.now := by
    have hsame := liftDim_same { s with pic := p }
    exact ⟨congrArg (fun q : Profiles => q.working.cabinet) (hsame.same .profiles (by decide) :), hsame.same .now (by decide)⟩
  unfold stillSignature stillPic
  split
  · split
    · next hnone =>
      rw [if_neg (by rw [hnone]; exact nofun), hstart, hnone]
      rfl
    · next old hold =>
      rw [hold]
      by_cases heq : old = sig
      · rw [if_pos heq, if_pos (by rw [heq])]
      · rw [if_neg heq, if_neg (fun h => heq (Option.some.inj h)), hstart, hlift, (hcabinet _).1, (hcabinet _).2]
        rfl
  · rfl

theorem reportReady_pic (n : Slot) (sig : Word16) (s : State) :
    (reportReady n sig s).pic = stillPic n sig s.cabinet.stillLimit s.now s.pic := stillSignature_pic ..

theorem fillingFrom_source {src : Source} {s : State} {b : Fin 3} (h : fillingFrom src s = some b) :
    ∃ n, (s.buffer b).source = some n ∧ n.source = src := by
  have hsource : (s.buffer b).source.map Slot.source = some src := by
    have hp := (Option.filter_eq_some_iff.1 h).2
    simpa using hp
  exact Option.map_eq_some_iff.1 hsource

/-- The parts that a closing and an opening read and change. -/
structure SameStore (s t : State) : Prop where
  frame : t.frame = s.frame
  slots : t.slots = s.slots
  pic : t.pic = s.pic
  counters : t.counters = s.counters
  now : t.now = s.now
  profiles : t.profiles = s.profiles

section
variable {s t : State}

theorem SameStore.of_same {L : List Block} (h : SameOutside L s t) (hf : Block.frame ∉ L) (hs : Block.slots ∉ L)
    (hp : Block.pic ∉ L) (hc : Block.counters ∉ L) (hn : Block.now ∉ L) (hpr : Block.profiles ∉ L) : SameStore s t :=
  ⟨h.same .frame hf, h.same .slots hs, h.same .pic hp, h.same .counters hc, h.same .now hn, h.same .profiles hpr⟩

theorem SameStore.fillingFrom (h : SameStore s t) (src : Source) : fillingFrom src t = fillingFrom src s := by
  simp only [Machine.fillingFrom, findBuffer, State.buffer, h.frame]

/-- A field closes alike in parts with the same store. -/
theorem SameStore.closes (h : SameStore s t) (src : Source) (accepted : Bool) :
    SameStore (fieldCloses src accepted s) (fieldCloses src accepted t) := by
  obtain ⟨hframe, hslots, hpic, hcounters, hnow, hprofiles⟩ := h
  have hfilling := SameStore.fillingFrom ⟨hframe, hslots, hpic, hcounters, hnow, hprofiles⟩ src
  have hbuffer (b : Fin 3) : t.buffer b = s.buffer b := by rw [State.buffer, hframe]; rfl
  have hleft (u : State) : (fieldCloses src accepted u).counters = u.counters ∧ (fieldCloses src accepted u).now = u.now ∧
      (fieldCloses src accepted u).profiles = u.profiles :=
    ⟨(fieldCloses_same ..).same .counters (by decide), (fieldCloses_same ..).same .now (by decide),
      (fieldCloses_same ..).same .profiles (by decide)⟩
  suffices hstore : (fieldCloses src accepted t).frame = (fieldCloses src accepted s).frame ∧
      (fieldCloses src accepted t).slots = (fieldCloses src accepted s).slots ∧
      (fieldCloses src accepted t).pic = (fieldCloses src accepted s).pic by
    obtain ⟨hf, hs, hp⟩ := hstore
    obtain ⟨htc, htn, htp⟩ := hleft t
    obtain ⟨hsc, hsn, hsp⟩ := hleft s
    exact ⟨hf, hs, hp, by rw [htc, hsc, hcounters], by rw [htn, hsn, hnow], by rw [htp, hsp, hprofiles]⟩
  unfold fieldCloses
  rw [hfilling]
  cases hfill : Machine.fillingFrom src s with
  | none => exact ⟨hframe, hslots, hpic⟩
  | some b =>
    dsimp only
    rw [hbuffer]
    split
    · have hstored : (fieldStored b t).frame = (fieldStored b s).frame := by
        simp only [fieldStored, State.setBuffer, hframe, hbuffer]
      obtain ⟨n, hsource, -⟩ := fillingFrom_source hfill
      have htsource : (t.buffer b).source = some n := by rw [hbuffer]; exact hsource
      rw [makeReady_eq hsource, makeReady_eq htsource, hbuffer]
      obtain ⟨hsf, hss, -, -⟩ := reportReady_spec n (signatureOf (completeLines (s.buffer b))) (fieldStored b s)
      obtain ⟨htf, hts, -, -⟩ := reportReady_spec n (signatureOf (completeLines (s.buffer b))) (fieldStored b t)
      refine ⟨by rw [htf, hsf, hstored], ?_, ?_⟩
      · rw [hts, hss]
        change t.slots.put n { t.slots.at n with lastSig := _ } = s.slots.put n { s.slots.at n with lastSig := _ }
        rw [hslots]
      · rw [reportReady_pic, reportReady_pic]
        change stillPic n _ t.profiles.working.cabinet.stillLimit t.now t.pic =
          stillPic n _ s.profiles.working.cabinet.stillLimit s.now s.pic
        rw [hprofiles, hnow, hpic]
    · exact ⟨by simp only [State.setBuffer, hframe], hslots, hpic⟩

/-- A field opens alike in parts with the same store. -/
theorem SameStore.opens (h : SameStore s t) (src : Source) : SameStore (fieldOpens src s) (fieldOpens src t) := by
  obtain ⟨hframe, hslots, hpic, hcounters, hnow, hprofiles⟩ := h
  have hkept (u : State) : (fieldOpens src u).slots = u.slots ∧ (fieldOpens src u).pic = u.pic ∧
      (fieldOpens src u).now = u.now ∧ (fieldOpens src u).profiles = u.profiles :=
    ⟨(fieldOpens_same ..).same .slots (by decide), (fieldOpens_same ..).same .pic (by decide),
      (fieldOpens_same ..).same .now (by decide), (fieldOpens_same ..).same .profiles (by decide)⟩
  suffices hstore : (fieldOpens src t).frame = (fieldOpens src s).frame ∧
      (fieldOpens src t).counters = (fieldOpens src s).counters by
    obtain ⟨hf, hc⟩ := hstore
    obtain ⟨hts, htp, htn, htr⟩ := hkept t
    obtain ⟨hss, hsp, hsn, hsr⟩ := hkept s
    exact ⟨hf, by rw [hts, hss, hslots], by rw [htp, hsp, hpic], hc, by rw [htn, hsn, hnow], by rw [htr, hsr, hprofiles]⟩
  have hbuffer (b : Fin 3) : t.buffer b = s.buffer b := by rw [State.buffer, hframe]; rfl
  have hfill (b : Fin 3) (n : Slot) : (fillBuffer b n t).frame = (fillBuffer b n s).frame := by
    simp only [fillBuffer, State.setBuffer, hframe]
  have hcount (b : Fin 3) (n : Slot) : (fillBuffer b n t).counters = (fillBuffer b n s).counters := hcounters
  have hfind (st : BufState) : findBuffer st t = findBuffer st s := by simp only [findBuffer, hbuffer]
  have hold : oldestOf (readyBuffers none t) t = oldestOf (readyBuffers none s) s := by
    simp only [oldestOf, readyBuffers, hbuffer]
  have htake (n : Slot) : (takeForField n t).frame = (takeForField n s).frame ∧
      (takeForField n t).counters = (takeForField n s).counters := by
    unfold takeForField
    rw [hfind, hfind, hold]
    split
    · exact ⟨hframe, hcounters⟩
    · split
      · exact ⟨hfill .., hcounters⟩
      · split
        · exact ⟨((increment_same ..).same .frame (by decide)).trans ((hfill ..).trans
            ((increment_same ..).same .frame (by decide) :).symm), increment_counters_congr _ (hcount ..)⟩
        · exact ⟨hframe, hcounters⟩
  unfold fieldOpens
  rw [hframe]
  split
  · split
    · exact htake _
    · exact ⟨hframe, hcounters⟩
  · exact ⟨hframe, hcounters⟩

end

end Sys2Proof.Machine

/-! ### The vertical sync of a slot that is not current (O26) -/

namespace Sys2Proof.Machine

theorem fieldCloses_moves (n : Slot) (accepted : Bool) (s : State) :
    Moves outputKinds [.link, .slots, .frame, .pic, .reports] (Report.of n) n s (fieldCloses n.source accepted s) := by
  refine ⟨fieldCloses_same .., fieldCloses_posts .., ?_, ?_⟩
  · cases hfill : fillingFrom n.source s with
    | none => rw [fieldCloses_none hfill]; exact .refl n s
    | some b =>
      obtain ⟨m, hsource, hm⟩ := fillingFrom_source hfill
      obtain rfl := Slot.source_injective hm
      by_cases ha : (s.buffer b).abandoned = true ∨ accepted = false
      · rw [fieldCloses_frees hfill ha]
        exact ⟨fun _ _ => rfl⟩
      · simp only [not_or, Bool.not_eq_true, Bool.not_eq_false] at ha
        obtain ⟨hkept, rfl⟩ := ha
        rw [fieldCloses_stores hfill hkept, makeReady_eq hsource]
        obtain ⟨-, hslots, -, -⟩ := reportReady_spec m (signatureOf (completeLines (s.buffer b))) (fieldStored b s)
        refine ⟨fun k hk => ?_⟩
        rw [State.slot, hslots]
        exact (Tab.at_put ..).trans (if_neg hk)
  · cases hfill : fillingFrom n.source s with
    | none => exact ⟨[], by rw [fieldCloses_none hfill, List.append_nil], by simp⟩
    | some b =>
      obtain ⟨m, hsource, hm⟩ := fillingFrom_source hfill
      obtain rfl := Slot.source_injective hm
      by_cases ha : (s.buffer b).abandoned = true ∨ accepted = false
      · exact ⟨[], by rw [fieldCloses_frees hfill ha, List.append_nil]; rfl, by simp⟩
      · simp only [not_or, Bool.not_eq_true, Bool.not_eq_false] at ha
        obtain ⟨hkept, rfl⟩ := ha
        obtain ⟨-, -, hreports, -⟩ := reportReady_spec m (signatureOf (completeLines (s.buffer b))) (fieldStored b s)
        exact ⟨_, by rw [fieldCloses_stores hfill hkept, makeReady_eq hsource]; exact hreports, by simp [Report.of]⟩

/-- What the closing of a slot's field changes. -/
def closeBlocks : List Block := [.link, .slots, .monitors, .frame, .pic, .reports]

theorem closeField_moves (n : Slot) (accepted : Bool) (s : State) :
    Moves [2, 8] closeBlocks (Report.of n) n s (closeField n.source accepted s) := by
  have hset : Moves [2, 8] closeBlocks (Report.of n) n s
      (s.setMonitor n.source { s.monitor n.source with field := none }) :=
    (Moves.of_same (State.setMonitor_same ..) (by decide) (by decide) (by decide)).mono (fun _ h => h) (by decide)
      fun _ h => h
  exact hset.trans ((fieldCloses_moves ..).mono (by decide) (by decide) fun _ h => h)

theorem syncCloses_moves (n : Slot) (s : State) :
    Moves [2, 8] closeBlocks (Report.of n) n s (syncCloses n.source s) := by
  unfold syncCloses
  split
  · exact .refl
  · dsimp only
    split
    · exact (closeField_moves ..).trans ((applyMonitor_moves ..).mono (by decide) (by decide) fun _ h => h)
    · exact closeField_moves ..

/-! #### The monitors, whatever the frame store holds -/

/-- The monitors after a vertical sync has closed the open field. -/
def closedMonitors (src : Source) (now : Nat) (ms : Tab Monitor 9) : Tab Monitor 9 :=
  match (ms.at src).field with
  | none => ms
  | some f =>
    ms.put src (if fieldAccepted (now - f.start) f.lines then
      (Monitor.acceptField { ms.at src with field := none } now (now - f.start) f.lines).1
    else { ms.at src with field := none })

theorem syncCloses_monitors (src : Source) (s : State) :
    (syncCloses src s).monitors = closedMonitors src s.now s.monitors := by
  unfold closedMonitors
  split
  · next hf => rw [syncCloses_idle hf]
  · next f hf =>
    cases ha : fieldAccepted (s.now - f.start) f.lines with
    | false =>
      rw [syncCloses_rejects hf ha, closeField_monitors]
      rfl
    | true =>
      rw [syncCloses_accepts hf ha (by rfl), applyMonitor_monitors, closeField_monitors]
      exact Tab.put_put ..

theorem seekField_taking (m : Monitor) (now f l : Nat) (c : SigClass) :
    (m.seekField now f l c).1.taking = m.taking := by
  unfold Monitor.seekField
  dsimp only
  split
  · split <;> rfl
  · rfl

theorem lockField_taking (m : Monitor) (now f l : Nat) (c : SigClass) :
    (m.lockField now f l c).1.taking = m.taking := by
  unfold Monitor.lockField
  dsimp only
  split
  · rfl
  · split
    · rfl
    · split <;> rfl

theorem acceptField_taking (m : Monitor) (now f l : Nat) : (m.acceptField now f l).1.taking = m.taking := by
  cases h : m.state with
  | dark => rw [acceptField_dark h]; rfl
  | seeking => rw [acceptField_seeking h, seekField_taking]; rfl
  | locked => rw [acceptField_locked (.inl h), lockField_taking]; rfl
  | weak => rw [acceptField_locked (.inr h), lockField_taking]; rfl

theorem closedMonitors_taking (src : Source) (now : Nat) (ms : Tab Monitor 9) :
    ((closedMonitors src now ms).at src).taking = (ms.at src).taking := by
  unfold closedMonitors
  split
  · rfl
  · rw [Tab.at_put_self]
    split
    · exact acceptField_taking ..
    · rfl

/-! #### The sync -/

section
variable {n : Slot} {s : State}

/-- What a vertical sync makes of the part, where the slot is not current. -/
theorem verticalSyncAt_slot (hs : Settled s) (hc : s.co.current ≠ some n) (ht : (s.monitor n.source).taking = true) :
    verticalSyncAt n.source s = syncOpens n.source { syncCloses n.source s with reports := [] } := by
  have hsettle := (syncCloses_moves n s).settle_of hs (by decide) hc
  rw [verticalSyncAt_opens ht, hsettle]
  rw [hsettle, State.monitor]
  change (((syncCloses n.source s).monitors).at n.source).taking = true
  rw [syncCloses_monitors, closedMonitors_taking]
  exact ht

theorem syncOpens_monitors (src : Source) (s : State) :
    (syncOpens src s).monitors = s.monitors.put src { s.monitor src with field := some ⟨s.now, 0⟩ } :=
  (fieldOpens_same ..).same .monitors (by decide)

theorem verticalSyncAt_monitors (hs : Settled s) (hc : s.co.current ≠ some n)
    (ht : (s.monitor n.source).taking = true) :
    (verticalSyncAt n.source s).monitors =
      (closedMonitors n.source s.now s.monitors).put n.source
        { (closedMonitors n.source s.now s.monitors).at n.source with field := some ⟨s.now, 0⟩ } := by
  have hnow : (syncCloses n.source s).now = s.now := (syncCloses_same ..).same .now (by decide)
  rw [verticalSyncAt_slot hs hc ht, syncOpens_monitors, ← syncCloses_monitors, ← hnow]
  rfl

/-- The part with the slot's open field closed in the frame store alone. -/
def storeClosed (n : Slot) (s : State) : State :=
  match (s.monitor n.source).field with
  | none => s
  | some f => fieldCloses n.source (fieldAccepted (s.now - f.start) f.lines) s

/-- The frame store, the slots and the conditioner take the sync as the monitor does not matter to them. -/
theorem syncCloses_store (n : Slot) (s : State) : SameStore (storeClosed n s) (syncCloses n.source s) := by
  have hcloses (accepted : Bool) : SameStore (fieldCloses n.source accepted s) (closeField n.source accepted s) :=
    SameStore.closes (s := s) (t := s.setMonitor n.source { s.monitor n.source with field := none })
      ⟨rfl, rfl, rfl, rfl, rfl, rfl⟩ n.source accepted
  unfold storeClosed
  split
  · next hf =>
    rw [syncCloses_idle hf]
    exact ⟨rfl, rfl, rfl, rfl, rfl, rfl⟩
  · next f hf =>
    cases ha : fieldAccepted (s.now - f.start) f.lines with
    | false =>
      rw [syncCloses_rejects hf ha]
      exact hcloses false
    | true =>
      rw [syncCloses_accepts hf ha (by rfl)]
      obtain ⟨hframe, hslots, hpic, hcounters, hnow, hprofiles⟩ := hcloses true
      have happly := (applyMonitor_moves (n := n) (Monitor.acceptField { s.monitor n.source with field := none } s.now
        (s.now - f.start) f.lines).1 (Monitor.acceptField { s.monitor n.source with field := none } s.now
        (s.now - f.start) f.lines).2 (closeField n.source true s)).same
      exact ⟨(happly.same .frame (by decide) :).trans hframe, (happly.same .slots (by decide) :).trans hslots,
        (happly.same .pic (by decide) :).trans hpic, (happly.same .counters (by decide) :).trans hcounters,
        (happly.same .now (by decide) :).trans hnow, (happly.same .profiles (by decide) :).trans hprofiles⟩

theorem verticalSyncAt_store (hs : Settled s) (hc : s.co.current ≠ some n) (ht : (s.monitor n.source).taking = true) :
    SameStore (fieldOpens n.source (storeClosed n s)) (verticalSyncAt n.source s) := by
  obtain ⟨hframe, hslots, hpic, hcounters, hnow, hprofiles⟩ := syncCloses_store n s
  rw [verticalSyncAt_slot hs hc ht]
  exact SameStore.opens (t := { syncCloses n.source s with
    reports := []
    monitors := (syncCloses n.source s).monitors.put n.source
      { (syncCloses n.source s).monitor n.source with field := some ⟨(syncCloses n.source s).now, 0⟩ } })
    ⟨hframe, hslots, hpic, hcounters, hnow, hprofiles⟩ n.source

theorem verticalSyncAt_slot_same (hs : Settled s) (hc : s.co.current ≠ some n)
    (ht : (s.monitor n.source).taking = true) :
    SameOutside [.link, .counters, .slots, .monitors, .frame, .pic] s (verticalSyncAt n.source s) := by
  rw [verticalSyncAt_slot hs hc ht]
  exact ((syncOpens_same ..).mono (by decide)).after ((syncCloses_moves n s).cleared hs (by decide)) (fun _ h => h)

end

end Sys2Proof.Machine

/-! ### O26 -/

namespace Sys2Proof.Machine

/-- A line sync of a source with a buffer being filled (R105). -/
theorem lineSyncAt_captures {src : Source} {s : State} {video : List (Nat × RGB)} {f : OpenField} {b : Fin 3}
    (ht : (s.monitor src).taking = true) (hf : (s.monitor src).field = some f) (hb : fillingFrom src s = some b) :
    lineSyncAt src video s =
      { s with
        monitors := s.monitors.put src { s.monitor src with field := some ⟨f.start, min 701 (f.lines + 1)⟩ }
        frame := if (s.buffer b).window.firstLine ≤ f.lines ∧
            f.lines < (s.buffer b).window.firstLine + (s.buffer b).window.activeLines then
          { s.frame with
            buffers := s.frame.buffers.put b { s.buffer b with
              lines := (s.buffer b).lines ++
                [captureSamples (s.buffer b).window (linePeriodOf (s.monitor src)) video] } }
        else s.frame } := by
  rw [lineSyncAt_counts ht hf, captureLine_some hb]
  split <;> rfl

/-- Settles O26: the opening by the buffer taken, the closing by its verdict, and the two syncs. -/
theorem lineSyncCountsAndCaptures : Obligations.LineSyncCountsAndCaptures := by
  refine ⟨fun src s => ?_, fun src accepted s => ?_, fun dt n s hp hs hc ht => ?_, fun dt src video s hp => ?_⟩
  · intro u
    refine ⟨fun h => ?_, fun n w hwriter hsrc hw hf => ?_⟩
    · rcases h with h | ⟨b, hb⟩
      · exact fieldOpens_elsewhere h
      · change fieldOpens src s = s
        unfold fieldOpens
        split
        · rw [takeForField_filling hb, ite_self]
        · rfl
    · subst hsrc
      have hopens : u = takeForField n s := fieldOpens_writer hwriter
      rw [hopens]
      refine ⟨fun b hb hlow => ?_, fun b x hfree hb hx hold => ?_⟩
      · rw [takeForField_free hw hf hb hlow]
        exact ⟨rfl, State.setBuffer_same ..⟩
      · have hdrops := takeForField_drops (n := n) hw hf hfree hb hx hold
        have hsame := increment_same framesDropped (s.setBuffer b (filledBuffer n w))
        rw [hdrops]
        exact ⟨hsame.same .frame (by decide), increment_counters_congr _ rfl,
          (hsame.mono (by decide)).after ((State.setBuffer_same ..).mono (by decide)) (fun _ h => h)⟩
  · intro u
    refine ⟨fun h => fieldCloses_none (fillingFrom_none h) accepted, fun b n hb hone hsource hsrc => ?_⟩
    intro x all bits sig
    have hfill : fillingFrom src s = some b := fillingFrom_some hb hone (by rw [hsource, ← hsrc]; rfl)
    refine ⟨fun ha => ?_, fun hkept haccepted => ?_⟩
    · have hu : u = s.setBuffer b .free := fieldCloses_frees hfill ha
      rw [hu]
      exact ⟨rfl, State.setBuffer_same ..⟩
    · subst haccepted
      have hall : completeLines (s.buffer b) = all := rfl
      have hsig : signatureOf (completeLines (s.buffer b)) = sig := (signatureOf_eq _).trans rfl
      have hu : u = reportReady n sig (fieldStored b s) := by
        rw [← hsig, ← makeReady_eq hsource]
        exact fieldCloses_stores hfill hkept
      obtain ⟨hframe, hslots, hreports, hsame⟩ := reportReady_spec n sig (fieldStored b s)
      have hstored : (fieldStored b s).frame = { s.frame with
          buffers := s.frame.buffers.put b { x with
            state := .ready, seq := some s.frame.nextSeq, signature := some sig, lines := all }
          nextSeq := s.frame.nextSeq + 1 } := by
        rw [← hsig]
        rfl
      have hset : SameOutside [.frame] s (fieldStored b s) := (State.setBuffer_same ..).with_frame (by decide)
      rw [hu]
      exact ⟨hframe.trans hstored, hslots, hreports, (hsame.mono (by decide)).after (hset.mono (by decide)) (fun _ h => h)⟩
  · intro base closed w
    have hclosed : closed = storeClosed n base := by
      simp only [closed, storeClosed]
      rfl
    have hstore := verticalSyncAt_store (n := n) (s := s.tick dt) hs hc ht
    have hmonitors := verticalSyncAt_monitors (n := n) (s := s.tick dt) hs hc ht
    have hsame := verticalSyncAt_slot_same (n := n) (s := s.tick dt) hs hc ht
    have hw : w = fieldOpens n.source (storeClosed n (s.tick dt)) := congrArg (fieldOpens n.source) hclosed
    rw [← hw] at hstore
    obtain ⟨hframe, hslots, hpic, hcounters, -, -⟩ := hstore
    refine ⟨_, exec_verticalSync hp, hsame.same .now (by decide), hframe, hslots, hcounters, hpic, fun v hv => ?_,
      (hsame.mono (by decide)).after ((State.tick_same ..).mono (by decide)) (fun _ h => h)⟩
    have hinitial := verticalSyncAt_monitors (n := n) (s := ({ s with frame := .initial } : State).tick dt) hs hc ht
    rw [exec_verticalSync (s := { s with frame := .initial }) hp] at hv
    obtain rfl := Host.Outcome.next.inj hv
    have hconclude := (conclude_same (verticalSyncAt n.source (({ s with frame := .initial } : State).tick dt))).same
      .monitors (by decide)
    rw [hmonitors]
    exact (hconclude.trans hinitial).symm
  · intro m
    refine ⟨fun h => ?_, fun f ht hf => ?_⟩
    · rw [exec_lineSync hp, lineSyncAt_untaken (by exact h)]
      rfl
    · intro counted
      refine ⟨fun h => ?_, fun b hb hone hsource => ?_⟩
      · rw [exec_lineSync hp, lineSyncAt_counts (by exact ht) (by exact hf),
          captureLine_none (fillingFrom_none (by exact h))]
        rfl
      · intro x w H sampled
        have hsamples : captureSamples w (linePeriodOf m) video = (List.range w.activeSamples).map sampled := by
          refine List.map_congr_left fun i _ => ?_
          simp only [levelAt_eq]
          rfl
        have hcaptures := lineSyncAt_captures (src := src) (s := s.tick dt) (video := video) (b := b) ht hf
          (fillingFrom_some hb hone hsource)
        rw [exec_lineSync hp, hcaptures, ← hsamples]
        rfl

end Sys2Proof.Machine

/-! ### The output decision and the start of an output field (O33) -/

namespace Sys2Proof.Machine

/-! #### The output decision (R117) -/

section
variable {n : Slot} {s : State}

theorem decision_unlocked (h : (s.monitor n.source).state.hasLock = false) : decision n s = none := by
  unfold decision
  dsimp only
  rw [h]

theorem decision_locked {f : Nat} {cls : OutClass} (h : (s.monitor n.source).state.hasLock = true)
    (hf : (s.monitor n.source).fref = some f) (hc : (s.monitor n.source).cls.output = some cls) :
    decision n s =
      if (s.profile n).general.expectedClass.isSome && (s.profile n).general.expectedClass != some cls then none
      else decideFor n (s.profile n).picture.follow s.cabinet cls f := by
  unfold decision
  dsimp only
  rw [h, hf, hc]

/-- The signal's rate lies in the range that is followed, and is followed for the slot. -/
def follows (follow : Bool) (c : Cabinet) (f : Nat) : Bool := c.multisync && follow && inFollowRange c f

theorem follows_iff (follow : Bool) (c : Cabinet) (f : Nat) :
    follows follow c f = true ↔
      c.multisync = true ∧ follow = true ∧ c.followMin ≤ (2700000000 + f / 2) / f ∧
        (2700000000 + f / 2) / f ≤ c.followMax := by
  rw [follows, inFollowRange, fieldRateOf]
  simp only [Bool.and_eq_true, decide_eq_true_eq, and_assoc]

section
variable {follow : Bool} {c : Cabinet} {cls : OutClass} {f : Nat}

theorem decideFor_follows (h : follows follow c f = true) :
    decideFor n follow c cls f = some ⟨true, cls, some n, false⟩ := if_pos h

theorem decideFor_home (h : ¬follows follow c f = true) (hc : cls = c.homeClass) :
    decideFor n follow c cls f = some ⟨false, c.homeClass, none, false⟩ := (if_neg h).trans (if_pos hc)

theorem decideFor_doubled (h : ¬follows follow c f = true) (hc : cls = .low) (hh : c.homeClass = .high) :
    decideFor n follow c cls f = some ⟨false, .high, none, true⟩ :=
  ((if_neg h).trans (if_neg (by rw [hc, hh]; decide))).trans (if_pos ⟨hc, hh⟩)

theorem decideFor_mismatch (h : ¬follows follow c f = true) (hc : cls ≠ c.homeClass)
    (hd : ¬(cls = .low ∧ c.homeClass = .high)) : decideFor n follow c cls f = none :=
  ((if_neg h).trans (if_neg hc)).trans (if_neg hd)

end

theorem fits_iff : fits n s = true ↔ ∃ d, decision n s = some d ∧ needsRetime d s = false := by
  unfold fits
  cases decision n s with
  | none => simp
  | some d => simp

end

/-! #### When a decision needs a retime (R118) -/

section
variable {d : Decision} {s : State}

theorem needsRetime_pace (h : d.pass = false) :
    needsRetime d s = true ↔ s.out.pass = true ∨ d.cls ≠ s.out.cls := by
  unfold needsRetime
  rw [h]
  cases s.out.pass <;> simp

theorem needsRetime_pass {n : Slot} {f : Nat} (h : d.pass = true) (hn : d.slaved = some n)
    (hf : (s.monitor n.source).fref = some f) :
    needsRetime d s = true ↔
      s.out.pass = false ∨ d.cls ≠ s.out.cls ∨ s.out.fout / 128 < ((f : Int) - s.out.fout).natAbs := by
  have hfref : d.fref s = f := by
    rw [Decision.fref, hn]
    exact congrArg (Option.getD · 0) hf
  unfold needsRetime
  rw [h, hfref, absDiff_eq]
  cases s.out.pass <;> simp

end

/-! #### The start of an output field (R107, R114, R125, R128) -/

theorem exec_outputFieldStart {s : State} (h : s.powered = true) :
    exec .outputFieldStart s = .next (conclude (settle (fieldStart (s.reach s.out.nextStart)))) :=
  event_powered h outputFieldStarts

/-- The conditioner after a fade step (R128). -/
def fadedPic (now : Nat) (p : Conditioner) : Conditioner :=
  p.fade.elim p fun f =>
    { p with
      level := f.levelAt (now - f.start) (ms f.duration)
      fade := if f.levelAt (now - f.start) (ms f.duration) = f.target then none else some f }

theorem stepPictureFade_eq (s : State) : stepPictureFade s = { s with pic := fadedPic s.now s.pic } := by
  unfold stepPictureFade fadedPic
  cases s.pic.fade <;> rfl

/-- What an output field start does after the reader has acted. -/
def fieldFixed (s : State) : State :=
  let u := fixField (refreshDim { s with pic := fadedPic s.now s.pic })
  { u with out := { u.out with nextStart := u.now + u.out.fout } }

theorem fieldStart_eq (s : State) : fieldStart s = fieldFixed (readerStart (followSource s)) := by
  unfold fieldStart
  dsimp only
  rw [stepPictureFade_eq]
  rfl

theorem fieldFixed_same (s : State) : SameOutside [.out, .pic] s (fieldFixed s) :=
  ((((SameOutside.refl _ s).with_pic (by decide)).with_pic (by decide)).with_pic (by decide)).with_out (by decide)

theorem fieldFixed_faded (s : State) :
    (fieldFixed s).pic.level = (fadedPic s.now s.pic).level ∧ (fieldFixed s).pic.fade = (fadedPic s.now s.pic).fade :=
  ⟨rfl, rfl⟩

/-- What is fixed for the field, apart from the picture shown (R125). -/
theorem fieldFixed_field (s : State) :
    let u := fieldFixed s
    u.pic.field.shown = shownNow s ∧ u.pic.field.fade = u.pic.level ∧ u.pic.field.pass = s.out.pass ∧
      u.pic.field.cls = s.out.cls ∧ u.pic.field.lineCount = s.out.lineCount ∧ u.pic.field.overlay = s.pic.overlay ∧
      u.pic.field.menuPresent = s.pic.menuPresent ∧ u.pic.field.standbyColour = s.cabinet.standbyColour ∧
      u.pic.dim = (if s.pic.dimmed then s.cabinet.dimLevel else 256) ∧ u.pic.field.dim = u.pic.dim := by
  cases hf : s.pic.fade <;> simp only [fieldFixed, fadedPic, hf, Option.elim] <;> exact
    ⟨rfl, rfl, rfl, rfl, rfl, rfl, rfl, rfl, rfl, rfl⟩

/-- The fade step leaves the rest of the conditioner alone. -/
theorem fieldFixed_kept (s : State) :
    let u := fieldFixed s
    u.pic.overlay = s.pic.overlay ∧ u.pic.watched = s.pic.watched ∧ u.pic.stillTimer = s.pic.stillTimer ∧
      u.pic.dimmed = s.pic.dimmed := by
  cases hf : s.pic.fade <;> simp only [fieldFixed, fadedPic, hf, Option.elim] <;> exact ⟨rfl, rfl, rfl, rfl⟩

theorem fieldFixed_buffer {n : Slot} {q : Word16} {w : Window} {lines : List (List RGB)} {s : State}
    (h : shownNow s = .buffer n q w lines) :
    (fieldFixed s).pic.field.colours = (s.profile n).picture.colours ∧
      (fieldFixed s).pic.field.placement = s.frame.placements.at n := by
  have hcolours : (fieldFixed s).pic.field.colours = coloursOf (shownNow s) { s with pic := fadedPic s.now s.pic } := rfl
  have hplacement : (fieldFixed s).pic.field.placement =
      placementOf (shownNow s) { s with pic := fadedPic s.now s.pic } := rfl
  rw [hcolours, hplacement, h]
  exact ⟨rfl, rfl⟩

/-! #### The reader at rest (R107) -/

section
variable {s : State}

theorem followSource_pace (h : s.out.pass = false) : followSource s = s := by
  unfold followSource
  rw [h]

theorem readerStart_stopped (h : s.frame.blank = true ∨ s.frame.hold = true) : readerStart s = s :=
  if_pos (Bool.or_eq_true_iff.2 h)

theorem readerStart_none (h : s.frame.reader = none) : readerStart s = s := by
  unfold readerStart
  split
  · rfl
  · rw [h]

theorem shownNow_blank (h : s.frame.blank = true) : shownNow s = .black := if_pos h

theorem shownNow_hold (hb : s.frame.blank = false) (h : s.frame.hold = true) : shownNow s = shownBuffer s :=
  (if_neg (by rw [hb]; exact Bool.false_ne_true)).trans (if_pos (by rw [h]; rfl))

theorem shownNow_standby (hb : s.frame.blank = false) (h : s.frame.hold = false) (hr : s.frame.reader = none) :
    shownNow s = .standby :=
  (if_neg (by rw [hb]; exact Bool.false_ne_true)).trans (if_neg (by rw [h, hr]; exact Bool.false_ne_true))

theorem shownBuffer_none (h : ∀ b, (s.buffer b).state ≠ .showing) : shownBuffer s = .standby := by
  rw [shownBuffer, findBuffer_absent h]

theorem shownBuffer_some {b : Fin 3} {n : Slot} {q : Word16} (hb : (s.buffer b).state = .showing)
    (hone : ∀ c, (s.buffer c).state = .showing → c = b) (hn : (s.buffer b).source = some n)
    (hq : (s.buffer b).seq = some q) :
    shownBuffer s = .buffer n q (s.buffer b).window (s.buffer b).lines := by
  rw [shownBuffer, findBuffer_unique hb hone]
  dsimp only
  rw [hn, hq]

end

end Sys2Proof.Machine

/-! ### O33 -/

namespace Sys2Proof.Machine

theorem fadedPic_none {now : Nat} {p : Conditioner} (h : p.fade = none) : fadedPic now p = p := by
  rw [fadedPic, h]
  rfl

theorem fadedPic_some {now : Nat} {p : Conditioner} {f : Fade} (h : p.fade = some f) :
    (fadedPic now p).level = f.levelAt (now - f.start) (ms f.duration) ∧
      ((fadedPic now p).fade = none ↔ (fadedPic now p).level = f.target) := by
  rw [fadedPic, h]
  refine ⟨rfl, ?_⟩
  change (if f.levelAt (now - f.start) (ms f.duration) = f.target then none else some f) = none ↔
    f.levelAt (now - f.start) (ms f.duration) = f.target
  split <;> simp_all

theorem fieldStart_stopped {s : State} (hp : s.out.pass = false)
    (hr : s.frame.blank = true ∨ s.frame.hold = true ∨ s.frame.reader = none) : fieldStart s = fieldFixed s := by
  rw [fieldStart_eq, followSource_pace hp]
  rcases hr with hb | hh | hr
  · rw [readerStart_stopped (.inl hb)]
  · rw [readerStart_stopped (.inr hh)]
  · rw [readerStart_none hr]

theorem settle_fieldFixed {s : State} (hs : Settled s) : settle (fieldFixed s) = fieldFixed s := settle_settled hs

/-- The output decision of a locked slot, case by case (R117). -/
theorem decision_cases (n : Slot) (s : State) (f : Nat) (cls : OutClass)
    (hst : (s.monitor n.source).state = .locked ∨ (s.monitor n.source).state = .weak)
    (hf : (s.monitor n.source).fref = some f) (hc : (s.monitor n.source).cls.output = some cls) :
    let rate := (2700000000 + f / 2) / f
    let follows : Prop := s.cabinet.multisync = true ∧ (s.profile n).picture.follow = true ∧
      s.cabinet.followMin ≤ rate ∧ rate ≤ s.cabinet.followMax
    ((s.profile n).general.expectedClass ≠ none → (s.profile n).general.expectedClass ≠ some cls →
      decision n s = none) ∧
    ((s.profile n).general.expectedClass = none ∨ (s.profile n).general.expectedClass = some cls →
      (follows → decision n s = some ⟨true, cls, some n, false⟩) ∧
      (¬follows → cls = s.cabinet.homeClass → decision n s = some ⟨false, s.cabinet.homeClass, none, false⟩) ∧
      (¬follows → cls = .low → s.cabinet.homeClass = .high → decision n s = some ⟨false, .high, none, true⟩) ∧
      (¬follows → cls ≠ s.cabinet.homeClass → ¬(cls = .low ∧ s.cabinet.homeClass = .high) → decision n s = none)) := by
  intro rate follows
  have hlock : (s.monitor n.source).state.hasLock = true := by
    rcases hst with h | h <;> rw [h] <;> rfl
  have hdecision := decision_locked hlock hf hc
  have hfollows : Machine.follows (s.profile n).picture.follow s.cabinet f = true ↔ follows := follows_iff ..
  refine ⟨fun hsome hne => ?_, fun hexpected => ?_⟩
  · rw [hdecision, if_pos]
    rw [Bool.and_eq_true, bne_iff_ne]
    exact ⟨Option.isSome_iff_ne_none.2 hsome, hne⟩
  · rw [if_neg] at hdecision
    · rw [hdecision]
      exact ⟨fun h => decideFor_follows (hfollows.2 h), fun h => decideFor_home fun hf => h (hfollows.1 hf),
        fun h => decideFor_doubled fun hf => h (hfollows.1 hf), fun h => decideFor_mismatch fun hf => h (hfollows.1 hf)⟩
    · rcases hexpected with h | h <;> simp [h]

/-- Settles O33: the decision by the monitor and the settings, the field start by the flags. -/
theorem outputFieldStartFixesTheField : Obligations.OutputFieldStartFixesTheField := by
  refine ⟨fun n s => ⟨fun h => decision_unlocked ?_, fun f cls hst hf hc => decision_cases n s f cls hst hf ?_, rfl, rfl,
    Option.isSome_iff_ne_none, fits_iff⟩, fun d s => ⟨needsRetime_pace, fun n f => needsRetime_pass⟩,
    fun s hp hs hpass hr => ?_⟩
  · rcases h with h | h <;> rw [h] <;> rfl
  · rcases hc with ⟨hc, rfl⟩ | ⟨hc, rfl⟩ | ⟨hc, rfl⟩ <;> rw [hc] <;> rfl
  · have hexec := exec_outputFieldStart hp
    rw [fieldStart_stopped (s := s.reach s.out.nextStart) hpass hr, settle_fieldFixed (s := s.reach s.out.nextStart) hs] at hexec
    obtain ⟨hlevel, hfade⟩ := fieldFixed_faded (s.reach s.out.nextStart)
    obtain ⟨hshown, hfaded, hpassed, hcls, hcount, hoverlay, hmenu, hcolour, hdim, hfdim⟩ :=
      fieldFixed_field (s.reach s.out.nextStart)
    obtain ⟨hkoverlay, hwatched, hstill, -⟩ := fieldFixed_kept (s.reach s.out.nextStart)
    refine ⟨_, hexec, rfl, rfl, fun h => ?_, fun f h => ?_, fun hb => ?_, fun hb hh hno => ?_,
      fun b n q hb hh hst hone hn hq => ?_, fun hb hh => ?_, hfaded, hpassed.trans hpass, hcls, hcount, hoverlay, hmenu, hcolour,
      hdim, hfdim, hkoverlay, hwatched, hstill, ?_⟩
    · rw [hlevel, hfade, fadedPic_none (by exact h)]
      exact ⟨rfl, h⟩
    · obtain ⟨hl, hiff⟩ := fadedPic_some (now := (s.reach s.out.nextStart).now) (p := (s.reach s.out.nextStart).pic) h
      rw [hfade, hlevel]
      exact ⟨hl.trans (by rw [Fade.levelAt, ms, Nat.mul_comm f.duration]; rfl), hiff⟩
    · exact hshown.trans (shownNow_blank hb)
    · exact hshown.trans ((shownNow_hold hb hh).trans (shownBuffer_none hno))
    · have hbuffer : shownNow (s.reach s.out.nextStart) = .buffer n q (s.buffer b).window (s.buffer b).lines :=
        (shownNow_hold hb hh).trans (shownBuffer_some hst hone hn hq)
      obtain ⟨hcolours, hplacement⟩ := fieldFixed_buffer hbuffer
      exact ⟨hshown.trans hbuffer, hcolours, hplacement⟩
    · have hnone : s.frame.reader = none := by
        rcases hr with h | h | h
        · exact absurd (hb.symm.trans h) Bool.false_ne_true
        · exact absurd (hh.symm.trans h) Bool.false_ne_true
        · exact h
      exact hshown.trans (shownNow_standby hb hh hnone)
    · exact ((fieldFixed_same _).mono (by decide)).after ((State.reach_same ..).mono (by decide)) (fun _ h => h)

end Sys2Proof.Machine

/-! ### The output reader (R107 to R111) -/

namespace Sys2Proof.Machine

/-! #### The buffers of a slot (R101) -/

section
variable {n : Slot} {s : State}

theorem mem_readyBuffers_of (b : Fin 3) :
    b ∈ readyBuffers (some n) s ↔ (s.buffer b).state = .ready ∧ (s.buffer b).source = some n := by
  simp [readyBuffers, mem_allBuffers]

theorem readyBuffers_none (h : ∀ b, (s.buffer b).state = .ready → (s.buffer b).source ≠ some n) :
    readyBuffers (some n) s = [] :=
  List.eq_nil_iff_forall_not_mem.2 fun b hb => by
    obtain ⟨hready, hsource⟩ := (mem_readyBuffers_of b).1 hb
    exact h b hready hsource

/-- Buffer `b`, with sequence number `x`, is newer than every other buffer of the list. -/
def NewestIn (l : List (Fin 3)) (b : Fin 3) (x : Word16) (s : State) : Prop :=
  (s.buffer b).seq = some x ∧
    ∀ d, d ≠ b → d ∈ l → ∃ y, (s.buffer d).seq = some y ∧ 1 ≤ (x - y).toNat ∧ (x - y).toNat ≤ 32767

theorem NewestIn.mono {l l' : List (Fin 3)} {b : Fin 3} {x : Word16} (h : NewestIn l b x s) (hl : ∀ d ∈ l', d ∈ l) :
    NewestIn l' b x s := ⟨h.1, fun d hd hm => h.2 d hd (hl d hm)⟩

theorem NewestIn.newerThan {l : List (Fin 3)} {b d : Fin 3} {x : Word16} (h : NewestIn l b x s) (hd : d ≠ b)
    (hm : d ∈ l) : (s.buffer b).newerThan (s.buffer d) = true := by
  obtain ⟨y, hy, hlow, hhigh⟩ := h.2 d hd hm
  rw [Buffer.newerThan, h.1, hy]
  exact newer_of hlow hhigh

theorem newestOf_eq {l : List (Fin 3)} {b : Fin 3} {x : Word16} (hb : b ∈ l) (h : NewestIn l b x s) :
    newestOf l s = some b := by
  refine find?_unique hb (List.all_eq_true.2 fun c hc => ?_) fun c hc hall => ?_
  · by_cases heq : c = b
    · simp [heq]
    · rw [h.newerThan heq hc, Bool.or_true]
  · by_contra hne
    have hback := List.all_eq_true.1 hall b hb
    obtain ⟨hx, hall⟩ := h
    obtain ⟨y, hy, hlow, hhigh⟩ := hall c hne hc
    rw [Bool.or_eq_true, beq_iff_eq, Buffer.newerThan, hy, hx] at hback
    exact hback.elim (fun h => hne h.symm) fun h =>
      Bool.false_ne_true ((newer_asymm (newer_of hlow hhigh)).symm.trans h)

theorem newestOf_nil (s : State) : newestOf [] s = none := rfl

/-! #### A buffer shown (R108 to R111) -/

/-- The reader has shown buffer `b`: every older READY buffer and the one shown before are free. -/
structure Shows (b : Fin 3) (s t : State) : Prop where
  self : t.buffer b = { s.buffer b with state := .showing }
  shown : ∀ d, d ≠ b → (s.buffer d).state = .showing → t.buffer d = .free
  older : ∀ d, d ≠ b → (s.buffer d).state = .ready → (s.buffer b).newerThan (s.buffer d) = true → t.buffer d = .free
  filling : ∀ d, d ≠ b → (s.buffer d).state = .filling → t.buffer d = s.buffer d

theorem showBuffer_shows (b : Fin 3) (s : State) : Shows b s (showBuffer b s) := by
  refine ⟨?_, fun d hd hst => ?_, fun d hd hst hn => ?_, fun d hd hst => ?_⟩ <;> refine (Tab.at_ofFn ..).trans ?_ <;>
    dsimp only
  · rw [if_pos rfl]
  · rw [if_neg hd, hst]
  · rw [if_neg hd, hst]
    exact if_pos hn
  · rw [if_neg hd, hst]

theorem Shows.congr {b : Fin 3} {s s' t t' : State} (h : Shows b s t) (hs : s'.frame.buffers = s.frame.buffers)
    (ht : t'.frame.buffers = t.frame.buffers) : Shows b s' t' := by
  have hbs (c : Fin 3) : s'.buffer c = s.buffer c := by rw [State.buffer, hs]; rfl
  have hbt (c : Fin 3) : t'.buffer c = t.buffer c := by rw [State.buffer, ht]; rfl
  obtain ⟨hself, hshown, holder, hfilling⟩ := h
  refine ⟨by rw [hbt, hbs, hself], fun d hd hst => ?_, fun d hd hst hn => ?_, fun d hd hst => ?_⟩
  · rw [hbt]
    exact hshown d hd (by rw [← hbs]; exact hst)
  · rw [hbt]
    exact holder d hd (by rw [← hbs]; exact hst) (by rw [← hbs, ← hbs]; exact hn)
  · rw [hbt, hbs]
    exact hfilling d hd (by rw [← hbs]; exact hst)

/-! #### The reader, case by case (R107) -/

/-- The reader with Fin brought up to date. -/
def refreshed (n : Slot) (s : State) : State :=
  { s with frame := { s.frame with fin := ((s.monitor n.source).fref).or s.frame.fin } }

/-- The reader of a slot acts: neither blank nor held, and no changeover on its way to REVEAL. -/
structure Reading (n : Slot) (s : State) : Prop where
  blank : s.frame.blank = false
  hold : s.frame.hold = false
  reader : s.frame.reader = some n

theorem readerStart_reads (h : Reading n s) :
    readerStart s =
      if awaitsReveal n s then refreshed n s
      else if s.frame.firstTake then firstTake n (refreshed n s)
      else if s.frame.writer ≠ some n then refreshed n s
      else if s.out.pass then readPass n (refreshed n s)
      else readPace n (refreshed n s) := by
  obtain ⟨hb, hh, hr⟩ := h
  have hrefresh : refreshFin s = refreshed n s := by
    rw [refreshFin, hr]
    rfl
  unfold readerStart
  rw [if_neg (by rw [hb, hh]; exact Bool.false_ne_true), hr]
  dsimp only
  rw [hrefresh]
  rfl

theorem awaitsReveal_idle (h : s.co.record = none) : awaitsReveal n s = false := by
  rw [awaitsReveal, h]

/-- The reader of a slot with no changeover in flight. -/
theorem readerStart_idle (h : Reading n s) (hr : s.co.record = none) :
    readerStart s =
      if s.frame.firstTake then firstTake n (refreshed n s)
      else if s.frame.writer ≠ some n then refreshed n s
      else if s.out.pass then readPass n (refreshed n s)
      else readPace n (refreshed n s) := by
  rw [readerStart_reads h, awaitsReveal_idle hr]
  exact if_neg Bool.false_ne_true

theorem firstTake_none (h : ∀ b, (s.buffer b).state = .ready → (s.buffer b).source ≠ some n) : firstTake n s = s := by
  rw [firstTake, readyBuffers_none h, newestOf_nil]

theorem firstTake_some {b : Fin 3} (h : newestOf (readyBuffers (some n) s) s = some b) :
    firstTake n s = { showBuffer b s with frame := { (showBuffer b s).frame with firstTake := false } } := by
  rw [firstTake, h]

/-- Nothing READY is newer than what is shown where nothing is READY. -/
theorem newerThanShown_nil (h : ∀ b, (s.buffer b).state ≠ .ready) : newerThanShown n s = [] := by
  unfold newerThanShown
  split
  · rfl
  · rw [readyBuffers_none fun b hb => absurd hb (h b)]
    rfl

theorem mem_newerThanShown {b c : Fin 3} (hc : findBuffer .showing s = some c) :
    b ∈ newerThanShown n s ↔
      ((s.buffer b).state = .ready ∧ (s.buffer b).source = some n) ∧
        (s.buffer b).newerThan (s.buffer c) = true := by
  rw [newerThanShown, hc]
  dsimp only
  rw [List.mem_filter, mem_readyBuffers_of]

/-- The newest READY buffer of the slot, where it is newer than what is shown. -/
theorem newestOf_newerThanShown {b c : Fin 3} {x q : Word16} (hc : (s.buffer c).state = .showing)
    (hone : ∀ d, (s.buffer d).state = .showing → d = c) (hq : (s.buffer c).seq = some q)
    (hb : (s.buffer b).state = .ready) (hn : (s.buffer b).source = some n) (hlow : 1 ≤ (x - q).toNat)
    (hhigh : (x - q).toNat ≤ 32767) (hnew : NewestIn (readyBuffers none s) b x s) :
    newestOf (newerThanShown n s) s = some b := by
  have hfind := findBuffer_unique hc hone
  refine newestOf_eq ((mem_newerThanShown hfind).2 ⟨⟨hb, hn⟩, ?_⟩) (hnew.mono fun d hd => ?_)
  · rw [Buffer.newerThan, hnew.1, hq]
    exact newer_of hlow hhigh
  · exact (mem_readyBuffers d).2 ((mem_newerThanShown hfind).1 hd).1.1

theorem readPass_repeats (h : ∀ b, (s.buffer b).state ≠ .ready) : readPass n s = increment framesRepeated s := by
  rw [readPass, newerThanShown_nil h, newestOf_nil]

theorem readPass_shows {b : Fin 3} (h : newestOf (newerThanShown n s) s = some b) : readPass n s = showBuffer b s := by
  rw [readPass, h]

/-! #### The accumulator (R110, R111) -/

/-- The accumulator replaced. -/
def setAcc (a : Nat) (s : State) : State := { s with frame := { s.frame with acc := a } }

theorem readPace_eq {fin : Nat} (h : s.frame.fin = some fin) :
    readPace n s =
      if (s.frame.acc + s.out.fout) / fin = 0 then setAcc ((s.frame.acc + s.out.fout) % fin) s
      else readAhead n ((s.frame.acc + s.out.fout) / fin) (setAcc ((s.frame.acc + s.out.fout) % fin) s) := by
  unfold readPace
  rw [h]
  rfl

theorem readPace_stays {fin : Nat} (h : s.frame.fin = some fin) (ha : s.frame.acc + s.out.fout < fin) :
    readPace n s = setAcc (s.frame.acc + s.out.fout) s := by
  rw [readPace_eq h, if_pos (Nat.div_eq_of_lt ha), Nat.mod_eq_of_lt ha]

theorem readPace_advances {fin : Nat} (h : s.frame.fin = some fin) (hfin : 0 < fin)
    (ha : fin ≤ s.frame.acc + s.out.fout) :
    readPace n s =
      readAhead n ((s.frame.acc + s.out.fout) / fin) (setAcc ((s.frame.acc + s.out.fout) % fin) s) := by
  rw [readPace_eq h, if_neg (Nat.div_pos ha hfin).ne']

/-- What the reader looks for when it advances by `k`. -/
theorem readAhead_target {c : Fin 3} {q : Word16} (k : Nat) (hc : (s.buffer c).state = .showing)
    (hone : ∀ d, (s.buffer d).state = .showing → d = c) (hq : (s.buffer c).seq = some q) :
    readAhead n k s =
      ((readyBuffers (some n) s).find? fun b => (s.buffer b).seq == some (q + BitVec.ofNat 16 k)).elim
        ((newestOf (newerThanShown n s) s).elim (halfFin (increment framesRepeated s)) fun b => halfFin (showBuffer b s))
        fun b => showBuffer b s := by
  have htarget : ((findBuffer .showing s).bind fun c => (s.buffer c).seq.map (· + BitVec.ofNat 16 k)) =
      some (q + BitVec.ofNat 16 k) := by
    rw [findBuffer_unique hc hone, Option.bind_some, hq]
    rfl
  unfold readAhead
  dsimp only
  rw [htarget]
  simp only [Option.isSome_some, Bool.true_and]
  cases (readyBuffers (some n) s).find? fun b => (s.buffer b).seq == some (q + BitVec.ofNat 16 k) with
  | some b => rfl
  | none => cases newestOf (newerThanShown n s) s <;> rfl

theorem readAhead_finds {b c : Fin 3} {q : Word16} {k : Nat} (hc : (s.buffer c).state = .showing)
    (hone : ∀ d, (s.buffer d).state = .showing → d = c) (hq : (s.buffer c).seq = some q)
    (hb : (s.buffer b).state = .ready) (hn : (s.buffer b).source = some n)
    (hseq : (s.buffer b).seq = some (q + BitVec.ofNat 16 k))
    (honly : ∀ d, (s.buffer d).state = .ready → (s.buffer d).seq = some (q + BitVec.ofNat 16 k) → d = b) :
    readAhead n k s = showBuffer b s := by
  rw [readAhead_target k hc hone hq, find?_unique ((mem_readyBuffers_of b).2 ⟨hb, hn⟩) (by simp [hseq])]
  · rfl
  · intro d hd hdseq
    exact honly d ((mem_readyBuffers_of d).1 hd).1 (by simpa using hdseq)

theorem readAhead_misses {c : Fin 3} {q : Word16} {k : Nat} (hc : (s.buffer c).state = .showing)
    (hone : ∀ d, (s.buffer d).state = .showing → d = c) (hq : (s.buffer c).seq = some q)
    (hnone : ∀ d, (s.buffer d).state = .ready → (s.buffer d).source = some n →
      (s.buffer d).seq ≠ some (q + BitVec.ofNat 16 k)) :
    readAhead n k s =
      (newestOf (newerThanShown n s) s).elim (halfFin (increment framesRepeated s)) fun b => halfFin (showBuffer b s) := by
  rw [readAhead_target k hc hone hq, List.find?_eq_none.2]
  · rfl
  · intro d hd hdseq
    obtain ⟨hready, hsource⟩ := (mem_readyBuffers_of d).1 hd
    exact hnone d hready hsource (by simpa using hdseq)

end

end Sys2Proof.Machine

/-! ### O34 -/

namespace Sys2Proof.Machine

/-! #### The source that Fout follows (R116) -/

/-- At an output field start Fout has followed its source; nothing else has changed but menu presence. -/
structure Followed (s t : State) : Prop where
  frame : t.frame = s.frame
  pace : s.out.pass = false → t = s
  pass : t.out.pass = s.out.pass
  fout : ∀ m f, s.out.pass = true → s.out.slaved = some m → (s.monitor m.source).fref = some f → t.out.fout = f
  kept : ∀ m, s.out.slaved = some m → (s.monitor m.source).fref = none → t.out.fout = s.out.fout
  nextStart : t.out.nextStart = s.out.nextStart
  settle : t.out.settle = s.out.settle
  same : SameOutside [.out, .pic, .snd] s t

theorem judgeMenu_out (s : State) : (judgeMenu s).out = s.out := (judgeMenu_same s).same .out (by decide)

theorem followSource_followed (s : State) : Followed s (followSource s) := by
  have hsame := followSource_same s
  refine ⟨hsame.same .frame (by decide), followSource_pace, ?_, fun m f hp hm hf => ?_, fun m hm hf => ?_, ?_, ?_, hsame⟩
  · unfold followSource
    split
    · split
      · split
        · rfl
        · rw [judgeMenu_out]
      · rfl
    · rfl
  · unfold followSource
    rw [hp, hm]
    dsimp only
    rw [hf]
    dsimp only
    split
    · next heq => exact heq.symm
    · rw [judgeMenu_out]
  · unfold followSource
    split
    · next k hp hk =>
      obtain rfl : m = k := Option.some.inj (hm.symm.trans hk)
      rw [hf]
    · rfl
  · unfold followSource
    split
    · split
      · split
        · rfl
        · rw [judgeMenu_out]
      · rfl
    · rfl
  · unfold followSource
    split
    · split
      · split
        · rfl
        · rw [judgeMenu_out]
      · rfl
    · rfl

/-! #### The field start with the reader at work -/

section
variable {n : Slot} {s : State}

/-- The part at an output field start, as the reader finds it. -/
def readerSees (s : State) : State := followSource (s.reach s.out.nextStart)

theorem readerSees_frame (s : State) : (readerSees s).frame = s.frame :=
  (followSource_followed (s.reach s.out.nextStart)).frame

theorem readerSees_same (s : State) : SameOutside [.now, .out, .pic, .snd] s (readerSees s) :=
  ((followSource_followed (s.reach s.out.nextStart)).same.mono (by decide)).after
    ((State.reach_same ..).mono (by decide)) (fun _ h => h)

theorem readerSees_pace (h : s.out.pass = false) : readerSees s = s.reach s.out.nextStart := followSource_pace h

theorem readerSees_buffer (b : Fin 3) : (readerSees s).buffer b = s.buffer b := by
  rw [State.buffer, readerSees_frame]
  rfl

theorem readerSees_fref (m : Slot) : ((readerSees s).monitor m.source).fref = (s.monitor m.source).fref := by
  have hmonitors : (readerSees s).monitors = s.monitors := (readerSees_same s).same .monitors (by decide)
  rw [State.monitor, hmonitors]
  rfl

theorem readerSees_reading (hb : s.frame.blank = false) (hh : s.frame.hold = false) (hr : s.frame.reader = some n) :
    Reading n (readerSees s) := by
  constructor <;> rw [readerSees_frame] <;> assumption

theorem readerSees_co (s : State) : (readerSees s).co = s.co := (readerSees_same s).same .co (by decide)

/-- The part after an output field start, before the controller acts. -/
def fieldShown (s : State) : State := fieldFixed (readerStart (readerSees s))

/-- What an output field start changes, given what the reader does. -/
theorem fieldShown_same {l L : List Block} (h : SameOutside l (readerSees s) (readerStart (readerSees s)))
    (hl : l ⊆ L) (hL : ([.now, .out, .pic, .snd] : List Block) ⊆ L) : SameOutside L s (fieldShown s) :=
  ((fieldFixed_same _).mono fun _ h => hL ((by decide : ([.out, .pic] : List Block) ⊆ _) h)).after
    ((h.mono hl).after ((readerSees_same s).mono hL) (fun _ h => h)) (fun _ h => h)

/-- What an output field start changes in PACE, given what the reader does. -/
theorem fieldShown_pace_same {l L : List Block} (hp : s.out.pass = false)
    (h : SameOutside l (readerSees s) (readerStart (readerSees s)))
    (hl : l ⊆ L) (hL : ([.now, .out, .pic] : List Block) ⊆ L) : SameOutside L s (fieldShown s) := by
  have hsees : SameOutside [.now] s (readerSees s) := by
    rw [readerSees_pace hp]
    exact State.reach_same ..
  exact ((fieldFixed_same _).mono fun _ h => hL ((by decide : ([.out, .pic] : List Block) ⊆ _) h)).after
    ((h.mono hl).after (hsees.mono fun _ h => hL ((by decide : ([.now] : List Block) ⊆ _) h)) (fun _ h => h))
    (fun _ h => h)

theorem exec_fieldShown (hp : s.powered = true) (hs : Settled s) :
    exec .outputFieldStart s = .next (conclude (fieldShown s)) := by
  have hsame : SameOutside [.now, .link, .counters, .frame, .out, .pic, .snd] s (fieldShown s) :=
    fieldShown_same (readerStart_same _) (by decide) (by decide)
  have hco : (fieldShown s).co = s.co := hsame.same .co (by decide)
  have hreports : (fieldShown s).reports = s.reports := hsame.same .reports (by decide)
  have hsettled : Settled (fieldShown s) := ⟨by rw [hco]; exact hs.1, by rw [hreports]; exact hs.2⟩
  rw [exec_outputFieldStart hp, fieldStart_eq]
  exact congrArg (fun u => Host.Outcome.next (conclude u)) (settle_settled hsettled)

theorem fieldShown_frame (s : State) : (fieldShown s).frame = (readerStart (readerSees s)).frame := rfl

theorem refreshed_same (n : Slot) (s : State) : SameOutside [.frame] s (refreshed n s) :=
  (SameOutside.refl _ s).with_frame (by decide)

theorem refreshed_fin {fin : Nat} (h : (s.monitor n.source).fref = some fin) : (refreshed n s).frame.fin = some fin := by
  change ((s.monitor n.source).fref).or s.frame.fin = some fin
  rw [h]
  rfl

/-! #### A changeover on its way to REVEAL (log 53) -/

theorem settle_waits (hr : s.reports = []) (h : advancePhase s = s) : settle s = s := by
  have hclear : ({ s with reports := [] } : State) = s := by rw [← hr]
  have hfold : s.reports.foldl onReport { s with reports := [] } = s := by
    rw [hr]
    exact hclear
  rw [settle, hfold, conduct_waits (by rw [hclear]; exact h), hclear]

theorem advancePhase_retime {r : Record} (hr : s.co.record = some r) (hp : r.phase = .retime) :
    advancePhase s = if retimeDone r s then enterReveal r s else s := by
  unfold advancePhase
  rw [hr]
  dsimp only
  rw [hp]

theorem retimeDone_waits {r : Record} (ht : r.target = some n)
    (h : s.out.settle ≠ none ∨ (s.monitor n.source).state ≠ .locked) : retimeDone r s = false := by
  rw [retimeDone, ht]
  rcases h with h | h
  · rw [Option.isNone_eq_false_iff.2 (Option.isSome_iff_ne_none.2 h), Bool.false_and]
  · simp [h]

end

end Sys2Proof.Machine

/-! ### O34, clause by clause -/

namespace Sys2Proof.Machine

section
variable {n : Slot} {s : State}

/-- The reader takes nothing: of the frame store at most Fin is brought up to date. -/
def TakesNone (s : State) : Prop :=
  (fieldShown s).frame = { s.frame with fin := (fieldShown s).frame.fin } ∧
    SameOutside [.now, .link, .frame, .out, .pic, .snd] s (fieldShown s)

theorem takesNone_of_refreshed (h : readerStart (readerSees s) = refreshed n (readerSees s)) : TakesNone s := by
  refine ⟨?_, fieldShown_same (by rw [h]; exact refreshed_same ..) (by decide) (by decide)⟩
  rw [fieldShown_frame, h, ← readerSees_frame s]
  rfl

theorem takesNone_coasting (h : Reading n (readerSees s)) (hr : s.co.record = none) (hf : s.frame.firstTake = false)
    (hw : s.frame.writer ≠ some n) : TakesNone s := by
  refine takesNone_of_refreshed (n := n) ?_
  rw [readerStart_idle h (by rw [readerSees_co]; exact hr), readerSees_frame,
    if_neg (by rw [hf]; exact Bool.false_ne_true), if_pos hw]

theorem takesNone_first (h : Reading n (readerSees s)) (hr : s.co.record = none) (hf : s.frame.firstTake = true)
    (hnone : ∀ b, (s.buffer b).state = .ready → (s.buffer b).source ≠ some n) : TakesNone s := by
  refine takesNone_of_refreshed (n := n) ?_
  rw [readerStart_idle h (by rw [readerSees_co]; exact hr), readerSees_frame, if_pos hf]
  refine firstTake_none fun b hb => ?_
  have hb' : (s.buffer b).state = .ready := by rw [← readerSees_buffer]; exact hb
  change ((readerSees s).buffer b).source ≠ some n
  rw [readerSees_buffer]
  exact hnone b hb'

/-- The buffers the reader sees are those of the part before the field start. -/
theorem newestIn_seen {l : List (Fin 3)} {b : Fin 3} {x : Word16} (h : NewestIn l b x s) {t : State}
    (ht : t.frame.buffers = s.frame.buffers) : NewestIn l b x t := by
  have hbuffer (c : Fin 3) : t.buffer c = s.buffer c := by rw [State.buffer, ht]; rfl
  refine ⟨by rw [hbuffer]; exact h.1, fun d hd hm => ?_⟩
  rw [hbuffer]
  exact h.2 d hd hm

/-- The newest READY buffer of all, as O34 says it. -/
theorem newestIn_ready {b : Fin 3} {x : Word16} (hx : (s.buffer b).seq = some x)
    (h : ∀ d, d ≠ b → (s.buffer d).state = .ready → ∃ y, (s.buffer d).seq = some y ∧
      1 ≤ (x - y).toNat ∧ (x - y).toNat ≤ 32767) : NewestIn (readyBuffers none s) b x s :=
  ⟨hx, fun d hd hm => h d hd ((mem_readyBuffers d).1 hm)⟩

/-- The newest READY buffer shown frees every other READY one. -/
theorem Shows.readies {b : Fin 3} {x : Word16} {t : State} (h : Shows b s t)
    (hnew : NewestIn (readyBuffers none s) b x s) {d : Fin 3} (hd : d ≠ b) (hst : (s.buffer d).state = .ready) :
    (t.buffer d).state = .free := by
  rw [h.older d hd hst (hnew.newerThan hd ((mem_readyBuffers d).2 hst))]
  rfl

theorem firstTake_shows {b : Fin 3} {x : Word16} (h : Reading n (readerSees s)) (hr : s.co.record = none)
    (hf : s.frame.firstTake = true) (hb : (s.buffer b).state = .ready) (hn : (s.buffer b).source = some n)
    (hnew : NewestIn (readyBuffers none s) b x s) :
    Shows b s (fieldShown s) ∧ (fieldShown s).frame.firstTake = false ∧ (fieldShown s).frame.acc = s.frame.acc ∧
      SameOutside [.now, .link, .frame, .out, .pic, .snd] s (fieldShown s) := by
  have hbuffers : (refreshed n (readerSees s)).frame.buffers = s.frame.buffers :=
    (congrArg FrameStore.buffers (readerSees_frame s) :)
  have hbuffer (c : Fin 3) : (refreshed n (readerSees s)).buffer c = s.buffer c := by rw [State.buffer, hbuffers]; rfl
  have hnewest : newestOf (readyBuffers (some n) (refreshed n (readerSees s))) (refreshed n (readerSees s)) = some b := by
    refine newestOf_eq ((mem_readyBuffers_of b).2 (by rw [hbuffer]; exact ⟨hb, hn⟩))
      ((newestIn_seen hnew hbuffers).mono fun d hd => ?_)
    have hready := ((mem_readyBuffers_of d).1 hd).1
    rw [hbuffer] at hready
    exact (mem_readyBuffers d).2 hready
  have hstart : readerStart (readerSees s) =
      { showBuffer b (refreshed n (readerSees s)) with
        frame := { (showBuffer b (refreshed n (readerSees s))).frame with firstTake := false } } := by
    rw [readerStart_idle h (by rw [readerSees_co]; exact hr), readerSees_frame, if_pos hf]
    exact firstTake_some hnewest
  have hsame : SameOutside [.frame] (readerSees s) (readerStart (readerSees s)) := by
    rw [hstart]
    exact ((showBuffer_same ..).after (refreshed_same ..) (fun _ h => h)).with_frame (by decide)
  refine ⟨(showBuffer_shows b (refreshed n (readerSees s))).congr hbuffers.symm ?_, ?_, ?_,
    fieldShown_same hsame (by decide) (by decide)⟩
  · rw [fieldShown_frame, hstart]
  · rw [fieldShown_frame, hstart]
  · rw [fieldShown_frame, hstart]
    change (readerSees s).frame.acc = s.frame.acc
    rw [readerSees_frame]

/-- A changeover to the reader source is on its way to REVEAL (log 53). -/
theorem exec_awaiting {r : Record} (hp : s.powered = true) (hrep : s.reports = []) (hr : s.co.record = some r)
    (ht : r.target = some n) (hreader : s.frame.reader = some n)
    (hphase : r.phase = .wake ∨ r.phase = .lock ∨
      (r.phase = .retime ∧ (s.out.settle ≠ none ∨ (s.monitor n.source).state ≠ .locked))) :
    exec .outputFieldStart s = .next (conclude (fieldShown s)) ∧ TakesNone s := by
  have hawaits : awaitsReveal n (readerSees s) = true := by
    rw [awaitsReveal, readerSees_co, hr]
    rcases hphase with h | h | ⟨h, -⟩ <;> simp [ht, h]
  have hframe := readerStart_frame_of_awaitsReveal (by rw [readerSees_frame]; exact hreader) hawaits
  have hrest : SameOutside [.frame] (readerSees s) (readerStart (readerSees s)) := by
    by_cases hstop : (readerSees s).frame.blank = true ∨ (readerSees s).frame.hold = true
    · rw [readerStart_stopped hstop]
      exact .refl _ _
    · simp only [not_or, Bool.not_eq_true] at hstop
      obtain ⟨hb, hh⟩ := hstop
      rw [readerStart_reads ⟨hb, hh, by rw [readerSees_frame]; exact hreader⟩, if_pos hawaits]
      exact refreshed_same ..
  have hsame : SameOutside [.now, .link, .frame, .out, .pic, .snd] s (fieldShown s) :=
    fieldShown_same hrest (by decide) (by decide)
  have hco : (fieldShown s).co = s.co := hsame.same .co (by decide)
  have hmonitors : (fieldShown s).monitors = s.monitors := hsame.same .monitors (by decide)
  have hsettle : (fieldShown s).out.settle = s.out.settle := by
    have hout : (readerStart (readerSees s)).out = (readerSees s).out := hrest.same .out (by decide)
    change (readerStart (readerSees s)).out.settle = _
    rw [hout]
    exact (followSource_followed (s.reach s.out.nextStart)).settle
  have hrecord : (fieldShown s).co.record = some r := by rw [hco]; exact hr
  have hwaits : advancePhase (fieldShown s) = fieldShown s := by
    rcases hphase with h | h | ⟨h, hwait⟩
    · exact advancePhase_event hrecord (.inr (.inl h))
    · exact advancePhase_event hrecord (.inr (.inr (.inl h)))
    · rw [advancePhase_retime hrecord h, retimeDone_waits ht]
      · exact if_neg Bool.false_ne_true
      · rw [hsettle, State.monitor, hmonitors]
        exact hwait
  have hsettled : settle (fieldShown s) = fieldShown s :=
    settle_waits ((hsame.same .reports (by decide) :).trans hrep) hwaits
  refine ⟨?_, ?_, hsame⟩
  · rw [exec_outputFieldStart hp, fieldStart_eq]
    exact congrArg (fun u => Host.Outcome.next (conclude u)) hsettled
  · rw [fieldShown_frame, hframe, readerSees_frame]

end

end Sys2Proof.Machine

/-! ### O34: PACE and PASS (R109 to R111) -/

namespace Sys2Proof.Machine

/-! #### What the reader leaves of the frame store -/

/-- Of the frame store only the buffers and the accumulator change. -/
def Paces (s t : State) : Prop := t.frame = { s.frame with buffers := t.frame.buffers, acc := t.frame.acc }

section
variable {n : Slot} {s t u : State}

theorem Paces.after (h' : Paces t u) (h : Paces s t) : Paces s u := by
  rw [Paces, h', h]

theorem Paces.of_same {l : List Block} (h : SameOutside l s t) (hl : Block.frame ∉ l) : Paces s t := by
  rw [Paces, h.same .frame hl]

theorem readAhead_paces (n : Slot) (k : Nat) (s : State) : Paces s (readAhead n k s) := by
  have hincrement : Paces s (halfFin (increment framesRepeated s)) := by
    have hframe : (increment framesRepeated s).frame = s.frame := (increment_same ..).same .frame (by decide)
    rw [Paces, halfFin, hframe]
  unfold readAhead
  dsimp only
  split
  · rfl
  · split
    · rfl
    · exact hincrement

theorem readPace_paces (n : Slot) (s : State) : Paces s (readPace n s) := by
  cases h : s.frame.fin with
  | none =>
    rw [readPace, h]
    rfl
  | some fin =>
    rw [readPace_eq h]
    split
    · rfl
    · exact (readAhead_paces n _ (setAcc _ s)).after rfl

/-- The reader, revealed on the slot the writer is enabled on, its first take made, with no changeover in flight. -/
structure Pacing (n : Slot) (s : State) : Prop where
  settled : Settled s
  blank : s.frame.blank = false
  hold : s.frame.hold = false
  reader : s.frame.reader = some n
  writer : s.frame.writer = some n
  taken : s.frame.firstTake = false

/-- What the reader starts from. -/
def readerStarts (n : Slot) (s : State) : State := refreshed n (readerSees s)

theorem readerStarts_buffers (n : Slot) (s : State) : (readerStarts n s).frame.buffers = s.frame.buffers :=
  (congrArg FrameStore.buffers (readerSees_frame s) :)

theorem readerStarts_buffer (n : Slot) (s : State) (b : Fin 3) : (readerStarts n s).buffer b = s.buffer b := by
  rw [State.buffer, readerStarts_buffers]
  rfl

theorem readerStarts_acc (n : Slot) (s : State) : (readerStarts n s).frame.acc = s.frame.acc :=
  (congrArg FrameStore.acc (readerSees_frame s) :)

theorem readerStarts_counters (n : Slot) (s : State) : (readerStarts n s).counters = s.counters :=
  (readerSees_same s).same .counters (by decide)

theorem readerStarts_same (n : Slot) (s : State) : SameOutside [.frame] (readerSees s) (readerStarts n s) :=
  refreshed_same ..

theorem readerStarts_fin {fin : Nat} (h : (s.monitor n.source).fref = some fin) :
    (readerStarts n s).frame.fin = some fin := refreshed_fin (by rw [readerSees_fref]; exact h)

theorem Pacing.reads (h : Pacing n s) :
    readerStart (readerSees s) =
      if (readerSees s).out.pass then readPass n (readerStarts n s) else readPace n (readerStarts n s) := by
  obtain ⟨hs, hb, hh, hr, hw, ht⟩ := h
  rw [readerStart_idle (readerSees_reading hb hh hr) (by rw [readerSees_co]; exact hs.1), readerSees_frame,
    if_neg (by rw [ht]; exact Bool.false_ne_true), if_neg (not_not.2 hw)]
  rfl

theorem readerSees_pass (s : State) : (readerSees s).out.pass = s.out.pass :=
  (followSource_followed (s.reach s.out.nextStart)).pass

theorem Pacing.paces (h : Pacing n s) (hp : s.out.pass = false) :
    readerStart (readerSees s) = readPace n (readerStarts n s) := by
  rw [h.reads, readerSees_pass, if_neg (by rw [hp]; exact Bool.false_ne_true)]

theorem Pacing.passes (h : Pacing n s) (hp : s.out.pass = true) :
    readerStart (readerSees s) = readPass n (readerStarts n s) := by
  rw [h.reads, readerSees_pass, if_pos hp]

theorem readerStarts_fout (hp : s.out.pass = false) : (readerStarts n s).out.fout = s.out.fout := by
  change (readerSees s).out.fout = _
  rw [readerSees_pace hp]
  rfl

/-! #### PACE (R110, R111) -/

/-- The sum of the accumulator and Fout. -/
def gained (s : State) : Nat := s.frame.acc + s.out.fout

/-- What PACE leaves of the frame store besides the buffers and the accumulator. -/
theorem Pacing.kept (h : Pacing n s) (hp : s.out.pass = false) {fin : Nat}
    (hf : (s.monitor n.source).fref = some fin) :
    (fieldShown s).frame.fin = some fin ∧ (fieldShown s).frame.writer = some n ∧
      (fieldShown s).frame.reader = some n ∧ (fieldShown s).frame.nextSeq = s.frame.nextSeq ∧
      SameOutside [.now, .link, .counters, .frame, .out, .pic] s (fieldShown s) := by
  have hpaces : Paces (readerStarts n s) (readerStart (readerSees s)) := by
    rw [h.paces hp]
    exact readPace_paces ..
  have hframe : (readerStarts n s).frame = { s.frame with fin := (readerStarts n s).frame.fin } := by
    rw [← readerSees_frame s]
    rfl
  rw [fieldShown_frame, hpaces]
  refine ⟨readerStarts_fin hf, ?_, ?_, ?_, fieldShown_pace_same hp (readerStart_same _) (by decide) (by decide)⟩
  · rw [hframe]
    exact h.writer
  · rw [hframe]
    exact h.reader
  · rw [hframe]

theorem Pacing.stays (h : Pacing n s) (hp : s.out.pass = false) {fin : Nat}
    (hf : (s.monitor n.source).fref = some fin) (ha : gained s < fin) :
    (fieldShown s).frame.buffers = s.frame.buffers ∧ (fieldShown s).frame.acc = gained s ∧
      (fieldShown s).counters = s.counters := by
  have hsum : (readerStarts n s).frame.acc + (readerStarts n s).out.fout = gained s := by
    rw [readerStarts_acc, readerStarts_fout hp, gained]
  have hstart : readerStart (readerSees s) = setAcc (gained s) (readerStarts n s) := by
    rw [h.paces hp, readPace_stays (readerStarts_fin hf) (by rw [hsum]; exact ha), hsum]
  rw [fieldShown_frame, hstart]
  refine ⟨readerStarts_buffers n s, rfl, ?_⟩
  exact (congrArg State.counters hstart).trans (readerStarts_counters n s)

/-- What the reader looks at when it advances. -/
def readerAdvances (n : Slot) (fin : Nat) (s : State) : State := setAcc (gained s % fin) (readerStarts n s)

theorem readerAdvances_buffers (n : Slot) (fin : Nat) (s : State) :
    (readerAdvances n fin s).frame.buffers = s.frame.buffers := readerStarts_buffers n s

theorem readerAdvances_buffer (n : Slot) (fin : Nat) (s : State) (b : Fin 3) :
    (readerAdvances n fin s).buffer b = s.buffer b := readerStarts_buffer n s b

theorem Pacing.advances (h : Pacing n s) (hp : s.out.pass = false) {fin : Nat}
    (hf : (s.monitor n.source).fref = some fin) (hfin : 0 < fin) (ha : fin ≤ gained s) :
    readerStart (readerSees s) = readAhead n (gained s / fin) (readerAdvances n fin s) := by
  have hsum : (readerStarts n s).frame.acc + (readerStarts n s).out.fout = gained s := by
    rw [readerStarts_acc, readerStarts_fout hp, gained]
  rw [h.paces hp, readPace_advances (readerStarts_fin hf) hfin (by rw [hsum]; exact ha), hsum]
  rfl

/-- Buffer `b` is shown, with the accumulator `a`. -/
structure ShownWith (b : Fin 3) (a : Nat) (s : State) : Prop where
  shows : Shows b s (fieldShown s)
  acc : (fieldShown s).frame.acc = a
  counters : (fieldShown s).counters = s.counters
  same : SameOutside [.now, .link, .frame, .out, .pic] s (fieldShown s)

/-- The field the reader looks for is there (R110). -/
theorem Pacing.onTime (h : Pacing n s) (hp : s.out.pass = false) {fin : Nat}
    (hf : (s.monitor n.source).fref = some fin) (hfin : 0 < fin) (ha : fin ≤ gained s) {b c : Fin 3} {q : Word16}
    (hc : (s.buffer c).state = .showing) (hone : ∀ d, (s.buffer d).state = .showing → d = c)
    (hq : (s.buffer c).seq = some q) (hb : (s.buffer b).state = .ready) (hn : (s.buffer b).source = some n)
    (hseq : (s.buffer b).seq = some (q + BitVec.ofNat 16 (gained s / fin)))
    (honly : ∀ d, (s.buffer d).state = .ready → (s.buffer d).seq = some (q + BitVec.ofNat 16 (gained s / fin)) → d = b) :
    ShownWith b (gained s % fin) s := by
  have hstart : readerStart (readerSees s) = showBuffer b (readerAdvances n fin s) := by
    have hbuffer := readerAdvances_buffer n fin s
    rw [h.advances hp hf hfin ha]
    refine readAhead_finds (c := c) (q := q) ?_ (fun d => ?_) ?_ ?_ ?_ ?_ fun d => ?_ <;> rw [hbuffer]
    · exact hc
    · exact hone d
    · exact hq
    · exact hb
    · exact hn
    · exact hseq
    · exact honly d
  have hsame : SameOutside [.frame] (readerSees s) (readerStart (readerSees s)) := by
    rw [hstart]
    exact (showBuffer_same ..).after (((readerStarts_same n s)).with_frame (by decide)) (fun _ h => h)
  refine ⟨(showBuffer_shows b (readerAdvances n fin s)).congr (readerAdvances_buffers n fin s).symm ?_, ?_, ?_,
    fieldShown_pace_same hp hsame (by decide) (by decide)⟩
  · rw [fieldShown_frame, hstart]
  · rw [fieldShown_frame, hstart]
    rfl
  · exact (congrArg State.counters hstart).trans (readerStarts_counters n s)

/-- The field the reader looks for is missing, and the newest one is shown (R111). -/
theorem Pacing.late (h : Pacing n s) (hp : s.out.pass = false) {fin : Nat}
    (hf : (s.monitor n.source).fref = some fin) (hfin : 0 < fin) (ha : fin ≤ gained s) {b c : Fin 3} {q x : Word16}
    (hc : (s.buffer c).state = .showing) (hone : ∀ d, (s.buffer d).state = .showing → d = c)
    (hq : (s.buffer c).seq = some q) (hb : (s.buffer b).state = .ready) (hn : (s.buffer b).source = some n)
    (hlow : 1 ≤ (x - q).toNat) (hhigh : (x - q).toNat ≤ 32767) (hnew : NewestIn (readyBuffers none s) b x s)
    (hmiss : ∀ d, (s.buffer d).state = .ready → (s.buffer d).source = some n →
      (s.buffer d).seq ≠ some (q + BitVec.ofNat 16 (gained s / fin))) : ShownWith b (fin / 2) s := by
  have hbuffer := readerAdvances_buffer n fin s
  have hready : readyBuffers none (readerAdvances n fin s) = readyBuffers none s := by
    simp only [readyBuffers, hbuffer]
  have hc' : ((readerAdvances n fin s).buffer c).state = .showing := by rw [hbuffer]; exact hc
  have hone' : ∀ d, ((readerAdvances n fin s).buffer d).state = .showing → d = c := fun d => by
    rw [hbuffer]
    exact hone d
  have hq' : ((readerAdvances n fin s).buffer c).seq = some q := by rw [hbuffer]; exact hq
  have hnewest : newestOf (newerThanShown n (readerAdvances n fin s)) (readerAdvances n fin s) = some b :=
    newestOf_newerThanShown hc' hone' hq' (by rw [hbuffer]; exact hb) (by rw [hbuffer]; exact hn) hlow hhigh
      (by rw [hready]; exact newestIn_seen hnew (readerAdvances_buffers n fin s))
  have hstart : readerStart (readerSees s) = halfFin (showBuffer b (readerAdvances n fin s)) := by
    rw [h.advances hp hf hfin ha, readAhead_misses hc' hone' hq', hnewest]
    · rfl
    · intro d
      rw [hbuffer]
      exact hmiss d
  have hsame : SameOutside [.frame] (readerSees s) (readerStart (readerSees s)) := by
    rw [hstart]
    exact ((showBuffer_same ..).after (((readerStarts_same n s)).with_frame (by decide)) (fun _ h => h)).with_frame
      (by decide)
  refine ⟨(showBuffer_shows b (readerAdvances n fin s)).congr (readerAdvances_buffers n fin s).symm ?_, ?_, ?_,
    fieldShown_pace_same hp hsame (by decide) (by decide)⟩
  · rw [fieldShown_frame, hstart]
    rfl
  · rw [fieldShown_frame, hstart]
    change (readerStarts n s).frame.fin.getD 0 / 2 = _
    rw [readerStarts_fin hf]
    rfl
  · exact (congrArg State.counters hstart).trans (readerStarts_counters n s)

/-- Nothing is READY (R111). -/
theorem Pacing.starved (h : Pacing n s) (hp : s.out.pass = false) {fin : Nat}
    (hf : (s.monitor n.source).fref = some fin) (hfin : 0 < fin) (ha : fin ≤ gained s) {c : Fin 3} {q : Word16}
    (hc : (s.buffer c).state = .showing) (hone : ∀ d, (s.buffer d).state = .showing → d = c)
    (hq : (s.buffer c).seq = some q) (hnone : ∀ b, (s.buffer b).state ≠ .ready) :
    (fieldShown s).frame.buffers = s.frame.buffers ∧ (fieldShown s).frame.acc = fin / 2 ∧
      (fieldShown s).counters = (increment 66 s).counters := by
  have hbuffer := readerAdvances_buffer n fin s
  have hnone' : ∀ b, ((readerAdvances n fin s).buffer b).state ≠ .ready := fun b => by
    rw [hbuffer]
    exact hnone b
  have hstart : readerStart (readerSees s) = halfFin (increment framesRepeated (readerAdvances n fin s)) := by
    rw [h.advances hp hf hfin ha, readAhead_misses (c := c) (q := q) (by rw [hbuffer]; exact hc)
      (fun d => by rw [hbuffer]; exact hone d) (by rw [hbuffer]; exact hq) (fun d hd => absurd hd (hnone' d)),
      newerThanShown_nil hnone']
    rfl
  have hframe : (increment framesRepeated (readerAdvances n fin s)).frame = (readerAdvances n fin s).frame :=
    (increment_same ..).same .frame (by decide)
  refine ⟨?_, ?_, ?_⟩
  · rw [fieldShown_frame, hstart]
    exact (congrArg FrameStore.buffers hframe :).trans (readerAdvances_buffers n fin s)
  · rw [fieldShown_frame, hstart]
    change (increment framesRepeated (readerAdvances n fin s)).frame.fin.getD 0 / 2 = _
    rw [hframe]
    change (readerStarts n s).frame.fin.getD 0 / 2 = _
    rw [readerStarts_fin hf]
    rfl
  · exact (congrArg State.counters hstart).trans (increment_counters_congr framesRepeated (readerStarts_counters n s))

end

end Sys2Proof.Machine

/-! ### O34: PASS, and the clauses together -/

namespace Sys2Proof.Machine

section
variable {n : Slot} {s : State}

/-! #### PASS (R109, R116) -/

theorem Pacing.passing_frame (h : Pacing n s) (hp : s.out.pass = true) :
    (fieldShown s).frame.acc = s.frame.acc ∧
      SameOutside [.now, .link, .counters, .frame, .out, .pic, .snd] s (fieldShown s) := by
  refine ⟨?_, fieldShown_same (readerStart_same _) (by decide) (by decide)⟩
  have hreads : (readPass n (readerStarts n s)).frame.acc = (readerStarts n s).frame.acc := by
    unfold readPass
    split
    · rfl
    · exact congrArg FrameStore.acc ((increment_same ..).same .frame (by decide) :)
  rw [fieldShown_frame, h.passes hp, hreads, readerStarts_acc]

/-- The output after a field start in PASS (R116). -/
theorem fieldShown_out (s : State) :
    (∀ m f, s.out.pass = true → s.out.slaved = some m → (s.monitor m.source).fref = some f →
      (fieldShown s).out.fout = f) ∧
    (∀ m, s.out.slaved = some m → (s.monitor m.source).fref = none → (fieldShown s).out.fout = s.out.fout) ∧
    (fieldShown s).out.nextStart = max s.now s.out.nextStart + (fieldShown s).out.fout := by
  obtain ⟨-, -, -, hfout, hkept, -, -, hsame⟩ := followSource_followed (s.reach s.out.nextStart)
  have hout : (readerStart (readerSees s)).out = (readerSees s).out := (readerStart_same _).same .out (by decide)
  have hnow : (readerStart (readerSees s)).now = max s.now s.out.nextStart :=
    ((readerStart_same _).same .now (by decide) :).trans (hsame.same .now (by decide))
  have hfinal : (fieldShown s).out.fout = (readerSees s).out.fout := (congrArg Output.fout hout :)
  refine ⟨fun m f hp hm hf => hfinal.trans (hfout m f hp hm hf), fun m hm hf => hfinal.trans (hkept m hm hf), ?_⟩
  change (readerStart (readerSees s)).now + (readerStart (readerSees s)).out.fout = _
  rw [hnow]
  rfl

theorem Pacing.passShows (h : Pacing n s) (hp : s.out.pass = true) {b c : Fin 3} {q x : Word16}
    (hc : (s.buffer c).state = .showing) (hone : ∀ d, (s.buffer d).state = .showing → d = c)
    (hq : (s.buffer c).seq = some q) (hb : (s.buffer b).state = .ready) (hn : (s.buffer b).source = some n)
    (hlow : 1 ≤ (x - q).toNat) (hhigh : (x - q).toNat ≤ 32767) (hnew : NewestIn (readyBuffers none s) b x s) :
    Shows b s (fieldShown s) ∧ (fieldShown s).counters = s.counters := by
  have hbuffer := readerStarts_buffer n s
  have hready : readyBuffers none (readerStarts n s) = readyBuffers none s := by simp only [readyBuffers, hbuffer]
  have hnewest : newestOf (newerThanShown n (readerStarts n s)) (readerStarts n s) = some b := by
    refine newestOf_newerThanShown (c := c) (q := q) (x := x) ?_ (fun d => ?_) ?_ ?_ ?_ hlow hhigh ?_
    · rw [hbuffer]; exact hc
    · rw [hbuffer]; exact hone d
    · rw [hbuffer]; exact hq
    · rw [hbuffer]; exact hb
    · rw [hbuffer]; exact hn
    · rw [hready]; exact newestIn_seen hnew (readerStarts_buffers n s)
  have hstart : readerStart (readerSees s) = showBuffer b (readerStarts n s) := by
    rw [h.passes hp, readPass_shows hnewest]
  refine ⟨(showBuffer_shows b (readerStarts n s)).congr (readerStarts_buffers n s).symm ?_, ?_⟩
  · rw [fieldShown_frame, hstart]
  · exact (congrArg State.counters hstart).trans (readerStarts_counters n s)

theorem Pacing.passRepeats (h : Pacing n s) (hp : s.out.pass = true) (hnone : ∀ b, (s.buffer b).state ≠ .ready) :
    (fieldShown s).frame.buffers = s.frame.buffers ∧ (fieldShown s).counters = (increment 66 s).counters := by
  have hstart : readerStart (readerSees s) = increment framesRepeated (readerStarts n s) := by
    rw [h.passes hp, readPass_repeats fun b => by rw [readerStarts_buffer]; exact hnone b]
  refine ⟨?_, ?_⟩
  · rw [fieldShown_frame, hstart]
    exact (congrArg FrameStore.buffers ((increment_same ..).same .frame (by decide) :)).trans (readerStarts_buffers n s)
  · exact (congrArg State.counters hstart).trans (increment_counters_congr framesRepeated (readerStarts_counters n s))

end

/-- A field start at which the reader takes nothing, as O34 says it. -/
theorem TakesNone.told {s : State} (h : TakesNone s) (hexec : exec .outputFieldStart s = .next (conclude (fieldShown s))) :
    ∃ u, exec .outputFieldStart s = .next (conclude u) ∧ u.frame = { s.frame with fin := u.frame.fin } ∧
      SameOutside [.now, .link, .frame, .out, .pic, .snd] s u := ⟨_, hexec, h.1, h.2⟩

/-- Settles O34: the reader at rest and at its first take, then PACE by the accumulator and PASS by what is READY. -/
theorem pacingFollowsTheAccumulator : Obligations.PacingFollowsTheAccumulator := by
  refine ⟨fun n s hp hs hb hh hr => ?_, fun n r s hp hrep hr ht hreader hphase => ?_,
    fun n fin c q s hp hs hpass hb hh hr hw ht hf hfin hc hone hq => ?_,
    fun n fin c b q x s hp hs hpass hb hh hr hw ht hf hfin hc hone hq hready hn hx hnew hsum => ?_,
    fun n c q s hp hs hpass hb hh hr hw ht hc hone hq => ?_⟩
  · have hexec := exec_fieldShown hp hs
    have hreads := readerSees_reading hb hh hr
    intro takesNone
    refine ⟨fun hf hw => (takesNone_coasting hreads hs.1 hf hw).told hexec,
      fun hf hno => (takesNone_first hreads hs.1 hf hno).told hexec, fun b x hf hready hn hx hnew => ?_⟩
    have hnewest := newestIn_ready hx hnew
    obtain ⟨hshows, htaken, hacc, hsame⟩ := firstTake_shows hreads hs.1 hf hready hn hnewest
    refine ⟨_, hexec, hshows.self, fun d hd hst => ?_, hshows.filling, htaken, hacc, hsame⟩
    rcases hst with hst | hst
    · rw [hshows.shown d hd hst]
      rfl
    · exact hshows.readies hnewest hd hst
  · obtain ⟨hexec, hnone⟩ := exec_awaiting hp hrep hr ht hreader hphase
    exact hnone.told hexec
  · have hpacing : Pacing n s := ⟨hs, hb, hh, hr, hw, ht⟩
    obtain ⟨hkfin, hkwriter, hkreader, hkseq, hsame⟩ := hpacing.kept hpass hf
    refine ⟨_, exec_fieldShown hp hs, hkfin, hkwriter, hkreader, hkseq, fun h => hpacing.stays hpass hf h,
      fun b hge hlt hready hn hseq honly => ?_, fun hge hnone => hpacing.starved hpass hf hfin hge hc hone hq hnone, hsame⟩
    have hk : gained s / fin = 1 := Nat.div_eq_of_lt_le (by rw [Nat.one_mul]; exact hge) (by exact hlt)
    have hmod : gained s % fin = gained s - fin := by
      unfold gained
      rw [Nat.mod_eq_sub_mod hge, Nat.mod_eq_of_lt (by omega)]
    have hshown : ShownWith b (gained s % fin) s := by
      refine hpacing.onTime hpass hf hfin hge hc hone hq hready hn ?_ ?_ <;> rw [hk]
      · exact hseq
      · exact honly
    obtain ⟨hshows, hacc, hcounters, -⟩ := hshown
    have hne : c ≠ b := by
      rintro rfl
      rw [hc] at hready
      exact absurd hready (by decide)
    refine ⟨hshows.self, ?_, hacc.trans hmod, hcounters⟩
    rw [hshows.shown c hne hc]
    rfl
  · have hpacing : Pacing n s := ⟨hs, hb, hh, hr, hw, ht⟩
    have hnewest := newestIn_ready hx hnew
    have hne : c ≠ b := by
      rintro rfl
      rw [hc] at hready
      exact absurd hready (by decide)
    intro k onTime late h
    have hkpos : 1 ≤ k := Nat.div_pos hsum hfin
    have htime : onTime → ShownWith b (gained s % fin) s := fun h => by
      refine hpacing.onTime hpass hf hfin hsum hc hone hq hready hn (by rw [hx]; exact congrArg some h) fun d hd hseq => ?_
      by_contra hdb
      obtain ⟨y, hy, hlow, -⟩ := hnew d hdb hd
      have hxy : x = y := by
        rw [h]
        exact Option.some.inj (hseq.symm.trans hy)
      rw [hxy, BitVec.sub_self] at hlow
      exact absurd hlow (by decide)
    have hlate : late → ShownWith b (fin / 2) s := fun ⟨hlow, hhigh, hmiss⟩ =>
      hpacing.late hpass hf hfin hsum hc hone hq hready hn hlow hhigh hnewest hmiss
    have hshown : ∃ a, ShownWith b a s := h.elim (fun h => ⟨_, htime h⟩) fun h => ⟨_, hlate h⟩
    obtain ⟨a, hshows, -, -, hsame⟩ := hshown
    refine ⟨_, exec_fieldShown hp hs, hshows.self, ?_, fun d hd hst => hshows.readies hnewest hd hst,
      fun h => (htime h).acc, fun h => (hlate h).acc, hsame⟩
    rw [hshows.shown c hne hc]
    rfl
  · have hpacing : Pacing n s := ⟨hs, hb, hh, hr, hw, ht⟩
    obtain ⟨hacc, hsame⟩ := hpacing.passing_frame hpass
    obtain ⟨hfout, hkept, hnext⟩ := fieldShown_out s
    refine ⟨_, exec_fieldShown hp hs, hacc, fun m f hm hf => hfout m f hpass hm hf, hkept, hnext,
      fun b x hready hn hx hlow hhigh hnew => ?_, fun hnone => hpacing.passRepeats hpass hnone, hsame⟩
    have hnewest := newestIn_ready hx hnew
    obtain ⟨hshows, hcounters⟩ := hpacing.passShows hpass hc hone hq hready hn hlow hhigh hnewest
    have hne : c ≠ b := by
      rintro rfl
      rw [hc] at hready
      exact absurd hready (by decide)
    refine ⟨hshows.self, ?_, fun d hd hst => hshows.readies hnewest hd hst, hcounters⟩
    rw [hshows.shown c hne hc]
    rfl

end Sys2Proof.Machine

/-! ### A change of an input, by its parts (R142, R143, R150, R151, R153 to R155) -/

namespace Sys2Proof.Machine

theorem exec_rawInputChange (dt : Nat) (i : Input) (closed : Bool) {s : State} (h : s.powered = true) :
    exec (.rawInputChange dt i closed) s = .next (conclude (rawChange i closed (s.tick dt))) := if_pos h

theorem exec_debounceExpiry (i : Input) {s : State} (h : s.powered = true) :
    exec (.debounceExpiry i) s = .next (conclude (debounceExpires i s)) := event_powered h (debounceExpires i)

/-- The state with the input's new level debounced. -/
def State.debounce (s : State) (i : Input) (active : Bool) : State :=
  { s with router := { s.router with debounced := s.router.debounced.put i active } }

/-- The state once the router has judged the change: the orders, the mask, the starts and the chord. -/
def inputJudged (i : Input) (active : Bool) (s : State) : State :=
  judgeChord i active (countStart i active (leaveMask i active (updateOrder i active (s.debounce i active))))

/-- The coin unit's part of the change, once the MENU input is reported. -/
def inputHanded (i : Input) (active : Bool) (s : State) : State :=
  coinChange i active (menuButton i active (inputJudged i active s))

theorem changeInput_eq (i : Input) (active : Bool) (s : State) :
    changeInput i active s = reportInput i (inputHanded i active s) := rfl

/-! #### The router's part -/

theorem updateOrder_router (i : Input) (active : Bool) (s : State) :
    (updateOrder i active s).router = { s.router with order := (updateOrder i active s).router.order } := by
  unfold updateOrder
  split <;> rfl

theorem leaveMask_router (i : Input) (active : Bool) (s : State) :
    (leaveMask i active s).router = { s.router with grantMask := (leaveMask i active s).router.grantMask } := by
  unfold leaveMask
  split <;> rfl

theorem judgeChord_router (i : Input) (active : Bool) (s : State) :
    (judgeChord i active s).router = { s.router with
      chordTimer := (judgeChord i active s).router.chordTimer
      chordArmed := (judgeChord i active s).router.chordArmed } := by
  unfold judgeChord
  split
  · rfl
  · split_ifs <;> rfl

theorem countStart_router (i : Input) (active : Bool) (s : State) : (countStart i active s).router = s.router :=
  (countStart_same i active s).same .router (by decide)

/-- What the router keeps, whatever input changes. -/
theorem inputJudged_router (i : Input) (active : Bool) (s : State) :
    (inputJudged i active s).router = { s.router with
      debounced := s.router.debounced.put i active
      order := (updateOrder i active (s.debounce i active)).router.order
      grantMask := (leaveMask i active (updateOrder i active (s.debounce i active))).router.grantMask
      chordTimer := (inputJudged i active s).router.chordTimer
      chordArmed := (inputJudged i active s).router.chordArmed } := by
  refine (judgeChord_router ..).trans ?_
  rw [countStart_router, leaveMask_router, updateOrder_router]
  rfl

theorem inputJudged_same (i : Input) (active : Bool) (s : State) :
    SameOutside [.link, .counters, .router] s (inputJudged i active s) :=
  (judgeChord_same ..).after ((countStart_same ..).after ((leaveMask_same ..).after ((updateOrder_same ..).after
    ((SameOutside.refl _ s).with_router (by decide)) (by decide)) (by decide)) (by decide)) (by decide)

theorem inputHanded_router (i : Input) (active : Bool) (s : State) :
    (inputHanded i active s).router = (inputJudged i active s).router :=
  ((coinChange_same ..).same .router (by decide)).trans ((menuButton_same ..).same .router (by decide))

/-- A change is latched while the owner is LINK (R153). -/
theorem reportInput_router (i : Input) (s : State) :
    (reportInput i s).router = { s.router with
      latch := if s.router.owner = .link then s.router.latch.put i true else s.router.latch } := by
  unfold reportInput
  split
  · next h =>
    simp only [if_pos h]
    exact (post_same ..).same .router (by decide)
  · next h => simp only [if_neg h]

theorem reportInput_posts (i : Input) (s : State) : Posts [3] s (reportInput i s) := by
  unfold reportInput
  split
  · exact post_posts (n := .input s.router.debounced (s.router.latch.put i true)) (by simp [Notice.kind]) _
  · exact .refl _ s

theorem reportInput_tells {i : Input} {s : State} (h : s.router.owner = .link) (hm : s.link.mask.at 3 = true) :
    ∃ e ∈ (reportInput i s).link.notices,
      e.notice = .input (reportInput i s).router.debounced (reportInput i s).router.latch := by
  obtain ⟨e, he, hn, -⟩ := exists_post (n := .input s.router.debounced (s.router.latch.put i true))
    (s := { s with router := { s.router with latch := s.router.latch.put i true } }) (fun m => by cases m <;> rfl) hm
  refine ⟨e, ?_, ?_⟩
  · rw [reportInput, if_pos h]
    exact he
  · rw [reportInput_router, if_pos h]
    exact hn

/-! #### Directions, the grant mask and starts -/

/-- A direction that changes moves to the end of its player's order, or leaves it (R150). -/
theorem updateOrder_direction {i : Input} {p : Player} {d : Dir} (h : dirOf i = some (p, d)) (active : Bool) (s : State) :
    (updateOrder i active s).router.order = s.router.order.put p
      (((s.router.order.at p).filter fun e => e != d) ++ if active then [d] else []) := by
  rw [updateOrder, h]
  cases active <;> simp [orderWith]

theorem dirOf_none {i : Input} (h : 52 ≤ i.val ∨ 4 ≤ i.val % 13) : dirOf i = none := by
  unfold dirOf
  split
  · split <;> first | omega | rfl
  · rfl

theorem dirOf_some {i : Input} {p : Player} {q : Nat} {d : Dir} (hi : i.val = 13 * p.val + q)
    (hq : q = 0 ∧ d = .up ∨ q = 1 ∧ d = .down ∨ q = 2 ∧ d = .left ∨ q = 3 ∧ d = .right) : dirOf i = some (p, d) := by
  have hd : q = d.index := by rcases hq with ⟨rfl, rfl⟩ | ⟨rfl, rfl⟩ | ⟨rfl, rfl⟩ | ⟨rfl, rfl⟩ <;> rfl
  have hlt : q < 4 := by omega
  have hp : p.val < 4 := p.isLt
  have hinput : i = Fin.ofNat 60 (13 * p.val + d.index) := Fin.ext (by
    rw [Fin.val_ofNat, ← hd, hi]
    omega)
  rw [hinput]
  exact dirOf_index p d

theorem leaveMask_released {i : Input} {l : Line} (h : l.val = i.val) (s : State) :
    (leaveMask i false s).router.grantMask.at l = false := by
  have hline : inputLine i = some l := by
    rw [inputLine, dif_pos (h ▸ l.isLt)]
    exact congrArg some (Fin.ext h.symm)
  simp only [leaveMask, hline]
  exact Tab.at_put_self ..

/-- A START going active counts for the owner slot (R155). -/
theorem countStart_owner {i : Input} {n : Slot} {s : State} (ho : s.router.owner = .slot n)
    (hi : i.val < 52 ∧ i.val % 13 = 12) : countStart i true s = increment (starts n) s := by
  have hstart : isStart i = true := by simp [isStart, hi]
  rw [countStart, ho]
  exact if_pos (by simp [hstart])

theorem inputChute_some (c : Chute) {i : Input} (h : i.val = 55 + c.val) : inputChute i = some c := by
  have hc : c.val < 4 := c.isLt
  rw [inputChute, dif_pos (by omega)]
  exact congrArg some (Fin.ext (by simp [h]))

theorem inputChute_none {i : Input} (h : i.val < 55 ∨ i.val = 59) : inputChute i = none := by
  rw [inputChute, dif_neg (by omega)]

theorem coinChange_none {i : Input} (h : i.val < 55 ∨ i.val = 59) (active : Bool) (s : State) :
    coinChange i active s = s := by
  rw [coinChange, inputChute_none h]

theorem coinChange_chute (c : Chute) {i : Input} (h : i.val = 55 + c.val) (active : Bool) (s : State) :
    coinChange i active s = chuteInput c active s := by
  rw [coinChange, inputChute_some c h]

theorem menuButton_other {i : Input} (h : i.val ≠ 59) (active : Bool) (s : State) : menuButton i active s = s :=
  if_neg fun hmenu => h (congrArg Fin.val hmenu.1)

/-! #### The chord (R154) -/

/-- The timer and the arming of the chord as they were. -/
def ChordKept (s t : State) : Prop :=
  t.router.chordTimer = s.router.chordTimer ∧ t.router.chordArmed = s.router.chordArmed

theorem judgeChord_unnamed {i : Input} {active : Bool} {s : State} (h : s.cabinet.chord = none) :
    judgeChord i active s = s := by
  rw [judgeChord, chordPair, h]
  rfl

section
variable {i : Input} {a b : Line} {s : State}

theorem judgeChord_other {active : Bool} (h : s.cabinet.chord = some (a, b)) (ha : i.val ≠ a.val) (hb : i.val ≠ b.val) :
    judgeChord i active s = s := by
  rw [judgeChord, chordPair, h]
  exact if_neg (by simp [Fin.ext_iff, lineInput, ha, hb])

theorem judgeChord_released (h : s.cabinet.chord = some (a, b)) (hi : i.val = a.val ∨ i.val = b.val) :
    judgeChord i false s = { s with router := { s.router with chordTimer := none, chordArmed := true } } := by
  rw [judgeChord, chordPair, h]
  exact if_pos (by simpa [Fin.ext_iff, lineInput] using hi)

theorem judgeChord_pressed (h : s.cabinet.chord = some (a, b)) (hi : i.val = a.val ∨ i.val = b.val) :
    judgeChord i true s =
      if chordHeld s && s.router.chordArmed then
        { s with router := { s.router with chordTimer := some (s.now + ms s.cabinet.chordTime) } }
      else s := by
  rw [judgeChord, chordPair, h]
  exact if_pos (by simpa [Fin.ext_iff, lineInput] using hi)

theorem chordHeld_iff (h : s.cabinet.chord = some (a, b)) :
    chordHeld s = true ↔ ∀ j : Input, j.val = a.val ∨ j.val = b.val → s.router.debounced.at j = true := by
  rw [chordHeld, chordPair, h]
  simp only [Option.map_some, Bool.and_eq_true, inputActive]
  constructor
  · rintro ⟨ha, hb⟩ j (hj | hj)
    · rwa [show j = lineInput a from Fin.ext hj]
    · rwa [show j = lineInput b from Fin.ext hj]
  · exact fun hall => ⟨hall _ (.inl rfl), hall _ (.inr rfl)⟩

end

/-- The state in which the chord is judged: the change is debounced, the time, the settings and the chord as they
were. -/
def chordSeen (i : Input) (active : Bool) (s : State) : State :=
  countStart i active (leaveMask i active (updateOrder i active (s.debounce i active)))

theorem chordSeen_router (i : Input) (active : Bool) (s : State) :
    (chordSeen i active s).router.debounced = s.router.debounced.put i active ∧ ChordKept s (chordSeen i active s) := by
  rw [ChordKept, chordSeen, countStart_router, leaveMask_router, updateOrder_router]
  exact ⟨rfl, rfl, rfl⟩

theorem chordSeen_same (i : Input) (active : Bool) (s : State) :
    SameOutside [.link, .counters, .router] s (chordSeen i active s) :=
  (countStart_same ..).after ((leaveMask_same ..).after ((updateOrder_same ..).after
    ((SameOutside.refl _ s).with_router (by decide)) (by decide)) (by decide)) (by decide)

/-- What a change makes of the chord. -/
theorem inputJudged_chord (i : Input) (active : Bool) (s : State) :
    (s.cabinet.chord = none → ChordKept s (inputJudged i active s)) ∧
    ∀ a b : Line, s.cabinet.chord = some (a, b) →
      (i.val ≠ a.val → i.val ≠ b.val → ChordKept s (inputJudged i active s)) ∧
      (i.val = a.val ∨ i.val = b.val →
        let held : Prop := ∀ j : Input, j.val = a.val ∨ j.val = b.val →
          (s.router.debounced.put i active).at j = true
        (active = false →
          (inputJudged i active s).router.chordTimer = none ∧ (inputJudged i active s).router.chordArmed = true) ∧
        (active = true → held → s.router.chordArmed = true →
          (inputJudged i active s).router.chordTimer = some (s.now + ms s.cabinet.chordTime) ∧
            (inputJudged i active s).router.chordArmed = true) ∧
        (active = true → ¬held ∨ s.router.chordArmed = false → ChordKept s (inputJudged i active s))) := by
  obtain ⟨hdebounced, hkept⟩ := chordSeen_router i active s
  have hsame := chordSeen_same i active s
  have hprofiles := hsame.same .profiles (by decide)
  have hnow := hsame.same .now (by decide)
  simp only [Block.same] at hprofiles hnow
  have hcabinet : (chordSeen i active s).cabinet = s.cabinet := by rw [State.cabinet, hprofiles, State.cabinet]
  have hjudged : inputJudged i active s = judgeChord i active (chordSeen i active s) := rfl
  rw [← hdebounced, ← hnow, ← hcabinet]
  obtain ⟨htimer, harmed⟩ := hkept
  generalize chordSeen i active s = v at *
  rw [hjudged]
  refine ⟨fun h => ?_, fun a b h => ⟨fun ha hb => ?_, fun hi => ⟨?_, ?_, ?_⟩⟩⟩
  · rw [judgeChord_unnamed h]
    exact ⟨htimer, harmed⟩
  · rw [judgeChord_other h ha hb]
    exact ⟨htimer, harmed⟩
  · rintro rfl
    rw [judgeChord_released h hi]
    exact ⟨rfl, rfl⟩
  · rintro rfl hheld harm
    rw [judgeChord_pressed h hi, if_pos (by rw [(chordHeld_iff h).2 hheld, harmed, harm]; rfl)]
    exact ⟨rfl, harmed.trans harm⟩
  · rintro rfl hnot
    rw [judgeChord_pressed h hi, if_neg]
    · exact ⟨htimer, harmed⟩
    · rw [Bool.and_eq_true, chordHeld_iff h, harmed]
      rintro ⟨hheld, harm⟩
      rcases hnot with hn | hn
      · exact hn hheld
      · rw [hn] at harm
        exact absurd harm (by decide)

end Sys2Proof.Machine

/-! ### A coin judged at its release (R158, R161, R162, R164, R173) -/

namespace Sys2Proof.Machine

/-! #### What only the chutes' reasons and the meters take part in -/

/-- No chute changes but in its set of reasons. -/
def ReasonsOnly (s t : State) : Prop := ∀ c, t.chute c = { s.chute c with reasons := (t.chute c).reasons }

theorem ReasonsOnly.of_chutes {s t : State} (h : ∀ c, t.chute c = s.chute c) : ReasonsOnly s t := fun c => by rw [h c]

theorem ReasonsOnly.trans {s t u : State} (h : ReasonsOnly s t) (h' : ReasonsOnly t u) : ReasonsOnly s u :=
  fun c => (h' c).trans (by rw [h c])

theorem ReasonsOnly.of_judged {f : Chute → State → Reasons} {s t : State}
    (h : t.coins.chutes = Vector.ofFn (judgedBy f s)) : ReasonsOnly s t := fun c => by
  have hchute : t.chute c = judgedBy f s c := by rw [State.chute, h, Tab.at_ofFn]
  rw [hchute]
  rfl

theorem increment_chute (i : CounterId) (c : Chute) (s : State) : (increment i s).chute c = s.chute c := by
  rw [State.chute, (increment_same i s).same .coins (by decide)]
  rfl

theorem increment_mode (i : CounterId) (s : State) :
    (increment i s).counters.freeze = s.counters.freeze ∧ (increment i s).counters.saturate = s.counters.saturate := by
  rw [increment_counters]
  split <;> exact ⟨rfl, rfl⟩

theorem increment_counter_other {i j : CounterId} (h : j ≠ i) (s : State) : (increment i s).counter j = s.counter j := by
  rw [State.counter, increment_counters]
  split
  · rfl
  · exact (Tab.at_put ..).trans (if_neg h)

theorem postChute_tells {c : Chute} {ev : ChuteEvent} {s : State} (h : s.link.mask.at 5 = true) :
    ∃ e ∈ (postChute c ev s).link.notices,
      e.notice = .chute c (s.chute c).state.code ev ((postChute c ev s).chute c).reasons := by
  obtain ⟨e, he, hn, -⟩ := exists_post (n := .chute c (s.chute c).state.code ev (s.chute c).reasons) (s := s)
    (fun m => by cases m <;> rfl) h
  refine ⟨e, he, hn.trans ?_⟩
  rw [State.chute, State.chute, (postChute_same c ev s).same .coins (by decide)]

/-! #### A tick owed to a meter -/

/-- A meter's record with one tick more owed to it: an idle driver starts on it. -/
def tickOwed (m : Meter) (s : State) : MeterRecord :=
  if (s.meter m).driver = .idle then ⟨(s.meter m).owed, .on (s.now + 1620000)⟩
  else ⟨(s.meter m).owed + 1, (s.meter m).driver⟩

theorem judgeMeterFull_reasons (s : State) : ReasonsOnly s (judgeMeterFull s) :=
  .of_judged (congrArg Coins.chutes (judgeMeterFull_chutes s))

theorem judgeMeterFull_posts (s : State) : Posts coinKinds s (judgeMeterFull s) :=
  .forAll (fun _ _ => setReasons_posts_coin ..) _ s

/-- A meter that owes less than 255 ticks owes one more, and starts on it when it is idle. -/
theorem oweMeter_owes {m : Meter} {s : State} (h : (s.meter m).owed < 255) :
    (oweMeter m s).coins = { s.coins with
        meters := s.coins.meters.put m (tickOwed m s), chutes := (oweMeter m s).coins.chutes } ∧
      ReasonsOnly s (oweMeter m s) ∧ (oweMeter m s).counters = s.counters := by
  have hset (x : MeterRecord) : ReasonsOnly s (s.setMeter m x) := .of_chutes fun _ => rfl
  have hrecord : (judgeMeterFull (s.setMeter m { s.meter m with owed := (s.meter m).owed + 1 })).meter m =
      { s.meter m with owed := (s.meter m).owed + 1 } := by
    rw [State.meter, judgeMeterFull_coins]
    exact Tab.at_put_self ..
  have hnow := (judgeMeterFull_same (s.setMeter m { s.meter m with owed := (s.meter m).owed + 1 })).same .now (by decide)
  have hcounters := (judgeMeterFull_same (s.setMeter m { s.meter m with owed := (s.meter m).owed + 1 })).same .counters
    (by decide)
  have hcoins := judgeMeterFull_coins (s.setMeter m { s.meter m with owed := (s.meter m).owed + 1 })
  have hreasons := (hset { s.meter m with owed := (s.meter m).owed + 1 }).trans (judgeMeterFull_reasons _)
  simp only [Block.same] at hnow hcounters
  rw [oweMeter, if_neg (Nat.not_le.2 h)]
  generalize judgeMeterFull (s.setMeter m { s.meter m with owed := (s.meter m).owed + 1 }) = u at *
  by_cases hidle : (s.meter m).driver = .idle
  · have hstart : judgeMeter m u = judgeMeterFull (u.setMeter m ⟨(s.meter m).owed, .on (u.now + ms 60)⟩) := by
      rw [judgeMeter, hrecord, hidle]
    have hother : ReasonsOnly u (u.setMeter m ⟨(s.meter m).owed, .on (u.now + ms 60)⟩) := .of_chutes fun _ => rfl
    rw [hstart, tickOwed, if_pos hidle]
    refine ⟨(judgeMeterFull_coins _).trans ?_, hreasons.trans (hother.trans (judgeMeterFull_reasons _)),
      ((judgeMeterFull_same _).same .counters (by decide)).trans hcounters⟩
    generalize (judgeMeterFull (u.setMeter m ⟨(s.meter m).owed, .on (u.now + ms 60)⟩)).coins.chutes = chutes
    simp only [State.setMeter]
    rw [hcoins, hnow]
    simp only [State.setMeter, Tab.put_put]
    rfl
  · have hstay : judgeMeter m u = u := by
      unfold judgeMeter
      split
      · next hd _ => exact absurd (by rw [← hd, hrecord]) hidle
      · rfl
    rw [hstay, tickOwed, if_neg hidle]
    exact ⟨hcoins, hreasons, hcounters⟩

/-- A meter that owes 255 ticks owes no more: UNMETERED counts. -/
theorem oweMeter_full {m : Meter} {s : State} (h : 255 ≤ (s.meter m).owed) : oweMeter m s = increment (unmetered m) s :=
  if_pos h

theorem oweMeter_posts (m : Meter) (s : State) : Posts [5, 6] s (oweMeter m s) := by
  unfold oweMeter
  split
  · exact (increment_posts_counter (unmetered m) s).mono (by decide)
  · have hfull : Posts coinKinds s (judgeMeterFull (s.setMeter m { s.meter m with owed := (s.meter m).owed + 1 })) :=
      Posts.start (judgeMeterFull_posts (s.setMeter m { s.meter m with owed := (s.meter m).owed + 1 })) rfl
    exact (hfull.trans (judgeMeter_posts ..)).mono (by decide)

/-! #### The units of a coin placed -/

/-- `k` units have joined the bank, what it cannot hold being drained. -/
def Banked (k : Nat) (s t : State) : Prop :=
  t.coins.bank = min 65535 (s.coins.bank + k) ∧
    t.coins.drained = s.coins.drained + BitVec.ofNat 32 (s.coins.bank + k - 65535)

theorem addUnits_banked {s : State} (h : s.coins.bank ≤ 65535) (k : Nat) : Banked k s (addUnits k s) := by
  rw [Banked, addUnits_coins]
  refine ⟨?_, ?_⟩
  · change s.coins.bank + min k (65535 - s.coins.bank) = _
    omega
  · change s.coins.drained + BitVec.ofNat 32 (k - min k (65535 - s.coins.bank)) = _
    rw [show k - min k (65535 - s.coins.bank) = s.coins.bank + k - 65535 by omega]

theorem addUnits_reasons (k : Nat) (s : State) : ReasonsOnly s (addUnits k s) := by
  have hjudge : ReasonsOnly s (if k = 0 then unitsAdded k s else judgeBankLimit (unitsAdded k s)) := by
    split
    · exact .of_chutes fun _ => rfl
    · exact fun c => by
        rw [State.chute, judgeBankLimit_coins, Tab.at_ofFn]
        rfl
  unfold addUnits
  dsimp only
  split
  · exact hjudge.trans (.of_chutes fun c => by
      rw [State.chute, (postBank_same ..).same .coins (by decide)]
      rfl)
  · exact hjudge

/-- What placing a coin's units leaves alone: the accepted total, the meters, and the chutes but for their reasons. -/
theorem placeUnits_keeps (c : Chute) (v : Nat) (s : State) :
    (placeUnits c v s).coins.accepted = s.coins.accepted ∧ (placeUnits c v s).coins.meters = s.coins.meters ∧
      ReasonsOnly s (placeUnits c v s) ∧ Posts [5, 6] s (placeUnits c v s) ∧
      ∀ i, (∀ n, i ≠ coinsDelivered n) → (placeUnits c v s).counter i = s.counter i := by
  have hadd (k : Nat) (t : State) : (addUnits k t).coins.accepted = t.coins.accepted ∧
      (addUnits k t).coins.meters = t.coins.meters ∧ (addUnits k t).counters = t.counters := by
    rw [addUnits_coins]
    exact ⟨rfl, rfl, (addUnits_same ..).same .counters (by decide)⟩
  unfold placeUnits
  split
  · obtain ⟨haccepted, hmeters, hcounters⟩ := hadd v s
    refine ⟨haccepted, hmeters, addUnits_reasons v s, (addUnits_posts v s).mono (by decide), fun i _ => ?_⟩
    rw [State.counter, hcounters]
    rfl
  · next n k _ =>
    dsimp only
    generalize hq : s.setQueue n (s.queue n ++ List.replicate (min v (32 - (s.queue n).length)) k) = t
    have hcoins : t.coins = { s.coins with queues := t.coins.queues } := by rw [← hq]; rfl
    have hlink : t.link = s.link := by rw [← hq]; rfl
    have hcounters : t.counters = s.counters := by rw [← hq]; rfl
    obtain ⟨haccepted, hmeters, hcount⟩ := hadd (v - min v (32 - (s.queue n).length)) t
    have hreasons : ReasonsOnly s (addUnits (v - min v (32 - (s.queue n).length)) t) :=
      ReasonsOnly.trans (.of_chutes fun d => by rw [← hq]; rfl) (addUnits_reasons _ t)
    have hposts : Posts [5, 6] s (addUnits (v - min v (32 - (s.queue n).length)) t) :=
      Posts.start ((addUnits_posts ..).mono (by decide)) hlink
    generalize addUnits (v - min v (32 - (s.queue n).length)) t = w at *
    have hstart : (judgePulse n w).coins.meters = w.coins.meters ∧
        ∀ i, (∀ n, i ≠ coinsDelivered n) → (judgePulse n w).counter i = w.counter i := by
      rcases judgePulse_cases n w with h | ⟨line, rest, hm, hq⟩
      · rw [h]
        exact ⟨rfl, fun _ _ => rfl⟩
      · obtain ⟨-, hcoins, hcounters⟩ := judgePulse_starts hm hq
        refine ⟨by rw [hcoins]; rfl, fun i hi => ?_⟩
        rw [State.counter, hcounters]
        exact increment_counter_other (hi n) w
    obtain ⟨-, hacc, -, hchutes, -⟩ := judgePulse_keeps n w
    refine ⟨by rw [hacc, haccepted, hcoins], by rw [hstart.1, hmeters, hcoins], hreasons.trans (.of_chutes hchutes),
      hposts.trans ((judgePulse_posts n w).mono (by decide)), fun i hi => ?_⟩
    rw [hstart.2 i hi, State.counter, hcount, hcounters]
    rfl

/-- Without a slot whose queue takes them, all the units join the bank. -/
theorem placeUnits_bank {c : Chute} {s : State} (h : coinTarget c s = none) (hb : s.coins.bank ≤ 65535) (v : Nat) :
    Banked v s (placeUnits c v s) ∧ (placeUnits c v s).coins.delivered = s.coins.delivered ∧
      ∀ m, (placeUnits c v s).queue m = s.queue m ∧ (placeUnits c v s).generator m = s.generator m := by
  rw [placeUnits, h]
  exact ⟨addUnits_banked hb v, by rw [addUnits_coins]; rfl, fun m => ⟨addUnits_queue v s m, addUnits_generator v s m⟩⟩

/-- A slot's queue takes as many units as it has room for, the bank the rest, and an idle generator starts on the unit
at the queue's head. -/
theorem placeUnits_queue {c : Chute} {n : Slot} {k : CoinLine} {s : State} (h : coinTarget c s = some (n, k))
    (hcur : s.co.current = some n) (howner : s.router.owner = .slot n) (hb : s.coins.bank ≤ 65535) (v : Nat) :
    let room := 32 - (s.queue n).length
    let queue := s.queue n ++ List.replicate (min v room) k
    let u := placeUnits c v s
    Banked (v - room) s u ∧ (∀ m, m ≠ n → u.queue m = s.queue m ∧ u.generator m = s.generator m) ∧
    (s.generator n ≠ .idle ∨ queue = [] →
      u.queue n = queue ∧ u.generator n = s.generator n ∧ u.coins.delivered = s.coins.delivered) ∧
    (∀ line rest, s.generator n = .idle → queue = line :: rest →
      u.queue n = rest ∧ u.coins.delivered = s.coins.delivered + 1 ∧
      u.generator n = .on line (s.now + 27000 * (s.profile n).coins.pulseOn) (27000 * (s.profile n).coins.pulseGap)) := by
  intro room queue u
  have hu : u = judgePulse n (addUnits (v - min v room) (s.setQueue n queue)) := by
    change placeUnits c v s = _
    rw [placeUnits, h]
  have hsame : SameOutside [.link, .coins] s (addUnits (v - min v room) (s.setQueue n queue)) :=
    (addUnits_same ..).after ((State.setQueue_same ..).mono (by decide)) (by decide)
  have hbanked : Banked (v - min v room) s (addUnits (v - min v room) (s.setQueue n queue)) :=
    addUnits_banked (s := s.setQueue n queue) hb _
  have hdelivered : (addUnits (v - min v room) (s.setQueue n queue)).coins.delivered = s.coins.delivered := by
    rw [addUnits_coins]
    rfl
  have hqueue (m : Slot) : (addUnits (v - min v room) (s.setQueue n queue)).queue m =
      if m = n then queue else s.queue m := (addUnits_queue ..).trans (State.queue_setQueue ..)
  have hgenerator (m : Slot) : (addUnits (v - min v room) (s.setQueue n queue)).generator m = s.generator m :=
    addUnits_generator ..
  rw [show v - min v room = v - room by omega] at hu hsame hbanked hdelivered hqueue hgenerator
  have hrouter := hsame.same .router (by decide)
  have hco := hsame.same .co (by decide)
  have hnow := hsame.same .now (by decide)
  have hprofiles := hsame.same .profiles (by decide)
  simp only [Block.same] at hrouter hco hnow hprofiles
  generalize addUnits (v - room) (s.setQueue n queue) = w at *
  obtain ⟨hbank, -, hdrained, -, hothers⟩ := judgePulse_keeps n w
  rw [hu]
  refine ⟨⟨hbank.trans hbanked.1, hdrained.trans hbanked.2⟩, fun m hm => ?_, fun hstay => ?_, fun line rest hidle hq => ?_⟩
  · obtain ⟨hqm, hgm⟩ := hothers m hm
    rw [hqm, hgm, hqueue, hgenerator, if_neg hm]
    exact ⟨rfl, rfl⟩
  · have hno : judgePulse n w = w := by
      rw [judgePulse, if_neg]
      rw [mayPulse_iff, hgenerator, hqueue, if_pos rfl]
      rintro ⟨hidle, hne, -⟩
      exact hstay.elim (absurd hidle) (absurd · hne)
    rw [hno, hqueue, if_pos rfl, hgenerator]
    exact ⟨rfl, rfl, hdelivered⟩
  · have hwq : w.queue n = line :: rest := by rw [hqueue, if_pos rfl, hq]
    obtain ⟨-, hcoins, -⟩ := judgePulse_starts (n := n) (s := w) ((mayPulse_iff ..).2
      ⟨(hgenerator n).trans hidle, by rw [hwq]; simp, by rw [hco]; exact hcur, by rw [hrouter]; exact howner⟩) hwq
    rw [State.queue, State.generator, hcoins]
    refine ⟨Tab.at_put_self .., ?_, (Tab.at_put_self ..).trans ?_⟩
    · change w.coins.delivered + 1 = _
      rw [hdelivered]
    · rw [State.profile, hprofiles, hnow, ms, ms, Config.ticksPerMs, Nat.mul_comm _ 27000, Nat.mul_comm _ 27000]
      rfl

end Sys2Proof.Machine

/-! ### The inputs of the cabinet are debounced (O38) -/

namespace Sys2Proof.Machine

/-! #### What a release at a chute in a pulse does, part by part -/

/-- A COIN notice on the chute's key says what became of the coin. -/
def CoinSaid (c : Chute) (e : ChuteEvent) (s u : State) : Prop :=
  s.link.mask.at 5 = true → ∃ x ∈ u.link.notices, x.notice = .chute c 0 e (u.chute c).reasons

/-- The coin unit with the chute ready again. -/
def turnedReady (c : Chute) (s : State) : Coins :=
  { s.coins with chutes := s.coins.chutes.put c { s.chute c with state := .ready, jamTimer := none } }

/-- The coin is rejected, counted and reported (R158). -/
def CoinRejected (c : Chute) (e : ChuteEvent) (s u : State) : Prop :=
  u.coins = turnedReady c s ∧ u.counters = (increment (chuteRejected c) s).counters ∧ CoinSaid c e s u

/-- The meter of the chute, if it names one, owes a tick more (R161, R173). -/
def CoinMetered (c : Chute) (s u : State) : Prop :=
  (∀ m, s.cabinet.chuteMeter.at c ≠ some m → u.meter m = s.meter m) ∧
  (∀ m, s.cabinet.chuteMeter.at c = some m →
    (255 ≤ (s.meter m).owed → u.meter m = s.meter m ∧ (s.counters.freeze = false →
      u.counter (unmetered m) = (s.counter (unmetered m)).bump s.counters.saturate)) ∧
    ((s.meter m).owed < 255 →
      ((s.meter m).driver = .idle → u.meter m = ⟨(s.meter m).owed, .on (u.now + 1620000)⟩) ∧
      ((s.meter m).driver ≠ .idle → u.meter m = ⟨(s.meter m).owed + 1, (s.meter m).driver⟩)))

/-- The coin's units have joined the queue of the current slot, or the bank (R161, R162). -/
def CoinPlaced (c : Chute) (v : Nat) (s u : State) : Prop :=
  (∀ (n : Slot) (k : CoinLine), s.co.record = none → s.co.current = some n → s.router.owner = .slot n →
    (s.profile n).coins.direct = true → (s.profile n).coins.chuteMap.at c = some k →
    let room := 32 - (s.queue n).length
    let queue := s.queue n ++ List.replicate (min v room) k
    Banked (v - room) s u ∧ (∀ m, m ≠ n → u.queue m = s.queue m ∧ u.generator m = s.generator m) ∧
    (s.generator n ≠ .idle ∨ queue = [] →
      u.queue n = queue ∧ u.generator n = s.generator n ∧ u.coins.delivered = s.coins.delivered) ∧
    (∀ line rest, s.generator n = .idle → queue = line :: rest →
      u.queue n = rest ∧ u.coins.delivered = s.coins.delivered + 1 ∧
      u.generator n = .on line (u.now + 27000 * (s.profile n).coins.pulseOn)
        (27000 * (s.profile n).coins.pulseGap))) ∧
  (s.co.record ≠ none ∨ s.co.current = none ∨
      (∃ n, s.co.current = some n ∧ (s.router.owner ≠ .slot n ∨ (s.profile n).coins.direct = false ∨
        (s.profile n).coins.chuteMap.at c = none)) →
    Banked v s u ∧ u.coins.delivered = s.coins.delivered ∧
    ∀ m, u.queue m = s.queue m ∧ u.generator m = s.generator m)

/-- The coin is accepted, counted, metered, placed and reported (R161). -/
def CoinAccepted (c : Chute) (s u : State) : Prop :=
  CoinSaid c .accepted s u ∧ u.coins.accepted = s.coins.accepted + BitVec.ofNat 32 (s.cabinet.chuteValue.at c) ∧
  (s.counters.freeze = false →
    u.counter (chuteAccepted c) = (s.counter (chuteAccepted c)).bump s.counters.saturate) ∧
  CoinMetered c s u ∧ CoinPlaced c (s.cabinet.chuteValue.at c) s u

/-- The coin is judged by the width of its pulse (R158), and the chute is ready. -/
def CoinJudged (c : Chute) (start : Nat) (s u : State) : Prop :=
  (u.chute c).state = .ready ∧ (u.chute c).jamTimer = none ∧ (u.chute c).hostLock = (s.chute c).hostLock ∧
  (u.now - start < 27000 * s.cabinet.chuteMin.at c → CoinRejected c .rejectedShort s u) ∧
  (27000 * s.cabinet.chuteMin.at c ≤ u.now - start → 27000 * s.cabinet.chuteMax.at c < u.now - start →
    CoinRejected c .rejectedLong s u) ∧
  (27000 * s.cabinet.chuteMin.at c ≤ u.now - start → u.now - start ≤ 27000 * s.cabinet.chuteMax.at c →
    s.coins.bank ≤ 65535 → CoinAccepted c s u)

/-- The router's share of the change, before and after, is not seen in what the coin unit makes of it. -/
theorem CoinJudged.congr {c : Chute} {start : Nat} {s s' u u' : State} (h : CoinJudged c start s u)
    (hs : SameOutside [.now, .link, .router] s' s) (howner : s.router.owner = s'.router.owner)
    (hmask : s.link.mask = s'.link.mask) (hu : SameOutside [.link, .router] u u') (hp : Posts [3] u u') :
    CoinJudged c start s' u' := by
  have hcoins := hs.same .coins (by decide)
  have hcounters := hs.same .counters (by decide)
  have hprofiles := hs.same .profiles (by decide)
  have hco := hs.same .co (by decide)
  have hcoins' := hu.same .coins (by decide)
  have hcounters' := hu.same .counters (by decide)
  have hnow' := hu.same .now (by decide)
  simp only [Block.same] at hcoins hcounters hprofiles hco hcoins' hcounters' hnow'
  have hsaid (e : ChuteEvent) (hs : CoinSaid c e s u) : CoinSaid c e s' u' := fun hm => by
    obtain ⟨x, hx, hn⟩ := hs (by rw [hmask]; exact hm)
    refine ⟨x, hp.keeps hx (by rw [hn]; simp [Notice.kind]), ?_⟩
    rw [State.chute, hcoins']
    exact hn
  have hrejected (e : ChuteEvent) (hr : CoinRejected c e s u) : CoinRejected c e s' u' := by
    obtain ⟨hc, hk, hr⟩ := hr
    refine ⟨?_, ?_, hsaid e hr⟩
    · rw [hcoins', hc, turnedReady, turnedReady, State.chute, State.chute, hcoins]
    · rw [hcounters', hk, increment_counters_congr _ hcounters.symm]
  obtain ⟨hready, htimer, hlock, hshort, hlong, haccept⟩ := h
  simp only [CoinJudged, State.chute, State.cabinet, hcoins, hcoins', hprofiles,
    hnow'] at hready htimer hlock hshort hlong haccept ⊢
  refine ⟨hready, htimer, hlock, fun h => hrejected _ (hshort h), fun h h' => hrejected _ (hlong h h'), fun h h' hb => ?_⟩
  obtain ⟨hs, hvalue, hcount, hmeter, hplaced⟩ := haccept h h' hb
  refine ⟨hsaid _ hs, ?_, ?_, ?_, ?_⟩
  · simpa only [hcoins', hcoins, State.cabinet, hprofiles] using hvalue
  · simpa only [State.counter, hcounters', hcounters] using hcount
  · simpa only [CoinMetered, State.meter, State.counter, State.cabinet, hcoins', hcoins, hcounters', hcounters, hprofiles,
      hnow'] using hmeter
  · simpa only [CoinPlaced, Banked, State.queue, State.generator, State.profile, State.cabinet, hcoins', hcoins, hprofiles,
      hco, howner, hnow'] using hplaced

/-! #### The judgement -/

theorem ms_eq (k : Nat) : ms k = 27000 * k := Nat.mul_comm ..

section
variable (c : Chute) (s : State)

/-- The state with the chute ready again. -/
def State.readied : State := s.setChute c { s.chute c with state := .ready, jamTimer := none }

theorem readied_chute : (s.readied c).chute c = { s.chute c with state := .ready, jamTimer := none } := Tab.at_put_self ..

/-- A coin too short or too long. -/
theorem coin_rejected (e : ChuteEvent) :
    CoinRejected c e s (postChute c e (increment (chuteRejected c) (s.readied c))) := by
  have hcoins := (increment_same (chuteRejected c) (s.readied c)).same .coins (by decide)
  have hlink := increment_linkKept (chuteRejected c) (s.readied c)
  have hchute := (increment_chute (chuteRejected c) c (s.readied c)).trans (readied_chute c s)
  have hcounters := increment_counters_congr (chuteRejected c) (t := s.readied c) (s := s) rfl
  simp only [Block.same] at hcoins
  generalize increment (chuteRejected c) (s.readied c) = u at *
  refine ⟨((postChute_same ..).same .coins (by decide)).trans hcoins,
    ((postChute_same ..).same .counters (by decide)).trans hcounters, fun hm => ?_⟩
  obtain ⟨x, hx, hn⟩ := postChute_tells (c := c) (ev := e) (s := u)
    (by rw [(congrArg Link.mask hlink :)]; exact hm)
  refine ⟨x, hx, hn.trans ?_⟩
  rw [hchute]
  rfl

/-- The state of an accepted coin before its units are placed. -/
def coinCounted : State :=
  let t := increment (chuteAccepted c) (s.readied c)
  let t := match s.cabinet.chuteMeter.at c with
    | none => t
    | some m => oweMeter m t
  { t with coins := { t.coins with accepted := t.coins.accepted + BitVec.ofNat 32 (s.cabinet.chuteValue.at c) } }

theorem acceptCoin_eq : acceptCoin c (increment (chuteAccepted c) (s.readied c)) =
    placeUnits c (s.cabinet.chuteValue.at c) (coinCounted c s) := by
  have hprofiles := (increment_same (chuteAccepted c) (s.readied c)).same .profiles (by decide)
  simp only [Block.same] at hprofiles
  have hcabinet : (increment (chuteAccepted c) (s.readied c)).cabinet = s.cabinet := by
    rw [State.cabinet, hprofiles]
    rfl
  unfold acceptCoin coinCounted
  rw [hcabinet] <;> rfl

end

/-- What has been done for an accepted coin before its units are placed. -/
theorem coinCounted_spec (c : Chute) (s : State) :
    let t := coinCounted c s
    SameOutside [.link, .counters, .coins] s t ∧ Posts [5, 6] s t ∧ ReasonsOnly (s.readied c) t ∧
    t.coins = { s.coins with
      accepted := s.coins.accepted + BitVec.ofNat 32 (s.cabinet.chuteValue.at c), meters := t.coins.meters,
      chutes := t.coins.chutes } ∧
    (s.counters.freeze = false →
      t.counter (chuteAccepted c) = (s.counter (chuteAccepted c)).bump s.counters.saturate) ∧
    CoinMetered c s t := by
  have hne (m : Meter) : chuteAccepted c ≠ unmetered m := by revert c m; decide
  have hsame : SameOutside [.link, .counters, .coins] s (increment (chuteAccepted c) (s.readied c)) :=
    (increment_same ..).after ((State.setChute_same ..).mono (by decide)) (by decide)
  have hposts : Posts [5, 6] s (increment (chuteAccepted c) (s.readied c)) :=
    Posts.start ((increment_posts_counter ..).mono (by decide)) rfl
  have hreasons : ReasonsOnly (s.readied c) (increment (chuteAccepted c) (s.readied c)) :=
    .of_chutes fun d => increment_chute ..
  have hcoins := (increment_same (chuteAccepted c) (s.readied c)).same .coins (by decide)
  have hnow := hsame.same .now (by decide)
  have hcount (h : s.counters.freeze = false) (j : CounterId) :
      (increment (chuteAccepted c) (s.readied c)).counter j =
        if j = chuteAccepted c then (s.counter (chuteAccepted c)).bump s.counters.saturate else s.counter j :=
    increment_counter (s := s.readied c) h j
  have hmode : _ ∧ _ := increment_mode (chuteAccepted c) (s.readied c)
  simp only [Block.same] at hcoins hnow
  unfold coinCounted
  dsimp only
  generalize increment (chuteAccepted c) (s.readied c) = u at *
  obtain ⟨hfreeze, hsaturate⟩ := hmode
  have hmeter (m : Meter) : u.meter m = s.meter m := by
    rw [State.meter, hcoins]
    rfl
  cases hm : s.cabinet.chuteMeter.at c with
  | none =>
    refine ⟨hsame.with_coins (by decide), Posts.finish hposts rfl, hreasons, ?_, fun h => ?_, fun m _ => hmeter m,
      fun m h => ?_⟩
    · rw [hcoins]
      rfl
    · exact (hcount h _).trans (if_pos rfl)
    · rw [hm] at h
      cases h
  | some m =>
    dsimp only
    have hdone : SameOutside [.link, .counters, .coins] s (oweMeter m u) := (oweMeter_same ..).after hsame (by decide)
    have htold : Posts [5, 6] s (oweMeter m u) := hposts.trans (oweMeter_posts ..)
    have hdnow := (oweMeter_same m u).same .now (by decide)
    simp only [Block.same] at hdnow
    by_cases hfull : 255 ≤ (s.meter m).owed
    · have howe : oweMeter m u = increment (unmetered m) u := oweMeter_full (by rw [hmeter]; exact hfull)
      have hcoins' := (increment_same (unmetered m) u).same .coins (by decide)
      simp only [Block.same] at hcoins'
      rw [howe] at hdone htold ⊢
      refine ⟨hdone.with_coins (by decide), Posts.finish htold rfl,
        hreasons.trans (.of_chutes fun d => increment_chute (unmetered m) d u), ?_, fun h => ?_, fun l _ => ?_, fun l hl => ?_⟩
      · rw [hcoins', hcoins]
        rfl
      · change (increment (unmetered m) u).counter _ = _
        rw [increment_counter_other (hne m), hcount h, if_pos rfl]
      · change (increment (unmetered m) u).coins.meters.at l = _
        rw [hcoins']
        exact hmeter l
      · obtain rfl : m = l := Option.some.inj (hm.symm.trans hl)
        refine ⟨fun _ => ⟨?_, fun h => ?_⟩, fun hlt => absurd hlt (Nat.not_lt.2 hfull)⟩
        · change (increment (unmetered m) u).coins.meters.at m = _
          rw [hcoins']
          exact hmeter m
        · change (increment (unmetered m) u).counter _ = _
          rw [increment_counter (hfreeze.trans h), if_pos rfl, hsaturate, hcount h, if_neg (hne m).symm]
          rfl
    · obtain ⟨hcoins', howed, hcounters⟩ := oweMeter_owes (m := m) (s := u) (by rw [hmeter]; exact Nat.not_le.1 hfull)
      have htick : tickOwed m u = tickOwed m s := by rw [tickOwed, hmeter, hnow, tickOwed]
      rw [htick] at hcoins'
      generalize oweMeter m u = w at *
      have hw (l : Meter) : w.meter l = if l = m then tickOwed m s else s.meter l := by
        rw [State.meter, hcoins', ← hmeter l]
        exact Tab.at_put ..
      refine ⟨hdone.with_coins (by decide), Posts.finish htold rfl, hreasons.trans howed, ?_, fun h => ?_, fun l hl => ?_,
        fun l hl => ?_⟩
      · generalize hchutes : w.coins.chutes = chutes at *
        rw [hcoins', hcoins]
        rfl
      · change w.counters.table.at _ = _
        rw [hcounters]
        exact (hcount h _).trans (if_pos rfl)
      · refine (hw l).trans (if_neg fun h => hl ?_)
        rw [h, hm]
      · obtain rfl : m = l := Option.some.inj (hm.symm.trans hl)
        refine ⟨fun h => absurd h hfull, fun _ => ⟨fun hidle => ?_, fun hbusy => ?_⟩⟩
        · refine (hw m).trans ((if_pos rfl).trans ?_)
          rw [tickOwed, if_pos hidle]
          change _ = (⟨_, .on (w.now + 1620000)⟩ : MeterRecord)
          rw [hdnow, hnow]
        · refine (hw m).trans ((if_pos rfl).trans ?_)
          rw [tickOwed, if_neg hbusy]

end Sys2Proof.Machine

/-! ### The inputs of the cabinet are debounced: the accepted coin, and the statement (O38) -/

namespace Sys2Proof.Machine

theorem coinTarget_some {c : Chute} {n : Slot} {k : CoinLine} {s : State} (hr : s.co.record = none)
    (hc : s.co.current = some n) (ho : s.router.owner = .slot n) (hd : (s.profile n).coins.direct = true)
    (hm : (s.profile n).coins.chuteMap.at c = some k) : coinTarget c s = some (n, k) := by
  rw [coinTarget, hc]
  dsimp only
  rw [if_pos (by simp [State.inFlight, hr, ho, hd]), hm]
  rfl

theorem coinTarget_none {c : Chute} {s : State} (h : s.co.record ≠ none ∨ s.co.current = none ∨
    (∃ n, s.co.current = some n ∧ (s.router.owner ≠ .slot n ∨ (s.profile n).coins.direct = false ∨
      (s.profile n).coins.chuteMap.at c = none))) : coinTarget c s = none := by
  unfold coinTarget
  split
  · rfl
  · next m hm =>
    dsimp only
    split
    · next hif =>
      simp only [State.inFlight, Bool.and_eq_true, Bool.not_eq_true', beq_iff_eq, Option.isSome_eq_false_iff,
        Option.isNone_iff_eq_none] at hif
      obtain ⟨⟨hr, ho⟩, hd⟩ := hif
      rcases h with h | h | ⟨n, hn, h⟩
      · exact absurd hr h
      · rw [hm] at h
        cases h
      · obtain rfl : m = n := Option.some.inj (hm.symm.trans hn)
        rcases h with h | h | h
        · exact absurd ho h
        · rw [hd] at h
          cases h
        · rw [h]
          rfl
    · rfl

/-- A coin's units are placed as R161 says. -/
theorem placeUnits_placed {s : State} (hb : s.coins.bank ≤ 65535) (c : Chute) (v : Nat) :
    CoinPlaced c v s (placeUnits c v s) := by
  have hnow := (placeUnits_same c v s).same .now (by decide)
  simp only [Block.same] at hnow
  refine ⟨fun n k hr hc ho hd hm => ?_, fun h => placeUnits_bank (coinTarget_none h) hb v⟩
  rw [hnow]
  exact placeUnits_queue (coinTarget_some hr hc ho hd hm) hc ho hb v

/-- An accepted coin, from its counter to its notice. -/
theorem coin_accepted {c : Chute} {s : State} (hb : s.coins.bank ≤ 65535) :
    CoinAccepted c s (postChute c .accepted (acceptCoin c (increment (chuteAccepted c) (s.readied c)))) := by
  have hother (n : Slot) : chuteAccepted c ≠ coinsDelivered n := by revert c n; decide
  have hother' (m : Meter) (n : Slot) : unmetered m ≠ coinsDelivered n := by revert m n; decide
  obtain ⟨hsame, hposts, hreasons, hcoins, hcount, hnone, hsome⟩ := coinCounted_spec c s
  rw [acceptCoin_eq]
  generalize coinCounted c s = t at *
  have hbank : t.coins.bank = s.coins.bank := by rw [hcoins]
  have hplaced := placeUnits_placed (s := t) (by rw [hbank]; exact hb) c (s.cabinet.chuteValue.at c)
  obtain ⟨haccepted, hmeters, hchutes, htold, hcounters⟩ := placeUnits_keeps c (s.cabinet.chuteValue.at c) t
  have hnow := (placeUnits_same c (s.cabinet.chuteValue.at c) t).same .now (by decide)
  generalize placeUnits c (s.cabinet.chuteValue.at c) t = w at *
  have hprofiles := hsame.same .profiles (by decide)
  have hco := hsame.same .co (by decide)
  have hrouter := hsame.same .router (by decide)
  have hcoins' := (postChute_same c .accepted w).same .coins (by decide)
  have hcounters' := (postChute_same c .accepted w).same .counters (by decide)
  have hnow' := (postChute_same c .accepted w).same .now (by decide)
  have hqueues : t.coins.queues = s.coins.queues ∧ t.coins.generators = s.coins.generators ∧
      t.coins.delivered = s.coins.delivered ∧ t.coins.drained = s.coins.drained := by
    rw [hcoins]
    exact ⟨rfl, rfl, rfl, rfl⟩
  obtain ⟨hqueues, hgenerators, hdelivered, hdrained⟩ := hqueues
  simp only [Block.same] at hprofiles hco hrouter hcoins' hcounters' hnow hnow'
  refine ⟨fun hm => ?_, ?_, fun h => ?_, ⟨fun m h => ?_, fun m h => ⟨fun hfull => ⟨?_, fun hf => ?_⟩, fun hlt =>
    ⟨fun hidle => ?_, fun hbusy => ?_⟩⟩⟩, ?_⟩
  · obtain ⟨x, hx, hn⟩ := postChute_tells (c := c) (ev := .accepted) (s := w)
      (by rw [(congrArg Link.mask (hposts.trans htold).linkKept :)]; exact hm)
    refine ⟨x, hx, hn.trans ?_⟩
    rw [hchutes c, hreasons c, readied_chute]
    rfl
  · rw [hcoins', haccepted, hcoins]
  · rw [State.counter, hcounters']
    exact (hcounters _ hother).trans (hcount h)
  · rw [State.meter, hcoins', hmeters]
    exact hnone m h
  · rw [State.meter, hcoins', hmeters]
    exact ((hsome m h).1 hfull).1
  · rw [State.counter, hcounters']
    exact (hcounters _ (hother' m)).trans (((hsome m h).1 hfull).2 hf)
  · rw [State.meter, hcoins', hmeters, hnow', hnow]
    exact ((hsome m h).2 hlt).1 hidle
  · rw [State.meter, hcoins', hmeters]
    exact ((hsome m h).2 hlt).2 hbusy
  · simpa only [CoinPlaced, Banked, State.queue, State.generator, State.profile, State.cabinet, hcoins', hqueues,
      hgenerators, hdelivered, hdrained, hbank, hprofiles, hco, hrouter, hnow'] using hplaced

theorem judgeCoin_eq (c : Chute) (start : Nat) (s : State) : judgeCoin c start s =
    if s.now - start < ms (s.cabinet.chuteMin.at c) then
      postChute c .rejectedShort (increment (chuteRejected c) (s.readied c))
    else if ms (s.cabinet.chuteMax.at c) < s.now - start then
      postChute c .rejectedLong (increment (chuteRejected c) (s.readied c))
    else postChute c .accepted (acceptCoin c (increment (chuteAccepted c) (s.readied c))) := rfl

/-- A coin is judged by the width of its pulse. -/
theorem judgeCoin_judged (c : Chute) (start : Nat) (s : State) : CoinJudged c start s (judgeCoin c start s) := by
  have hchute : ∃ r, (judgeCoin c start s).chute c = { s.readied c |>.chute c with reasons := r } := by
    have hposted (e : ChuteEvent) (u : State) (h : ReasonsOnly (s.readied c) u) :
        ∃ r, (postChute c e u).chute c = { s.readied c |>.chute c with reasons := r } := by
      refine ⟨(u.chute c).reasons, ?_⟩
      rw [State.chute, (postChute_same ..).same .coins (by decide)]
      exact h c
    have hcount (i : CounterId) : ReasonsOnly (s.readied c) (increment i (s.readied c)) :=
      .of_chutes fun d => increment_chute ..
    rw [judgeCoin_eq]
    split_ifs
    · exact hposted _ _ (hcount _)
    · exact hposted _ _ (hcount _)
    · refine hposted _ _ ?_
      rw [acceptCoin_eq]
      obtain ⟨-, -, hreasons, -⟩ := coinCounted_spec c s
      obtain ⟨-, -, hchutes, -⟩ := placeUnits_keeps c (s.cabinet.chuteValue.at c) (coinCounted c s)
      exact hreasons.trans hchutes
  have hnow := (judgeCoin_same c start s).same .now (by decide)
  simp only [Block.same] at hnow
  obtain ⟨r, hr⟩ := hchute
  rw [readied_chute] at hr
  rw [CoinJudged, hr, hnow, ← ms_eq, ← ms_eq]
  refine ⟨rfl, rfl, rfl, fun hshort => ?_, fun hmin hlong => ?_, fun hmin hmax hb => ?_⟩
  · rw [judgeCoin_eq, if_pos hshort]
    exact coin_rejected c s _
  · rw [judgeCoin_eq, if_neg (Nat.not_lt.2 hmin), if_pos hlong]
    exact coin_rejected c s _
  · rw [judgeCoin_eq, if_neg (Nat.not_lt.2 hmin), if_neg (Nat.not_lt.2 hmax)]
    exact coin_accepted hb

end Sys2Proof.Machine

/-! ### Every clause of a debounced change (O38) -/

namespace Sys2Proof.Machine

theorem inputHanded_chute (c : Chute) {i : Input} (h : i.val = 55 + c.val) (active : Bool) (s : State) :
    inputHanded i active s = chuteInput c active (inputJudged i active s) := by
  rw [inputHanded, coinChange_chute c h, menuButton_other (by omega)]

theorem inputJudged_counters {i : Input} (h : 52 ≤ i.val) (active : Bool) (s : State) :
    (inputJudged i active s).counters = s.counters := by
  have hstart : isStart i = false := by simp [isStart, h]
  have hcount : (chordSeen i active s).counters = s.counters := by
    have hstay (t : State) : countStart i active t = t := by
      unfold countStart
      split
      · rw [hstart, Bool.and_false]
        rfl
      · rfl
      · rfl
    rw [chordSeen, hstay, (leaveMask_same ..).same .counters (by decide),
      (updateOrder_same ..).same .counters (by decide)]
    rfl
  exact ((judgeChord_same ..).same .counters (by decide)).trans hcount

theorem inputJudged_posts (i : Input) (active : Bool) (s : State) : Posts counterKinds s (inputJudged i active s) := by
  have hcount : Posts counterKinds s (chordSeen i active s) := by
    refine Posts.start (t := leaveMask i active (updateOrder i active (s.debounce i active))) ?_ ?_
    · unfold chordSeen countStart
      split
      · split
        · exact increment_posts_counter ..
        · exact .refl _ _
      · exact .refl _ _
      · exact .refl _ _
    · exact ((leaveMask_same ..).same .link (by decide)).trans ((updateOrder_same ..).same .link (by decide))
  exact hcount.trans (.of_same (judgeChord_same ..) (by decide))

theorem changeInput_router (i : Input) (active : Bool) (s : State) :
    (changeInput i active s).router = { s.router with
      debounced := s.router.debounced.put i active
      order := (updateOrder i active (s.debounce i active)).router.order
      grantMask := (leaveMask i active (updateOrder i active (s.debounce i active))).router.grantMask
      chordTimer := (inputJudged i active s).router.chordTimer
      chordArmed := (inputJudged i active s).router.chordArmed
      latch := if s.router.owner = .link then s.router.latch.put i true else s.router.latch } := by
  rw [changeInput_eq, reportInput_router, inputHanded_router, inputJudged_router]

/-- The chord as the change leaves it. -/
theorem changeInput_chord (i : Input) (active : Bool) (s : State) :
    (changeInput i active s).router.chordTimer = (inputJudged i active s).router.chordTimer ∧
      (changeInput i active s).router.chordArmed = (inputJudged i active s).router.chordArmed := by
  rw [changeInput_router]
  exact ⟨rfl, rfl⟩

theorem judgeCoin_posts (c : Chute) (start : Nat) (s : State) : Posts [5, 6] s (judgeCoin c start s) := by
  have hcount (i : CounterId) : Posts [5, 6] s (increment i (s.readied c)) :=
    Posts.start ((increment_posts_counter ..).mono (by decide)) rfl
  have hend (e : ChuteEvent) (u : State) : Posts [5, 6] u (postChute c e u) := (postChute_posts ..).mono (by decide)
  rw [judgeCoin_eq]
  split_ifs
  · exact (hcount _).trans (hend ..)
  · exact (hcount _).trans (hend ..)
  · obtain ⟨-, hposts, -⟩ := coinCounted_spec c s
    obtain ⟨-, -, -, htold, -⟩ := placeUnits_keeps c (s.cabinet.chuteValue.at c) (coinCounted c s)
    rw [acceptCoin_eq]
    exact (hposts.trans htold).trans (hend ..)

section
variable {c : Chute} {s : State}

theorem chuteInput_ready (h : (s.chute c).state = .ready) : chuteInput c true s =
    s.setChute c { s.chute c with state := .inPulse s.now, jamTimer := some (s.now + ms 1000) } := by
  unfold chuteInput
  rw [h]

theorem chuteInput_inPulse {start : Nat} (h : (s.chute c).state = .inPulse start) :
    chuteInput c false s = judgeCoin c start s := by
  unfold chuteInput
  rw [h]

theorem chuteInput_jammed (h : (s.chute c).state = .jammed) (active : Bool) : chuteInput c active s =
    s.setChute c { s.chute c with jamTimer := if active then none else some (s.now + ms 2000) } := by
  unfold chuteInput
  rw [h]
  cases active <;> rfl

end

theorem coinChange_linkKept (i : Input) (active : Bool) (s : State) : LinkKept s (coinChange i active s) := by
  unfold coinChange
  split
  · unfold chuteInput
    split
    · exact .of_eq rfl
    · exact (judgeCoin_posts ..).linkKept
    · exact .of_eq rfl
    · exact .of_eq rfl
    · exact .refl _
  · exact .refl _

/-- The MENU input going active posts MENU_CALL, and nothing after it takes the notice away (R153). -/
theorem changeInput_menu {s : State} (h : s.link.mask.at 4 = true) :
    ∃ e ∈ (changeInput 59 true s).link.notices, e.notice = .menuCall false := by
  obtain ⟨e, he, hn, -⟩ := exists_post (n := .menuCall false) (s := inputJudged 59 true s) (fun m => by cases m <;> rfl)
    (by rw [(congrArg Link.mask (inputJudged_posts 59 true s).linkKept :)]; exact h)
  refine ⟨e, ?_, hn⟩
  rw [changeInput_eq, inputHanded, coinChange_none (.inr rfl)]
  exact (reportInput_posts ..).keeps he (by rw [hn]; simp [Notice.kind])

/-- While the owner is LINK the change is reported with the states as they stand (R153). -/
theorem changeInput_tells {i : Input} {active : Bool} {s : State} (h : s.router.owner = .link)
    (hm : s.link.mask.at 3 = true) : ∃ e ∈ (changeInput i active s).link.notices,
      e.notice = .input (changeInput i active s).router.debounced (changeInput i active s).router.latch := by
  rw [changeInput_eq]
  refine reportInput_tells ?_ ?_
  · rw [inputHanded_router, inputJudged_router]
    exact h
  · have hmenu : Posts [4] (inputJudged i active s) (menuButton i active (inputJudged i active s)) := by
      unfold menuButton
      split
      · exact post_posts (n := .menuCall false) (by simp [Notice.kind]) _
      · exact .refl _ _
    have hlink : LinkKept s (inputHanded i active s) :=
      ((inputJudged_posts i active s).linkKept.trans hmenu.linkKept).trans (coinChange_linkKept ..)
    rw [(congrArg Link.mask hlink :)]
    exact hm

/-- Once judged by the router, the change is the coin unit's, and its report leaves the coin unit alone. -/
theorem changeInput_coins (i : Input) (active : Bool) (s : State) :
    (changeInput i active s).coins = (inputHanded i active s).coins ∧
      (changeInput i active s).counters = (inputHanded i active s).counters :=
  ⟨(reportInput_same ..).same .coins (by decide), (reportInput_same ..).same .counters (by decide)⟩

theorem changeInput_coins_kept {i : Input} (h : i.val < 55 ∨ i.val = 59) (active : Bool) (s : State) :
    (changeInput i active s).coins = s.coins := by
  rw [(changeInput_coins ..).1, inputHanded, coinChange_none h]
  exact ((menuButton_same ..).same .coins (by decide)).trans ((inputJudged_same ..).same .coins (by decide))

theorem changeInput_starts {i : Input} {n : Slot} {s : State} (ho : s.router.owner = .slot n)
    (hi : i.val < 52 ∧ i.val % 13 = 12) : (changeInput i true s).counters = (increment (starts n) s).counters := by
  have howner : (leaveMask i true (updateOrder i true (s.debounce i true))).router.owner = .slot n := by
    rw [leaveMask_router, updateOrder_router]
    exact ho
  rw [(changeInput_coins ..).2, inputHanded, coinChange_none (.inl (by omega)), menuButton_other (by omega), inputJudged,
    (judgeChord_same ..).same .counters (by decide), countStart_owner howner hi]
  exact increment_counters_congr _
    (((leaveMask_same ..).same .counters (by decide)).trans ((updateOrder_same ..).same .counters (by decide)))

/-- A coin input's change at a chute that no coin is judged at (R158, R159). -/
theorem changeInput_chute (c : Chute) {i : Input} (h : i.val = 55 + c.val) (active : Bool) (s : State) :
    ((s.chute c).state = .ready → active = true → (changeInput i active s).coins =
      { s.coins with chutes := s.coins.chutes.put c { s.chute c with
        state := .inPulse s.now, jamTimer := some (s.now + 27000000) } }) ∧
    ((s.chute c).state = .jammed → (changeInput i active s).coins =
      { s.coins with chutes := s.coins.chutes.put c { s.chute c with
        jamTimer := if active then none else some (s.now + 54000000) } }) := by
  have hcoins := (inputJudged_same i active s).same .coins (by decide)
  have hnow := (inputJudged_same i active s).same .now (by decide)
  simp only [Block.same] at hcoins hnow
  rw [(changeInput_coins ..).1, inputHanded_chute c h]
  generalize inputJudged i active s = v at *
  have hchute : v.chute c = s.chute c := by rw [State.chute, hcoins, State.chute]
  refine ⟨fun hready hactive => ?_, fun hjammed => ?_⟩
  · rw [hactive, chuteInput_ready (by rw [hchute]; exact hready), hchute, hnow, ← hcoins]
    rfl
  · rw [chuteInput_jammed (by rw [hchute]; exact hjammed), hchute, hnow, ← hcoins]
    rfl

/-- A coin input's release at a chute in a pulse has the coin judged (R158). -/
theorem changeInput_judged (c : Chute) {i : Input} {start : Nat} (h : i.val = 55 + c.val) {s : State}
    (hp : (s.chute c).state = .inPulse start) : CoinJudged c start s (changeInput i false s) := by
  have hsame := inputJudged_same i false s
  have hcounters := inputJudged_counters (i := i) (by omega) false s
  have hlink := (inputJudged_posts i false s).linkKept
  have hcoins := hsame.same .coins (by decide)
  have howner : (inputJudged i false s).router.owner = s.router.owner := by rw [inputJudged_router]
  simp only [Block.same] at hcoins
  have hchute : (inputJudged i false s).chute c = s.chute c := by rw [State.chute, hcoins, State.chute]
  have hhanded : inputHanded i false s = judgeCoin c start (inputJudged i false s) := by
    rw [inputHanded_chute c h, chuteInput_inPulse (hchute ▸ hp)]
  have hjudged := judgeCoin_judged c start (inputJudged i false s)
  rw [← hhanded] at hjudged
  refine hjudged.congr ⟨fun b hb => ?_⟩ howner (congrArg Link.mask hlink :) ((reportInput_same ..).mono (by decide))
    (reportInput_posts ..)
  by_cases hcount : b = .counters
  · rw [hcount]
    exact hcounters
  · exact hsame.same b (by simp only [List.mem_cons, List.not_mem_nil, or_false] at hb ⊢; tauto)

/-- The state in which a debounce timer's end is judged. -/
def State.settled (s : State) (i : Input) (t : DebounceTimer) : State :=
  { s.reach t.expiry with router := { s.router with timers := s.router.timers.put i none } }

theorem debounceExpires_eq {i : Input} {s : State} {t : DebounceTimer} (h : s.router.timers.at i = some t) :
    debounceExpires i s = changeInput i t.target (s.settled i t) := by
  rw [debounceExpires, h]
  rfl

theorem settled_same (s : State) (i : Input) (t : DebounceTimer) : SameOutside [.now, .router] s (s.settled i t) :=
  ((State.reach_same ..).mono (by decide)).with_router (by decide)

/-- Settles O38: the raw change by its two cases, and the debounced change by the lemma on each part of it. -/
theorem inputsAreDebounced : Obligations.InputsAreDebounced := by
  intro dt i closed s
  refine ⟨fun hp => ?_, fun hp => ⟨fun h => ?_, fun h => ?_, fun h => ?_, fun t ht => ?_⟩⟩
  · exact if_neg (by simp [hp])
  · rw [exec_rawInputChange dt i closed hp, rawChange, if_pos (by exact h)]
    rfl
  · rw [exec_rawInputChange dt i closed hp, rawChange, if_neg (by exact h), ms_eq]
    rfl
  · rw [exec_debounceExpiry i hp, debounceExpires, h]
  refine ⟨_, (exec_debounceExpiry i hp).trans (by rw [debounceExpires_eq ht]), ?_⟩
  have hsame := changeInput_same i t.target (s.settled i t)
  have hrouter := changeInput_router i t.target (s.settled i t)
  have hnow : (changeInput i t.target (s.settled i t)).now = max s.now t.expiry := hsame.same .now (by decide)
  obtain ⟨htimer, harmed⟩ := changeInput_chord i t.target (s.settled i t)
  obtain ⟨hunnamed, hnamed⟩ := inputJudged_chord i t.target (s.settled i t)
  refine ⟨hnow, ?_, ?_, ?_, ?_, ?_, fun howner => ⟨?_, changeInput_tells (s := s.settled i t) (by exact howner)⟩, fun howner => ?_,
    fun n howner htarget hi => ?_, fun htarget l hl => ?_, fun p q d hi hd => ?_, fun hi => ?_, ?_,
    fun hi htarget hm => ?_, fun hi => changeInput_coins_kept hi .., fun c hi htarget hready => ?_, fun c hi hjammed => ?_,
    fun c start hi htarget hpulse => ?_, hsame.after ((settled_same s i t).mono (by decide)) (by decide)⟩
  · rw [hrouter]
    rfl
  · rw [hrouter]
    rfl
  · rw [hrouter]
    rfl
  · rw [hrouter]
    rfl
  · rw [hrouter]
    rfl
  · rw [hrouter]
    exact if_pos howner
  · rw [hrouter]
    exact if_neg howner
  · rw [htarget]
    exact (changeInput_starts (s := s.settled i t) howner hi).trans (increment_counters_congr _ rfl)
  · rw [hrouter, htarget]
    exact leaveMask_released hl _
  · rw [hrouter]
    exact updateOrder_direction (dirOf_some hi hd) ..
  · rw [hrouter, updateOrder, dirOf_none hi]
    rfl
  · intro chordKept
    refine ⟨fun h => ?_, fun a b h => ?_⟩
    · obtain ⟨h1, h2⟩ := hunnamed h
      exact ⟨htimer.trans h1, harmed.trans h2⟩
    · obtain ⟨hother, hone⟩ := hnamed a b h
      refine ⟨fun ha hb => ?_, fun hi => ?_⟩
      · obtain ⟨h1, h2⟩ := hother ha hb
        exact ⟨htimer.trans h1, harmed.trans h2⟩
      · obtain ⟨hreleased, hpressed, hidle⟩ := hone hi
        intro held
        have hheld : held = ∀ j : Input, j.val = a.val ∨ j.val = b.val →
            ((s.settled i t).router.debounced.put i t.target).at j = true := by
          simp only [held, hrouter]
        rw [hheld, hnow, ← ms_eq]
        refine ⟨fun h => ?_, fun h hall harm => ?_, fun h hnot => ?_⟩
        · obtain ⟨h1, h2⟩ := hreleased h
          exact ⟨htimer.trans h1, harmed.trans h2⟩
        · obtain ⟨h1, h2⟩ := hpressed h hall harm
          exact ⟨htimer.trans h1, harmed.trans h2⟩
        · obtain ⟨h1, h2⟩ := hidle h hnot
          exact ⟨htimer.trans h1, harmed.trans h2⟩
  · rw [hi, htarget]
    exact changeInput_menu (s := s.settled 59 t) hm
  · rw [hnow]
    exact (changeInput_chute c hi t.target (s.settled i t)).1 hready htarget
  · rw [hnow]
    exact (changeInput_chute c hi t.target (s.settled i t)).2 hjammed
  · rw [htarget]
    obtain ⟨hready, htime, hlock, hshort, hlong, haccept⟩ := (changeInput_judged c (s := s.settled i t) hi hpulse).congr
      ((settled_same s i t).mono (by decide)) rfl rfl (.refl _ _) (.refl _ _)
    refine ⟨hready, htime, hlock, hshort, hlong, fun hmin hmax hb => ?_⟩
    obtain ⟨hsaid, hvalue, hcount, ⟨hnone, hsome⟩, hplaced⟩ := haccept hmin hmax hb
    exact ⟨hsaid, hvalue, hcount, hnone, hsome, hplaced⟩

end Sys2Proof.Machine

/-! ### A changeover that fails (O31) -/

namespace Sys2Proof.Machine

/-! #### A park of a slot without the controls counts nothing -/

section
variable {n : Slot} {s : State}

theorem enter_counters (h : Apart n s) (new : SlotState) (cause : SlotCause) :
    (enter n new cause s).counters = s.counters := by
  rw [enter_apart h]
  exact (post_same ..).same .counters (by decide)

theorem leaveSupplied_counters (h : Apart n s) (new : SlotState) (cause : SlotCause) :
    (leaveSupplied n new cause s).counters = s.counters := by
  have hwithdrawn := withdrawApply_same n s
  have hrouter : (withdrawApply n s).router = s.router := hwithdrawn.same .router (by decide)
  unfold leaveSupplied
  dsimp only
  refine ((supplyOff_same ..).same .counters (by decide)).trans (((returnQueue_same ..).same .counters (by decide)).trans
    (((cutPulse_same ..).same .counters (by decide)).trans ((enter_counters ?_ ..).trans
      (hwithdrawn.same .counters (by decide)))))
  rw [Apart] at h ⊢
  exact hrouter ▸ h

theorem parkNotRunning_counters (h : Apart n s) : (parkNotRunning n s).counters = s.counters := by
  unfold parkNotRunning
  split
  · rfl
  · exact (withdrawApply_same n s).same .counters (by decide)
  · exact enter_counters (s := s.setSlot n _) h ..
  all_goals rfl

theorem park_counters (h : Apart n s) : (park n s).counters = s.counters := by
  unfold park
  split
  · unfold parkRun
    split
    · exact enter_counters (s := s.setSlot n _) h ..
    · rfl
  · unfold parkFreeze
    dsimp only
    split
    · exact enter_counters (s := s.setSlot n _) h ..
    · rfl
    all_goals exact parkNotRunning_counters h
  · unfold parkHold
    split
    · exact enter_counters (s := s.setSlot n _) h ..
    · exact enter_counters (s := (s.setSlot n _).setSlot n _) h ..
    all_goals exact parkNotRunning_counters h
  · split
    · exact leaveSupplied_counters h ..
    · rfl

end

theorem parkTarget_counters {r : Record} {e : Bool} {s : State} (h : ∀ n, Apart n s) :
    (parkTarget r e s).counters = s.counters := by
  unfold parkTarget
  split
  · rfl
  · split
    · exact park_counters (h _)
    · rfl

/-! #### The next changeover -/

/-- The start that follows a changeover which failed (R93). -/
def nextStart (r : Record) (s : State) : Start :=
  match s.co.pending with
  | some q => ⟨q.tag, q.target, false, none⟩
  | none =>
    match returnDue r s with
    | some n => ⟨0, some n, true, none⟩
    | none => ⟨0, none, false, none⟩

theorem setPending_none {s : State} (h : s.co.pending = none) : setPending none s = s := by
  unfold setPending
  rw [← h]

theorem startNext_eq (r : Record) (s : State) : startNext r s = startChangeover (nextStart r s) (setPending none s) := by
  unfold startNext nextStart
  cases hp : s.co.pending with
  | some q => rfl
  | none =>
    rw [setPending_none hp]
    dsimp only
    cases returnDue r s <;> rfl

theorem returnDue_iff (r : Record) (s : State) : returnDue r s =
    match r.source with
    | none => none
    | some n =>
      if s.cabinet.fallbackReturn = true ∧ r.isReturn = false ∧ (s.slot n).state ≠ .empty ∧ (s.slot n).state ≠ .fault
      then some n else none := by
  unfold returnDue
  cases r.source with
  | none => rfl
  | some n =>
    dsimp only
    congr 1
    simp [and_assoc]

end Sys2Proof.Machine

namespace Sys2Proof.Machine

/-! #### The changeover ended: what is the same for every end before GRANT (R89, R93) -/

/-- The blocks a changeover's end changes before the next start. -/
def endBlocks : List Block :=
  [.link, .counters, .slots, .bus, .monitors, .co, .frame, .pic, .snd, .router, .coins, .reports]

/-- `c` is the part once the changeover of record `r` has been given up at `s`: the writer disabled, `to` parked unless it
is `from`, the record gone and its outcome reported. -/
structure GivenUp (r : Record) (o : CoOutcome) (s c : State) : Prop where
  same : SameOutside endBlocks s c
  co : c.co = { s.co with record := none }
  frame : c.frame = { s.frame with writer := none, buffers := c.frame.buffers }
  parked : ∀ n, r.target = some n → r.source ≠ some n → Parked (s.profile n).general (s.slot n) (c.slot n)
  kept : ∀ n, r.target ≠ some n ∨ r.source = some n → c.slot n = s.slot n
  tells : s.link.mask.at 0 = true →
    ∃ e ∈ c.link.notices, ∃ d, e.notice = .changeoverDone d ∧ d = { r.report o with superseded := d.superseded }

/-- A changeover given up, from the state `t` with its writer disabled to the state `u` with its end counted. -/
theorem GivenUp.of_parked {r : Record} {o : CoOutcome} {s t u : State} (ht : SameOutside [.link, .frame, .pic, .snd] s t)
    (hmask : t.link.mask = s.link.mask)
    (hframe : t.frame = { s.frame with writer := none, buffers := t.frame.buffers })
    (hu : SameOutside [.link, .counters] (parkTarget r false t) u)
    (hkept : LinkKept (parkTarget r false t) u) : GivenUp r o s (closeRecord r o u) := by
  have hslots := ht.same .slots (by decide)
  have hprofiles := ht.same .profiles (by decide)
  have hco := ht.same .co (by decide)
  have huslots := hu.same .slots (by decide)
  have huframe := hu.same .frame (by decide)
  have huco := hu.same .co (by decide)
  have hpco := (parkTarget_same r false t).same .co (by decide)
  have hclose := closeRecord_same r o u
  obtain ⟨hparked, hstill, hbuffers, hsame⟩ := parkTarget_spec r false t
  have hpmask := (congrArg Link.mask ((parkTarget_posts r false t).linkKept.trans hkept) :)
  simp only [Block.same] at hslots hprofiles hco huslots huframe huco hpco
  have hslot (n : Slot) : t.slot n = s.slot n := by rw [State.slot, hslots, State.slot]
  have hprofile (n : Slot) : t.profile n = s.profile n := by rw [State.profile, hprofiles, State.profile]
  have hcslot (n : Slot) : (closeRecord r o u).slot n = (parkTarget r false t).slot n := by
    rw [State.slot, hclose.same .slots (by decide), huslots, State.slot]
  refine ⟨?_, ?_, ?_, fun n hn hs => ?_, fun n hn => ?_, fun hm => ?_⟩
  · have hbefore : SameOutside endBlocks s u :=
      (hu.mono (by decide)).after ((hsame.mono (by decide)).after (ht.mono (by decide)) (fun _ h => h)) (fun _ h => h)
    exact (hclose.mono (by decide)).after hbefore (fun _ h => h)
  · have hpost (m : Notice) : (post m u).co = u.co := (post_same ..).same .co (by decide)
    unfold closeRecord setRecord
    dsimp only
    rw [hpost, huco, hpco, hco]
  · rw [hclose.same .frame (by decide), huframe, hbuffers, hframe]
  · rw [hcslot, ← hslot, ← hprofile]
    exact hparked n hn (.inr hs)
  · rw [hcslot, ← hslot]
    exact hstill n (hn.imp_right fun h => ⟨rfl, h⟩)
  · obtain ⟨e, he, d, hd, hfields, -⟩ := closeRecord_tells_host r o (s := u) (by
      rw [hpmask, hmask]
      exact hm)
    exact ⟨e, he, d, hd, hfields⟩

/-! #### The supersession (R89) -/

theorem supersede_eq (r : Record) (q : Pending) (s : State) : supersede r q s =
    startChangeover ⟨q.tag, q.target, false, none⟩
      (setPending none (closeRecord r .superseded (parkTarget r false (disableWriter s)))) := rfl

theorem superseded_givenUp (r : Record) (s : State) :
    GivenUp r .superseded s (closeRecord r .superseded (parkTarget r false (disableWriter s))) :=
  .of_parked ((disableWriter_same s).mono (by decide)) (congrArg Link.mask (disableWriter_posts s).linkKept :)
    (disableWriter_frame s) (.refl _ _) (.refl _)

/-! #### The failure (R93) -/

/-- The part with the writer disabled and both fades stopped. -/
def failStopped (s : State) : State := stopSoundFade (stopPictureFade (disableWriter s))

/-- The part with the failed changeover parked, counted and reported. -/
def failReported (r : Record) (o : CoOutcome) (s : State) : State :=
  closeRecord r o (countFailure r (parkTarget r false (failStopped s)))

theorem fail_eq (r : Record) (o : CoOutcome) (s : State) : fail r o s =
    startChangeover (nextStart r (failReported r o s)) (setPending none (failReported r o s)) :=
  startNext_eq r (failReported r o s)

theorem failReported_givenUp (r : Record) (o : CoOutcome) (s : State) : GivenUp r o s (failReported r o s) := by
  refine .of_parked (t := failStopped s) ?_ (congrArg Link.mask (disableWriter_posts s).linkKept :)
    (disableWriter_frame s) (countFailure_same ..) (countFailure_posts ..).linkKept
  exact (((disableWriter_same s).mono (by decide)).with_pic (by decide)).with_snd (by decide)

theorem failReported_picture (r : Record) (o : CoOutcome) (s : State) :
    (failReported r o s).pic.level = s.pic.level ∧ (failReported r o s).pic.fade = none ∧
      (failReported r o s).snd = { s.snd with fade := none } := by
  obtain ⟨-, -, -, hsame⟩ := parkTarget_spec r false (failStopped s)
  have hpic : (failReported r o s).pic = (failStopped s).pic :=
    ((closeRecord_same ..).same .pic (by decide)).trans
      (((countFailure_same ..).same .pic (by decide)).trans (hsame.same .pic (by decide)))
  have hsnd : (failReported r o s).snd = (failStopped s).snd :=
    ((closeRecord_same ..).same .snd (by decide)).trans
      (((countFailure_same ..).same .snd (by decide)).trans (hsame.same .snd (by decide)))
  have hstopped : (disableWriter s).snd = s.snd := (disableWriter_same s).same .snd (by decide)
  rw [hpic, hsnd]
  refine ⟨(disableWriter_pic s).1, rfl, ?_⟩
  change { (disableWriter s).snd with fade := none } = _
  rw [hstopped]

theorem failReported_counts {r : Record} {o : CoOutcome} {s : State} (hr : s.co.record ≠ none) (hs : OwnerSound s)
    {n : Slot} (hn : r.target = some n) (hf : s.counters.freeze = false) :
    (failReported r o s).counters.table = s.counters.table.put (lockFailures n)
      ((s.counter (lockFailures n)).bump s.counters.saturate) := by
  obtain ⟨howner, hclaim⟩ := hs
  have hrouter : (failStopped s).router = s.router := (disableWriter_same s).same .router (by decide)
  have hcounters : (failStopped s).counters = s.counters := (disableWriter_same s).same .counters (by decide)
  have hapart (m : Slot) : Apart m (failStopped s) := by
    rw [Apart, hrouter]
    exact ⟨fun h => hr (howner m h).2.1, fun h => hr (hclaim m h).2⟩
  have hparked : (parkTarget r false (failStopped s)).counters = s.counters := (parkTarget_counters hapart).trans hcounters
  have hcount : (failReported r o s).counters = (increment (lockFailures n) s).counters := by
    refine ((closeRecord_same ..).same .counters (by decide)).trans ?_
    rw [countFailure, hn]
    exact increment_counters_congr _ hparked
  rw [hcount, increment_counters, if_neg (by rw [hf]; exact Bool.false_ne_true)]

end Sys2Proof.Machine

namespace Sys2Proof.Machine

/-! #### The changeover that follows one given up -/

/-- What stands once the next changeover has started from a part whose changeover was given up. -/
structure Restarts (r : Record) (o : CoOutcome) (st : Start) (s t : State) : Prop where
  writer : t.frame.writer = none
  blank : t.frame.blank = s.frame.blank
  current : t.co.current = s.co.current
  pending : t.co.pending = none
  watch : t.co.watch = .stopped
  record : ∃ r', t.co.record = some r' ∧ r'.phase = .quiesce ∧ r'.source = s.co.current ∧ r'.reason = st.reason ∧
    r'.tag = st.tag ∧ r'.target = st.target ∧ r'.isReturn = st.isReturn
  parked : ∀ n, r.target = some n → r.source ≠ some n → Parked (s.profile n).general (s.slot n) (t.slot n)
  kept : ∀ n, r.target ≠ some n ∨ r.source = some n → t.slot n = s.slot n
  tells : s.link.mask.at 0 = true →
    ∃ e ∈ t.link.notices, ∃ d, e.notice = .changeoverDone d ∧ d = { r.report o with superseded := d.superseded }
  same : SameOutside endBlocks s t

theorem startChangeover_frame (st : Start) (s : State) :
    (startChangeover st s).frame = if s.cabinet.holdStyle then { s.frame with hold := true } else s.frame := by
  obtain ⟨hhold, hfade⟩ := startChangeover_picture st s
  cases hstyle : s.cabinet.holdStyle with
  | true => exact (hhold hstyle).1
  | false => exact (hfade hstyle).1

theorem GivenUp.restarts {r : Record} {o : CoOutcome} {s c : State} (h : GivenUp r o s c) (st : Start) :
    Restarts r o st s (startChangeover st (setPending none c)) := by
  have hco := startChangeover_co st (setPending none c)
  have hframe := startChangeover_frame st (setPending none c)
  have hposts : Posts ownerKinds c (startChangeover st (setPending none c)) :=
    Posts.start (startChangeover_posts ..) rfl
  have hsame := startChangeover_same st (setPending none c)
  have hslot (n : Slot) : (startChangeover st (setPending none c)).slot n = c.slot n := by
    rw [State.slot, hsame.same .slots (by decide)]
    rfl
  have hcurrent : c.co.current = s.co.current := by rw [h.co]
  have hrecord : newRecord st (setPending none c) = newRecord st c := rfl
  rw [hrecord] at hco
  have hwriter : c.frame.writer = none ∧ c.frame.blank = s.frame.blank := by
    rw [h.frame]
    exact ⟨rfl, rfl⟩
  obtain ⟨hwriter, hblank⟩ := hwriter
  have hset : SameOutside endBlocks s (setPending none c) := (setPending_same ..).after h.same (by decide)
  have hall : SameOutside endBlocks s (startChangeover st (setPending none c)) :=
    (hsame.mono (by decide)).after hset (fun _ h => h)
  generalize startChangeover st (setPending none c) = t at *
  refine ⟨?_, ?_, ?_, ?_, ?_, ⟨_, (congrArg Controller.record hco :), rfl, hcurrent, rfl, rfl, rfl, rfl⟩,
    fun n hn hs => ?_, fun n hn => ?_, fun hm => ?_, hall⟩
  · rw [hframe]
    split <;> exact hwriter
  · rw [hframe]
    split <;> exact hblank
  · rw [hco]
    exact hcurrent
  · rw [hco]
    rfl
  · rw [hco]
  · rw [hslot]
    exact h.parked n hn hs
  · rw [hslot]
    exact h.kept n hn
  · obtain ⟨e, he, d, hd, hfields⟩ := h.tells hm
    exact ⟨e, hposts.keeps he (by rw [hd]; simp [Notice.kind, ownerKinds]), d, hd, hfields⟩

theorem fail_restarts (r : Record) (o : CoOutcome) (s : State) :
    Restarts r o (nextStart r (failReported r o s)) s (fail r o s) := by
  rw [fail_eq]
  exact (failReported_givenUp r o s).restarts _

theorem supersede_restarts (r : Record) (q : Pending) (s : State) :
    Restarts r .superseded ⟨q.tag, q.target, false, none⟩ s (supersede r q s) := by
  rw [supersede_eq]
  exact (superseded_givenUp r s).restarts _

/-- The start that follows a failure, read off the part at the failure. -/
theorem nextStart_reported (r : Record) (o : CoOutcome) (s : State) :
    nextStart r (failReported r o s) = nextStart r s := by
  have h := failReported_givenUp r o s
  have hprofiles := h.same.same .profiles (by decide)
  simp only [Block.same] at hprofiles
  have hcabinet : (failReported r o s).cabinet = s.cabinet := by rw [State.cabinet, hprofiles, State.cabinet]
  have hpending : (failReported r o s).co.pending = s.co.pending := by rw [h.co]
  have hreturn : returnDue r (failReported r o s) = returnDue r s := by
    rw [returnDue_iff, returnDue_iff]
    cases hsource : r.source with
    | none => rfl
    | some n =>
      dsimp only
      rw [hcabinet, h.kept n (.inr hsource)]
  rw [nextStart, nextStart, hpending, hreturn]

theorem nextStart_pending {r : Record} {q : Pending} {s : State} (h : s.co.pending = some q) :
    nextStart r s = ⟨q.tag, q.target, false, none⟩ := by
  rw [nextStart, h]

theorem nextStart_return {r : Record} {s : State} (h : s.co.pending = none) :
    (nextStart r s).tag = 0 ∧ (nextStart r s).target = returnDue r s ∧
      (nextStart r s).isReturn = (returnDue r s).isSome := by
  rw [nextStart, h]
  dsimp only
  cases returnDue r s <;> exact ⟨rfl, rfl, rfl⟩

theorem nextStart_reason (r : Record) (s : State) : (nextStart r s).reason = none := by
  unfold nextStart
  split
  · rfl
  · split <;> rfl

/-- The picture and the sound after a failure: the fades of the next start go on from where they stood. -/
theorem fail_picture (r : Record) (o : CoOutcome) (s : State) :
    let t := fail r o s
    (s.cabinet.holdStyle = true → t.frame.hold = true ∧ t.pic.level = s.pic.level ∧ t.pic.fade = none) ∧
    (s.cabinet.holdStyle = false → t.frame.hold = s.frame.hold ∧
      (s.co.current = none ∨ s.cabinet.videoFade = 0 ∨ s.pic.level = 0 → t.pic.level = 0 ∧ t.pic.fade = none) ∧
      (s.co.current ≠ none → s.cabinet.videoFade ≠ 0 → s.pic.level ≠ 0 → t.pic.level = s.pic.level ∧
        t.pic.fade = some ⟨false, s.cabinet.videoFade, s.pic.level, s.now, 0⟩)) ∧
    (s.co.current = none ∨ s.cabinet.audioFade = 0 ∨ s.snd.gain = 0 → t.snd.gain = 0 ∧ t.snd.fade = none) ∧
    (s.co.current ≠ none → s.cabinet.audioFade ≠ 0 → s.snd.gain ≠ 0 → t.snd.gain = s.snd.gain ∧
      t.snd.fade = some ⟨false, s.cabinet.audioFade, s.snd.gain, s.now, 0⟩) := by
  have h := failReported_givenUp r o s
  obtain ⟨hlevel, hfade, hsnd⟩ := failReported_picture r o s
  have hprofiles := h.same.same .profiles (by decide)
  have hnow := h.same.same .now (by decide)
  simp only [Block.same] at hprofiles hnow
  have hcabinet : (setPending none (failReported r o s)).cabinet = s.cabinet := by
    rw [State.cabinet, setPending, hprofiles, State.cabinet]
  have hcurrent : (setPending none (failReported r o s)).co.current = s.co.current := by
    rw [setPending, h.co]
  have hhold : (setPending none (failReported r o s)).frame.hold = s.frame.hold := by
    rw [setPending, h.frame]
  have hgain : (setPending none (failReported r o s)).snd.gain = s.snd.gain := by rw [setPending, hsnd]
  have hpicture := startChangeover_picture (nextStart r (failReported r o s)) (setPending none (failReported r o s))
  have hsound := startChangeover_sound (nextStart r (failReported r o s)) (setPending none (failReported r o s))
  have hlevel' : (setPending none (failReported r o s)).pic.level = s.pic.level := hlevel
  have hfade' : (setPending none (failReported r o s)).pic.fade = none := hfade
  have hnow' : (setPending none (failReported r o s)).now = s.now := hnow
  intro t
  have ht : t = startChangeover (nextStart r (failReported r o s)) (setPending none (failReported r o s)) := fail_eq r o s
  rw [ht]
  rw [hcabinet, hcurrent, hgain, hnow'] at hsound
  rw [hcabinet, hcurrent, hlevel', hnow'] at hpicture
  generalize setPending none (failReported r o s) = c at *
  obtain ⟨hheld, hfades⟩ := hpicture
  refine ⟨fun hstyle => ?_, fun hstyle => ?_, hsound⟩
  · obtain ⟨hframe, hpic⟩ := hheld hstyle
    rw [hframe, hpic]
    exact ⟨rfl, hlevel', hfade'⟩
  · obtain ⟨hframe, hfades⟩ := hfades hstyle
    refine ⟨?_, hfades⟩
    rw [hframe]
    exact hhold

end Sys2Proof.Machine

/-! ### The ends of WAKE, LOCK and QUIESCE (O31) -/

namespace Sys2Proof.Machine

theorem hasReady_iff (n : Slot) (s : State) :
    hasReady n s = true ↔ ∃ b, (s.buffer b).state = .ready ∧ (s.buffer b).source = some n := by
  rw [hasReady, Bool.not_eq_true', List.isEmpty_eq_false_iff_exists_mem]
  simp only [mem_readyBuffers_of]

theorem fadesDone_iff (r : Record) (s : State) :
    fadesDone r s = true ↔ s.snd.fade = none ∧ (r.holdStyle = true ∨ s.pic.fade = none) := by
  simp [fadesDone]

/-- A slot's frame is shown: its signal is locked and it has a READY buffer. -/
theorem retimeDone_iff (r : Record) (s : State) :
    retimeDone r s = true ↔ s.out.settle = none ∧ ∀ n, r.target = some n → (s.monitor n.source).state = .locked ∧
      ∃ b, (s.buffer b).state = .ready ∧ (s.buffer b).source = some n := by
  rw [retimeDone, Bool.and_eq_true, Option.isNone_iff_eq_none]
  cases r.target with
  | none => exact and_congr_right fun _ => ⟨fun _ n h => absurd h.symm (Option.some_ne_none n), fun _ => rfl⟩
  | some n =>
    dsimp only
    rw [Bool.and_eq_true, hasReady_iff, beq_iff_eq]
    exact and_congr_right fun _ => ⟨fun ⟨hb, hl⟩ m hm => Option.some.inj hm ▸ ⟨hl, hb⟩, fun h => (h n rfl).symm⟩

theorem advancePhase_reveal {s : State} {r : Record} (hr : s.co.record = some r) (hp : r.phase = .reveal) :
    advancePhase s = if fadesDone r s then grant r s else s := by
  unfold advancePhase
  rw [hr]
  dsimp only
  rw [hp]

/-! #### LOCK judged (R84) -/

/-- The record once an acceptable lock has been taken. -/
def Record.locked (r : Record) (s : State) : Record := { r with lockSeen := true, lockLimit := limitAfterLock r s }

section
variable {r : Record} {n : Slot} {s : State}

theorem judgeLock_mismatch (h : decision n s = none) : judgeLock r n s = fail r .classMismatch s :=
  if_neg (by simp [acceptable, h])

theorem judgeLock_done (h : (decision n s).isSome = true) (hc : r.checkApplies = false) :
    judgeLock r n s = endLock (r.locked s) s := by
  unfold judgeLock
  rw [if_pos (show acceptable n s = true from h)]
  dsimp only
  exact if_neg (by rw [hc]; exact Bool.false_ne_true)

theorem judgeLock_checks (h : (decision n s).isSome = true) (hc : r.checkApplies = true) :
    judgeLock r n s =
      if s.frame.writer = some n then setRecord (some (r.locked s)) s
      else enableWriter n (latchWindow n (setRecord (some (r.locked s)) s)) := by
  unfold judgeLock
  rw [if_pos (show acceptable n s = true from h)]
  dsimp only
  exact if_pos hc

/-- The resume check's field is awaited with the writer on `to` (R85). -/
theorem judgeLock_awaits (h : (decision n s).isSome = true) (hc : r.checkApplies = true) :
    (judgeLock r n s).co = { s.co with record := some (r.locked s) } ∧ (judgeLock r n s).frame.writer = some n ∧
      SameOutside [.link, .co, .frame, .pic] s (judgeLock r n s) := by
  rw [judgeLock_checks h hc]
  have hset : SameOutside [.link, .co, .frame, .pic] s (setRecord (some (r.locked s)) s) :=
    (setRecord_same ..).mono (by decide)
  have hlatched : SameOutside [.link, .co, .frame, .pic] s (latchWindow n (setRecord (some (r.locked s)) s)) :=
    (latchWindow_same ..).after hset (by decide)
  split
  · next hw => exact ⟨rfl, hw, hset⟩
  · exact ⟨(enableWriter_same ..).same .co (by decide), congrArg FrameStore.writer (enableWriter_frame ..),
      (enableWriter_same ..).after hlatched (by decide)⟩

theorem limitAfterLock_eq {t : Nat} (h : r.lockLimit = some t) :
    limitAfterLock r s = if s.now < t then some t else none := by
  rw [limitAfterLock, h, Option.filter]
  simp

end

/-! #### The end of QUIESCE (R80, R81, R167) -/

theorem quiesced_same (r : Record) (s : State) : SameOutside [.link, .frame, .pic, .coins] s (quiesced r s) :=
  ((endQuiesceCoins_same ..).mono (by decide)).after ((holdDisabled_same r s).mono (by decide)) (fun _ h => h)

theorem endQuiesce_cases (r : Record) (s : State) : endQuiesce r s =
    match s.co.pending with
    | none => enterPark r (quiesced r s)
    | some _ => endLock r (quiesced r s) := by
  have hco : (quiesced r s).co = s.co := (quiesced_same r s).same .co (by decide)
  change (match (quiesced r s).co.pending with
    | some p => supersede r p (quiesced r s)
    | none => enterPark r (quiesced r s)) = _
  cases hp : s.co.pending with
  | none => rw [hco, hp]
  | some q => rw [endLock, hco, hp]

theorem quiesced_frame (r : Record) (s : State) :
    (r.holdStyle = true → (quiesced r s).frame.writer = none) ∧
      (r.holdStyle = false → (quiesced r s).frame = s.frame ∧ (quiesced r s).pic = s.pic) := by
  have hframe : (quiesced r s).frame = (holdDisabled r s).frame := (endQuiesceCoins_same ..).same .frame (by decide)
  have hpic : (quiesced r s).pic = (holdDisabled r s).pic := (endQuiesceCoins_same ..).same .pic (by decide)
  rw [hframe, hpic, holdDisabled]
  refine ⟨fun h => ?_, fun h => ?_⟩
  · rw [if_pos h, disableWriter_frame]
  · rw [if_neg (by rw [h]; exact Bool.false_ne_true)]
    exact ⟨rfl, rfl⟩

/-- A pulse cut while its slot's units go to the bank (R167). -/
theorem cutPulse_toBank {n : Slot} {line : CoinLine} {e gap : Nat} {s : State} (h : s.generator n = .on line e gap) :
    cutPulse n true s = addUnits 1 (unitCut n gap s) := by
  unfold cutPulse
  rw [h]
  rfl

theorem cutPulse_idle {n : Slot} {s : State} (h : ∀ line e gap, s.generator n ≠ .on line e gap) (toBank : Bool) :
    cutPulse n toBank s = s := by
  unfold cutPulse
  split
  · next line e gap hg => exact absurd hg (h line e gap)
  · rfl

theorem quiesced_cut {r : Record} {n : Slot} {line : CoinLine} {e gap : Nat} {s : State} (hs : r.source = some n)
    (hg : s.generator n = .on line e gap) :
    let c := quiesced r s
    c.generator n = .gap (s.now + gap) ∧ c.coins.delivered = s.coins.delivered - 1 ∧
      c.coins.queues = s.coins.queues ∧ c.coins.accepted = s.coins.accepted ∧
      (s.coins.bank < 65535 → c.coins.bank = s.coins.bank + 1 ∧ c.coins.drained = s.coins.drained) ∧
      (65535 ≤ s.coins.bank → c.coins.bank = s.coins.bank ∧ c.coins.drained = s.coins.drained + 1) := by
  have hcoins : (holdDisabled r s).coins = s.coins := (holdDisabled_same r s).same .coins (by decide)
  have hnow : (holdDisabled r s).now = s.now := (holdDisabled_same r s).same .now (by decide)
  have hended : quiesced r s = addUnits 1 (unitCut n gap (holdDisabled r s)) := by
    rw [quiesced, endQuiesceCoins, hs]
    exact cutPulse_toBank (line := line) (e := e) (by rw [State.generator, hcoins]; exact hg)
  have hcut : (unitCut n gap (holdDisabled r s)).coins = { s.coins with
      generators := s.coins.generators.put n (.gap (s.now + gap)), delivered := s.coins.delivered - 1 } := by
    unfold unitCut State.setGenerator
    dsimp only
    rw [hcoins, hnow]
  intro c
  have hc : c = _ := hended
  rw [hc]
  refine ⟨?_, ?_, ?_, ?_, fun hb => ?_, fun hb => ?_⟩
  · rw [addUnits_generator, unitCut_generator, if_pos rfl, hnow]
  all_goals rw [addUnits_coins, unitsAdded, hcut]
  · dsimp only
    rw [show min 1 (65535 - s.coins.bank) = 1 by omega]
    exact ⟨rfl, by simp⟩
  · dsimp only
    rw [show min 1 (65535 - s.coins.bank) = 0 by omega]
    exact ⟨rfl, rfl⟩

theorem quiesced_uncut {r : Record} {s : State}
    (h : ∀ n line e gap, r.source = some n → s.generator n ≠ .on line e gap) :
    (quiesced r s).coins = s.coins := by
  have hcoins : (holdDisabled r s).coins = s.coins := (holdDisabled_same r s).same .coins (by decide)
  rw [quiesced, endQuiesceCoins]
  split
  · next n hs =>
    rw [cutPulse_idle (fun line e gap => by rw [State.generator, hcoins]; exact h n line e gap hs)]
    exact hcoins
  · exact hcoins

end Sys2Proof.Machine

/-! ### What RETIME makes of the output (R87, R118) -/

namespace Sys2Proof.Machine

/-! #### The decision -/

/-- A decision slaves the output exactly in PASS, and then to the slot it is for (R117). -/
def Decision.fitsTarget (d : Decision) (t : Option Slot) : Prop :=
  (d.pass = true → d.slaved ≠ none ∧ d.slaved = t) ∧ (d.pass = false → d.slaved = none)

theorem decideFor_target {n : Slot} {f : Bool} {c : Cabinet} {cls : OutClass} {fref : Nat} {d : Decision}
    (h : decideFor n f c cls fref = some d) : d.fitsTarget (some n) := by
  unfold decideFor at h
  split_ifs at h <;> obtain rfl := Option.some.inj h
  · exact ⟨fun _ => ⟨Option.some_ne_none n, rfl⟩, nofun⟩
  · exact ⟨nofun, fun _ => rfl⟩
  · exact ⟨nofun, fun _ => rfl⟩

theorem decision_target {n : Slot} {s : State} {d : Decision} (h : decision n s = some d) : d.fitsTarget (some n) := by
  unfold decision at h
  dsimp only at h
  split at h
  · split at h
    · cases h
    · exact decideFor_target h
  · cases h

theorem decisionFor_target {t : Option Slot} {s : State} {d : Decision} (h : decisionFor t s = some d) :
    d.fitsTarget t := by
  cases t with
  | none =>
    obtain rfl := Option.some.inj h
    exact ⟨nofun, fun _ => rfl⟩
  | some n => exact decision_target h

/-- The generator with a decision taken, of either kind. -/
theorem take_pace {d : Decision} (h : d.pass = false) (o : Output) (s : State) :
    o.take d s = { o with
      pass := false
      cls := d.cls
      fout := paceFout d.cls
      slaved := none
      lineCount := (paceTiming d.cls).2
      linePeriod := (paceTiming d.cls).1 } := by
  unfold Output.take
  rw [h]

theorem take_pass {d : Decision} {n : Slot} (h : d.pass = true) (hn : d.slaved = some n) (o : Output) (s : State) :
    o.take d s = { o with
      pass := true
      cls := d.cls
      fout := (s.monitor n.source).fref.getD 0
      slaved := some n
      lineCount := lrefOf n s
      linePeriod := (s.monitor n.source).fref.getD 0 / lrefOf n s } := by
  have hfref : d.fref s = (s.monitor n.source).fref.getD 0 := by rw [Decision.fref, hn]
  unfold Output.take
  rw [h, hn, hfref]

/-! #### A retime under blanking -/

/-- The generator of a retime when its field starts. -/
def retimedOut (d : Decision) (s : State) : Output :=
  { s.out.take d s with
    settle := if s.cabinet.settleTime = 0 then none else some (s.now + ms s.cabinet.settleTime)
    startMark := false }

/-- The part with a decision's timing taken and told, when the output field starts. -/
def retimeTold (d : Decision) (s : State) : State :=
  postOutput false { judgeMenu { s with out := s.out.take d s } with out := retimedOut d s }

theorem retime_eq (d : Decision) (s : State) : retime d s = fieldStart (retimeTold d s) := rfl

theorem retimeTold_same (d : Decision) (s : State) : SameOutside [.link, .out, .pic, .snd] s (retimeTold d s) :=
  (post_same ..).after (((judgeMenu_same _).after ((SameOutside.refl [.link, .out, .pic, .snd] s).with_out (by decide))
    (by decide)).with_out (by decide)) (by decide)

theorem retimeTold_out (d : Decision) (s : State) : (retimeTold d s).out = retimedOut d s :=
  (post_same ..).same .out (by decide)

/-- Where the output follows its source the retime has given it the source's figures already. -/
theorem followSource_retimed {d : Decision} {t : Option Slot} (hd : d.fitsTarget t) (s : State) :
    followSource (retimeTold d s) = retimeTold d s := by
  have hmonitors : (retimeTold d s).monitors = s.monitors := (retimeTold_same d s).same .monitors (by decide)
  have hout := retimeTold_out d s
  obtain ⟨hpass, hpace⟩ := hd
  cases hp : d.pass with
  | false => exact followSource_pace (by rw [hout, retimedOut, take_pace hp])
  | true =>
    obtain ⟨n, hn⟩ := Option.ne_none_iff_exists'.1 (hpass hp).1
    rw [retimedOut, take_pass hp hn] at hout
    unfold followSource
    split
    · next m _ hm =>
      obtain rfl : n = m := by
        rw [hout] at hm
        exact Option.some.inj hm
      split
      · next f hf =>
        refine if_pos ?_
        rw [State.monitor, hmonitors] at hf
        rw [hout, State.monitor, hf]
        rfl
      · rfl
    · rfl

/-- A retime with the picture blanked: the reader takes nothing, and the field shows black. -/
theorem retime_blank {d : Decision} {t : Option Slot} (hd : d.fitsTarget t) {s : State} (hb : s.frame.blank = true) :
    retime d s = fieldFixed (retimeTold d s) := by
  have hframe : (retimeTold d s).frame = s.frame := (retimeTold_same d s).same .frame (by decide)
  rw [retime_eq, fieldStart_eq, followSource_retimed hd, readerStart_stopped (.inl (by rw [hframe]; exact hb))]

theorem fieldFixed_out (s : State) : (fieldFixed s).out = { s.out with nextStart := s.now + s.out.fout } := rfl

/-- The output under blanking once a retime has been made. -/
theorem retime_spec {d : Decision} {t : Option Slot} (hd : d.fitsTarget t) {s : State} (hb : s.frame.blank = true) :
    let u := retime d s
    u.out = { retimedOut d s with nextStart := s.now + (retimedOut d s).fout } ∧ u.frame = s.frame ∧
      u.pic.field.shown = .black ∧ u.pic.dimmed = s.pic.dimmed ∧
      (s.link.mask.at 8 = true → ∃ e ∈ u.link.notices,
        e.notice = .output false (retimedOut d s).pass (retimedOut d s).cls s.pic.dimmed) ∧
      SameOutside [.link, .out, .pic, .snd] s u := by
  have htold := retimeTold_same d s
  have hfixed := fieldFixed_same (retimeTold d s)
  have hnow := htold.same .now (by decide)
  have hframe := htold.same .frame (by decide)
  have hdimmed : (retimeTold d s).pic.dimmed = s.pic.dimmed := by
    rw [retimeTold, (postOutput_same ..).same .pic (by decide)]
    rfl
  obtain ⟨hshown, -⟩ := fieldFixed_field (retimeTold d s)
  obtain ⟨-, -, -, hkept⟩ := fieldFixed_kept (retimeTold d s)
  simp only [Block.same] at hnow hframe
  intro u
  have hu : u = _ := retime_blank hd hb
  rw [hu]
  refine ⟨?_, (hfixed.same .frame (by decide)).trans hframe, ?_, hkept.trans hdimmed, fun hm => ?_,
    (hfixed.mono (by decide)).after htold (fun _ h => h)⟩
  · rw [fieldFixed_out, retimeTold_out, hnow]
  · rw [hshown, shownNow_blank (by rw [hframe]; exact hb)]
  · rw [hfixed.same .link (by decide)]
    obtain ⟨e, he, hn, -⟩ := exists_post
      (n := .output false (retimedOut d s).pass (retimedOut d s).cls s.pic.dimmed)
      (s := { judgeMenu { s with out := s.out.take d s } with out := retimedOut d s }) (fun m => by cases m <;> rfl) hm
    exact ⟨e, he, hn⟩

/-! #### The writer enabled under the retime -/

/-- With no dim standing, the writer's change tells the host nothing. -/
theorem judgeWatched_undimmed {s : State} (h : s.pic.dimmed = false) :
    (judgeWatched s).link = s.link ∧ (judgeWatched s).pic.dimmed = false := by
  have hlift (u : State) (hu : u.pic.dimmed = false) : liftDim u = u :=
    if_neg (by rw [hu]; exact Bool.false_ne_true)
  unfold judgeWatched
  split
  · exact ⟨rfl, h⟩
  · rw [hlift _ (by exact h)]
    exact ⟨rfl, h⟩

theorem disableWriter_undimmed {s : State} (h : s.pic.dimmed = false) :
    (disableWriter s).link = s.link ∧ (disableWriter s).pic.dimmed = false := by
  have habandon := abandonFilling_same s
  have hpic : (abandonFilling s).pic = s.pic := habandon.same .pic (by decide)
  have hlink : (abandonFilling s).link = s.link := habandon.same .link (by decide)
  obtain ⟨hl, hd⟩ := judgeWatched_undimmed (s := { abandonFilling s with frame :=
    { (abandonFilling s).frame with writer := none } }) (by rw [hpic]; exact h)
  exact ⟨hl.trans hlink, hd⟩

theorem enableWriter_undimmed (n : Slot) {s : State} (h : s.pic.dimmed = false) :
    (enableWriter n s).link = s.link := by
  unfold enableWriter
  split
  · exact (judgeWatched_undimmed (by exact h)).1
  · split
    · rfl
    · obtain ⟨hlink, hdim⟩ := disableWriter_undimmed h
      exact (judgeWatched_undimmed (by exact hdim)).1.trans hlink

theorem judgeWatched_field (s : State) : (judgeWatched s).pic.field = s.pic.field := by
  unfold judgeWatched
  split
  · rfl
  · rw [liftDim_pic]
    split <;> rfl

theorem enableWriter_field (n : Slot) (s : State) : (enableWriter n s).pic.field = s.pic.field := by
  have hdisable : (disableWriter s).pic.field = s.pic.field :=
    (judgeWatched_field _).trans (congrArg Conditioner.field ((abandonFilling_same s).same .pic (by decide)))
  unfold enableWriter
  split
  · exact judgeWatched_field _
  · split
    · rfl
    · exact (judgeWatched_field _).trans hdisable

end Sys2Proof.Machine

namespace Sys2Proof.Machine

/-! #### The output set at RETIME (R87) -/

/-- The record in RETIME. -/
def Record.retiming (r : Record) : Record := { r with phase := .retime, lockLimit := none }

theorem setOutput_retimes {d : Decision} {s : State} (h : needsRetime d s = true) (r : Record) :
    setOutput r d s = retime d (setHold false (setBlank true (setRecord (some r) s))) := if_pos h

/-- Where no retime is needed, the picture is shown at once where it can be. -/
def shownAtOnce (r : Record) (d : Decision) (s : State) : State :=
  let ready := match r.target with
    | some n => hasReady n s
    | none => true
  let s := setRecord (some { r with holdUntilReady := !ready }) (follow d s)
  if ready then setHold false s else s

theorem setOutput_stays {d : Decision} {s : State} (h : needsRetime d s = false) (r : Record) :
    setOutput r d s = shownAtOnce r d s := if_neg (by rw [h]; exact Bool.false_ne_true)

theorem follow_pace {d : Decision} (h : d.pass = false) (s : State) : follow d s = s := by
  unfold follow
  rw [h]

theorem follow_pass {d : Decision} {n : Slot} (h : d.pass = true) (hn : d.slaved = some n) (s : State) :
    (follow d s).out =
      { s.out with slaved := some n, lineCount := lrefOf n s, linePeriod := s.out.fout / lrefOf n s } := by
  unfold follow
  rw [h, hn]

theorem follow_only (d : Decision) (s : State) : SameOutside [.out] s (follow d s) := follow_same d s

/-- What is set where no retime is needed. -/
theorem shownAtOnce_spec (r : Record) (d : Decision) (s : State) :
    let u := shownAtOnce r d s
    let free : Prop := ∀ n, r.target = some n → ∃ b, (s.buffer b).state = .ready ∧ (s.buffer b).source = some n
    (∃ h, u.co = { s.co with record := some { r with holdUntilReady := h } }) ∧ u.out = (follow d s).out ∧
      u.frame = { s.frame with hold := u.frame.hold } ∧ (free → u.frame.hold = false) ∧
      (¬free → u.frame.hold = s.frame.hold) ∧ SameOutside [.co, .frame, .out] s u := by
  intro u free
  have hfollow := follow_only d s
  have hco : (follow d s).co = s.co := hfollow.same .co (by decide)
  have hframe : (follow d s).frame = s.frame := hfollow.same .frame (by decide)
  have hready : (match r.target with
      | some n => hasReady n s
      | none => true) = true ↔ free := by
    cases ht : r.target with
    | none =>
      simp only [free, ht]
      exact ⟨fun _ n h => absurd h.symm (Option.some_ne_none n), fun _ => trivial⟩
    | some n =>
      simp only [free, ht]
      rw [hasReady_iff]
      exact ⟨fun h m hm => Option.some.inj hm ▸ h, fun h => h n rfl⟩
  generalize hg : (match r.target with
    | some n => hasReady n s
    | none => true) = ready at hready
  have hu : u = if ready then setHold false (setRecord (some { r with holdUntilReady := !ready }) (follow d s))
      else setRecord (some { r with holdUntilReady := !ready }) (follow d s) := by
    rw [← hg]
    rfl
  have hset : SameOutside [.co, .frame, .out] s (setRecord (some { r with holdUntilReady := !ready }) (follow d s)) :=
    (setRecord_same ..).after (hfollow.mono (by decide)) (by decide)
  have hrecord : { (follow d s).co with record := some { r with holdUntilReady := !ready } } =
      { s.co with record := some { r with holdUntilReady := !ready } } := by rw [hco]
  rw [hu]
  cases ready with
  | true =>
    have hfree : free := hready.1 rfl
    refine ⟨⟨_, hrecord⟩, rfl, ?_, fun _ => rfl, fun h => absurd hfree h, (setHold_same ..).after hset (by decide)⟩
    change { (follow d s).frame with hold := false } = _
    rw [hframe]
    rfl
  | false =>
    have hfree : ¬free := fun h => absurd (hready.2 h) Bool.false_ne_true
    refine ⟨⟨_, hrecord⟩, rfl, ?_, fun h => absurd h hfree, fun _ => ?_, hset⟩
    · change (follow d s).frame = { s.frame with hold := (follow d s).frame.hold }
      rw [hframe]
    · change (follow d s).frame.hold = _
      rw [hframe]

/-! #### RETIME entered -/

/-- The frame store as RETIME places a slot's picture. -/
def placedFor (r : Record) (d : Decision) (s : State) : State :=
  match r.target with
  | none => s
  | some n => placeSlot n d (latchWindow n s)

/-- The writer as RETIME leaves it. -/
def writerFor (t : Option Slot) (s : State) : State :=
  match t with
  | none => s
  | some n => enableWriter n s

theorem enterRetime_eq {r : Record} {d : Decision} {s : State} (h : decisionFor r.target s = some d) :
    enterRetime r s = writerFor r.target (setOutput r.retiming d (placedFor r d s)) := by
  change (match decisionFor r.target s with
    | none => fail r.retiming .classMismatch s
    | some d => match r.target with
      | none => setOutput r.retiming d s
      | some n => enableWriter n (setOutput r.retiming d (placeSlot n d (latchWindow n s)))) = _
  rw [h]
  generalize r.retiming = r'
  unfold placedFor writerFor
  cases r.target <;> rfl

theorem placedFor_spec (r : Record) (d : Decision) (s : State) :
    SameOutside [.frame] s (placedFor r d s) ∧
      (placedFor r d s).frame = { s.frame with
        window := (placedFor r d s).frame.window, placements := (placedFor r d s).frame.placements } ∧
      ∀ n, r.target = some n →
        (placedFor r d s).frame.window = some (s.profile n).picture.window ∧
          (placedFor r d s).frame.placements.at n = ⟨(s.profile n).picture.window, d.doubled⟩ := by
  unfold placedFor
  cases ht : r.target with
  | none => exact ⟨.refl _ _, rfl, fun n h => absurd h.symm (Option.some_ne_none n)⟩
  | some n =>
    refine ⟨(placeSlot_same ..).after (latchWindow_same ..) (by decide), rfl, fun m hm => ?_⟩
    obtain rfl := Option.some.inj hm
    exact ⟨rfl, Tab.at_put_self ..⟩

theorem writerFor_spec (t : Option Slot) (s : State) :
    SameOutside [.link, .frame, .pic] s (writerFor t s) ∧
      (writerFor t s).frame = { s.frame with
        writer := (writerFor t s).frame.writer, buffers := (writerFor t s).frame.buffers } ∧
      (∀ n, t = some n → (writerFor t s).frame.writer = some n) ∧
      (writerFor t s).pic.field = s.pic.field ∧ (s.pic.dimmed = false → (writerFor t s).link = s.link) := by
  unfold writerFor
  cases t with
  | none => exact ⟨.refl _ _, rfl, fun n h => absurd h.symm (Option.some_ne_none n), rfl, fun _ => rfl⟩
  | some n =>
    refine ⟨enableWriter_same .., ?_, fun m hm => ?_, enableWriter_field .., enableWriter_undimmed n⟩
    · rw [enableWriter_frame]
    · rw [enableWriter_frame]
      exact hm

end Sys2Proof.Machine

namespace Sys2Proof.Machine

/-! #### What RETIME makes of the output, the flags and the writer -/

theorem fref_congr (d : Decision) {s t : State} (hm : t.monitors = s.monitors) : d.fref t = d.fref s := by
  unfold Decision.fref
  cases d.slaved with
  | none => rfl
  | some n => exact congrArg (fun m : Tab Monitor 9 => (m.at n.source).fref.getD 0) hm

theorem take_congr (d : Decision) (o : Output) {s t : State} (hm : t.monitors = s.monitors) : o.take d t = o.take d s := by
  cases hp : d.pass with
  | false => rw [take_pace hp, take_pace hp]
  | true =>
    have hfref := fref_congr d hm
    unfold Output.take
    rw [hp]
    cases d.slaved with
    | none => rfl
    | some n =>
      have hlref : lrefOf n t = lrefOf n s := congrArg (fun m : Tab Monitor 9 => (m.at n.source).lref.getD 0) hm
      dsimp only
      rw [hfref, hlref]

theorem needsRetime_congr (d : Decision) {s t : State} (ho : t.out = s.out) (hm : t.monitors = s.monitors) :
    needsRetime d t = needsRetime d s := by
  rw [needsRetime, needsRetime, fref_congr d hm, ho]

theorem retimedOut_congr (d : Decision) {s t : State} (ho : t.out = s.out) (hm : t.monitors = s.monitors)
    (hp : t.profiles = s.profiles) (hn : t.now = s.now) : retimedOut d t = retimedOut d s := by
  unfold retimedOut
  rw [take_congr d t.out hm, ho, hn, State.cabinet, hp, State.cabinet]

/-- The record, the writer, the window and the placement, whether or not the output is retimed. -/
theorem enterRetime_placed {r : Record} {d : Decision} {s : State} (h : decisionFor r.target s = some d) :
    let t := enterRetime r s
    (∀ n, r.target = some n → t.frame.writer = some n ∧ t.frame.window = some (s.profile n).picture.window ∧
      t.frame.placements.at n = ⟨(s.profile n).picture.window, d.doubled⟩) ∧
    ∃ r', t.co = { s.co with record := some r' } ∧ r'.phase = .retime ∧ r'.lockLimit = none ∧ r'.tag = r.tag ∧
      r'.target = r.target ∧ r'.source = r.source ∧ r'.resume = r.resume ∧ r'.lockSeen = r.lockSeen := by
  obtain ⟨hplaced, -, hplace⟩ := placedFor_spec r d s
  have hout : (placedFor r d s).out = s.out := hplaced.same .out (by decide)
  have hmonitors : (placedFor r d s).monitors = s.monitors := hplaced.same .monitors (by decide)
  have hco : (placedFor r d s).co = s.co := hplaced.same .co (by decide)
  have hset : (setOutput r.retiming d (placedFor r d s)).frame.window = (placedFor r d s).frame.window ∧
      (setOutput r.retiming d (placedFor r d s)).frame.placements = (placedFor r d s).frame.placements ∧
      ∃ hold, (setOutput r.retiming d (placedFor r d s)).co =
        { s.co with record := some { r.retiming with holdUntilReady := hold } } := by
    cases hn : needsRetime d (placedFor r d s) with
    | true =>
      obtain ⟨-, hframe, -, -, -, hsame⟩ := retime_spec (decisionFor_target h)
        (s := setHold false (setBlank true (setRecord (some r.retiming) (placedFor r d s)))) rfl
      rw [setOutput_retimes hn, hframe, hsame.same .co (by decide), ← hco]
      exact ⟨rfl, rfl, r.holdUntilReady, rfl⟩
    | false =>
      obtain ⟨⟨hold, hrecord⟩, -, hframe, -⟩ := shownAtOnce_spec r.retiming d (placedFor r d s)
      rw [setOutput_stays hn, hrecord, hframe, hco]
      exact ⟨rfl, rfl, hold, rfl⟩
  intro t
  have ht : t = _ := enterRetime_eq h
  rw [ht]
  generalize setOutput r.retiming d (placedFor r d s) = v at *
  obtain ⟨hwindow, hplacements, hold, hrecord⟩ := hset
  obtain ⟨hsame, hframe, hwriter, -, -⟩ := writerFor_spec r.target v
  rw [hsame.same .co (by decide)]
  refine ⟨fun n hn => ?_, _, hrecord, rfl, rfl, rfl, rfl, rfl, rfl, rfl⟩
  obtain ⟨hpw, hpp⟩ := hplace n hn
  refine ⟨hwriter n hn, ?_, ?_⟩
  · rw [hframe]
    exact hwindow.trans hpw
  · rw [hframe]
    exact (congrArg (·.at n) hplacements).trans hpp

/-- The output retimed under blanking (R118). -/
theorem enterRetime_retimes {r : Record} {d : Decision} {s : State} (h : decisionFor r.target s = some d)
    (hn : needsRetime d s = true) :
    let t := enterRetime r s
    t.frame.blank = true ∧ t.frame.hold = false ∧ t.out = { retimedOut d s with nextStart := s.now + (retimedOut d s).fout } ∧
      t.pic.field.shown = .black ∧
      (s.link.mask.at 8 = true → s.pic.dimmed = false → ∃ e ∈ t.link.notices,
        e.notice = .output false (retimedOut d s).pass (retimedOut d s).cls false) ∧
      SameOutside [.link, .co, .frame, .out, .pic, .snd] s t := by
  obtain ⟨hplaced, -, -⟩ := placedFor_spec r d s
  have hout : (placedFor r d s).out = s.out := hplaced.same .out (by decide)
  have hmonitors : (placedFor r d s).monitors = s.monitors := hplaced.same .monitors (by decide)
  have hset := setOutput_retimes ((needsRetime_congr d hout hmonitors).trans hn) r.retiming
  have hwork : SameOutside [.link, .co, .frame, .out, .pic, .snd] s
      (setHold false (setBlank true (setRecord (some r.retiming) (placedFor r d s)))) :=
    (setHold_same ..).after ((setBlank_same ..).after ((setRecord_same ..).after (hplaced.mono (by decide)) (by decide))
      (by decide)) (by decide)
  have hretimed : retimedOut d (setHold false (setBlank true (setRecord (some r.retiming) (placedFor r d s)))) =
      retimedOut d s := retimedOut_congr d hout hmonitors (hplaced.same .profiles (by decide))
      (hplaced.same .now (by decide))
  have hwnow : (setHold false (setBlank true (setRecord (some r.retiming) (placedFor r d s)))).now = s.now :=
    hplaced.same .now (by decide)
  have hwpic : (setHold false (setBlank true (setRecord (some r.retiming) (placedFor r d s)))).pic = s.pic :=
    hplaced.same .pic (by decide)
  have hwlink : (setHold false (setBlank true (setRecord (some r.retiming) (placedFor r d s)))).link = s.link :=
    hplaced.same .link (by decide)
  have hwframe : (setHold false (setBlank true (setRecord (some r.retiming) (placedFor r d s)))).frame.blank = true ∧
      (setHold false (setBlank true (setRecord (some r.retiming) (placedFor r d s)))).frame.hold = false := ⟨rfl, rfl⟩
  intro t
  have ht : t = _ := enterRetime_eq h
  rw [ht, hset]
  generalize setHold false (setBlank true (setRecord (some r.retiming) (placedFor r d s))) = x at *
  obtain ⟨hxout, hxframe, hshown, hdimmed, htold, hsame⟩ := retime_spec (decisionFor_target h) hwframe.1
  rw [hretimed, hwnow] at hxout
  rw [hretimed, hwlink, hwpic] at htold
  generalize retime d x = v at *
  obtain ⟨hv, hframe, -, hfield, hlink⟩ := writerFor_spec r.target v
  refine ⟨?_, ?_, (hv.same .out (by decide)).trans hxout, by rw [hfield]; exact hshown, fun hm hd => ?_,
    (hv.mono (by decide)).after ((hsame.mono (by decide)).after hwork (fun _ h => h)) (fun _ h => h)⟩
  · rw [hframe]
    exact (congrArg FrameStore.blank hxframe).trans hwframe.1
  · rw [hframe]
    exact (congrArg FrameStore.hold hxframe).trans hwframe.2
  · rw [hlink (by rw [hdimmed, hwpic]; exact hd)]
    obtain ⟨e, he, hn⟩ := htold hm
    exact ⟨e, he, by rw [hn, hd]⟩

/-- The output left as it stands (R118). -/
theorem enterRetime_stays {r : Record} {d : Decision} {s : State} (h : decisionFor r.target s = some d)
    (hn : needsRetime d s = false) :
    let t := enterRetime r s
    let free : Prop := ∀ n, r.target = some n → ∃ b, (s.buffer b).state = .ready ∧ (s.buffer b).source = some n
    t.frame.blank = s.frame.blank ∧ (free → t.frame.hold = false) ∧ (¬free → t.frame.hold = s.frame.hold) ∧
      t.out = (follow d s).out ∧ SameOutside [.link, .co, .frame, .out, .pic] s t := by
  obtain ⟨hplaced, hpframe, -⟩ := placedFor_spec r d s
  have hout : (placedFor r d s).out = s.out := hplaced.same .out (by decide)
  have hmonitors : (placedFor r d s).monitors = s.monitors := hplaced.same .monitors (by decide)
  have hset := setOutput_stays ((needsRetime_congr d hout hmonitors).trans hn) r.retiming
  have hfollow : (follow d (placedFor r d s)).out = (follow d s).out := by
    unfold follow
    split <;> simp only [lrefOf, State.monitor, hout, hmonitors]
  have hbuffer (b : Fin 3) : (placedFor r d s).buffer b = s.buffer b := by
    rw [State.buffer, hpframe]
    rfl
  have hkept : (placedFor r d s).frame.blank = s.frame.blank ∧ (placedFor r d s).frame.hold = s.frame.hold := by
    rw [hpframe]
    exact ⟨rfl, rfl⟩
  obtain ⟨-, hvout, hvframe, hfree, hheld, hsame⟩ := shownAtOnce_spec r.retiming d (placedFor r d s)
  intro t free
  have ht : t = _ := enterRetime_eq h
  rw [ht, hset]
  simp only [hbuffer] at hfree hheld
  generalize shownAtOnce r.retiming d (placedFor r d s) = v at *
  obtain ⟨hv, hframe, -, -, -⟩ := writerFor_spec r.target v
  have hhold : (writerFor r.target v).frame.hold = v.frame.hold := by rw [hframe]
  refine ⟨?_, fun hf => hhold.trans (hfree hf), fun hf => hhold.trans ((hheld hf).trans hkept.2),
    (hv.same .out (by decide)).trans (hvout.trans hfollow),
    (hv.mono (by decide)).after ((hsame.mono (by decide)).after (hplaced.mono (by decide)) (fun _ h => h)) (fun _ h => h)⟩
  rw [hframe]
  exact (congrArg FrameStore.blank hvframe).trans hkept.1

end Sys2Proof.Machine

/-! ### REVEAL (R90) and PARK (R82) -/

namespace Sys2Proof.Machine

/-! #### REVEAL -/

/-- The record in REVEAL. -/
def Record.revealing (r : Record) (s : State) : Record := { r with phase := .reveal, holdStyle := s.cabinet.holdStyle }

/-- The reader turned to its new source. -/
def revealed (r : Record) (s : State) : State :=
  match r.target with
  | some n => revealSlot n (setBlank false (setRecord (some (r.revealing s)) s))
  | none => revealStandby (setBlank false (setRecord (some (r.revealing s)) s))

/-- The picture brought up in the record's style. -/
def pictureRaised (r : Record) (s : State) : State :=
  if r.holdStyle then setPictureLevel 256 s else fadePicture true s.cabinet.videoFade s

/-- The part in REVEAL, the sound still to be brought up. -/
def revealShown (r : Record) (s : State) : State := pictureRaised (r.revealing s) (revealed r s)

theorem enterReveal_eq (r : Record) (s : State) : enterReveal r s =
    fadeSound true (revealShown r s).cabinet.audioFade
      { revealShown r s with snd := { (revealShown r s).snd with source := r.target } } := rfl

theorem revealed_same (r : Record) (s : State) : SameOutside [.co, .frame] s (revealed r s) := by
  have hset : SameOutside [.co, .frame] s (setBlank false (setRecord (some (r.revealing s)) s)) :=
    (setBlank_same ..).after ((setRecord_same ..).mono (by decide)) (by decide)
  unfold revealed
  split
  · exact (revealSlot_same ..).after hset (by decide)
  · exact (revealStandby_same ..).after hset (by decide)

theorem revealed_frame (r : Record) (s : State) :
    let t := revealed r s
    t.co = { s.co with record := some (r.revealing s) } ∧ t.frame.blank = false ∧ t.frame.hold = s.frame.hold ∧
    t.frame.reader = r.target ∧
    (∀ n, r.target = some n →
      t.frame.firstTake = true ∧ t.frame.buffers = s.frame.buffers ∧ t.frame.fin = (s.monitor n.source).fref ∧
      ∀ f, (s.monitor n.source).fref = some f → t.frame.acc = f / 2) ∧
    (r.target = none →
      t.frame.firstTake = false ∧ t.frame.fin = none ∧ t.frame.acc = 0 ∧
      ∀ b, t.buffer b =
        if (s.buffer b).state = .ready ∨ (s.buffer b).state = .showing then Buffer.free else s.buffer b) := by
  unfold revealed
  cases ht : r.target with
  | some n =>
    refine ⟨rfl, rfl, rfl, rfl, fun m hm => ?_, fun h => absurd h (Option.some_ne_none n)⟩
    obtain rfl := Option.some.inj hm
    refine ⟨rfl, rfl, rfl, fun f hf => ?_⟩
    change (s.monitor n.source).fref.getD 0 / 2 = f / 2
    rw [hf]
    rfl
  | none =>
    refine ⟨rfl, rfl, rfl, rfl, fun n h => absurd h.symm (Option.some_ne_none n), fun _ => ⟨rfl, rfl, rfl, fun b => ?_⟩⟩
    refine (Tab.at_ofFn ..).trans ?_
    change (match (s.buffer b).state with
      | .ready | .showing => Buffer.free
      | .free | .filling => s.buffer b) = _
    cases (s.buffer b).state <;> rfl

theorem pictureRaised_spec (r : Record) (s : State) :
    SameOutside [.pic] s (pictureRaised r s) ∧
    (r.holdStyle = true ∨ s.cabinet.videoFade = 0 ∨ s.pic.level = 256 →
      (pictureRaised r s).pic.level = 256 ∧ (pictureRaised r s).pic.fade = none) ∧
    (r.holdStyle = false → s.cabinet.videoFade ≠ 0 → s.pic.level ≠ 256 →
      (pictureRaised r s).pic.level = s.pic.level ∧
        (pictureRaised r s).pic.fade = some ⟨true, s.cabinet.videoFade, s.pic.level, s.now, 0⟩) := by
  cases hstyle : r.holdStyle with
  | true =>
    have hset : pictureRaised r s = setPictureLevel 256 s := if_pos hstyle
    rw [hset]
    exact ⟨setPictureLevel_same .., fun _ => ⟨rfl, rfl⟩, nofun⟩
  | false =>
    have hfade : pictureRaised r s = fadePicture true s.cabinet.videoFade s :=
      if_neg (by rw [hstyle]; exact Bool.false_ne_true)
    rw [hfade, fadePicture_pic]
    refine ⟨fadePicture_same .., fun h => ?_, fun _ hd hl => ?_⟩
    · rw [startFade_done (h.resolve_left nofun)]
      exact ⟨rfl, rfl⟩
    · rw [startFade_begun hd hl]
      exact ⟨rfl, rfl⟩

/-- What REVEAL makes of the reader, the picture and the sound (R90). -/
theorem enterReveal_spec (r : Record) (s : State) :
    let t := enterReveal r s
    (∃ r', t.co = { s.co with record := some r' } ∧ r'.phase = .reveal ∧ r'.tag = r.tag ∧ r'.target = r.target) ∧
    t.frame = (revealed r s).frame ∧ t.snd.source = r.target ∧
    (s.cabinet.holdStyle = true ∨ s.cabinet.videoFade = 0 ∨ s.pic.level = 256 → t.pic.level = 256 ∧ t.pic.fade = none) ∧
    (s.cabinet.holdStyle = false → s.cabinet.videoFade ≠ 0 → s.pic.level ≠ 256 →
      t.pic.level = s.pic.level ∧ t.pic.fade = some ⟨true, s.cabinet.videoFade, s.pic.level, s.now, 0⟩) ∧
    (s.cabinet.audioFade = 0 ∨ s.snd.gain = 256 → t.snd.gain = 256 ∧ t.snd.fade = none) ∧
    (s.cabinet.audioFade ≠ 0 → s.snd.gain ≠ 256 →
      t.snd.gain = s.snd.gain ∧ t.snd.fade = some ⟨true, s.cabinet.audioFade, s.snd.gain, s.now, 0⟩) ∧
    SameOutside [.co, .frame, .pic, .snd] s t := by
  have hreveal := revealed_same r s
  obtain ⟨hco, -⟩ := revealed_frame r s
  obtain ⟨hraise, hdone, hbegun⟩ := pictureRaised_spec (r.revealing s) (revealed r s)
  have hshown : SameOutside [.co, .frame, .pic] s (revealShown r s) :=
    (hraise.mono (by decide)).after (hreveal.mono (by decide)) (fun _ h => h)
  have hprofiles : (revealed r s).profiles = s.profiles := hreveal.same .profiles (by decide)
  have hpic : (revealed r s).pic = s.pic := hreveal.same .pic (by decide)
  have hnow : (revealed r s).now = s.now := hreveal.same .now (by decide)
  have hcabinet : (revealed r s).cabinet = s.cabinet := by rw [State.cabinet, hprofiles, State.cabinet]
  have hframe : (revealShown r s).frame = (revealed r s).frame := hraise.same .frame (by decide)
  have hsco : (revealShown r s).co = (revealed r s).co := hraise.same .co (by decide)
  have hsnd : (revealShown r s).snd = s.snd := hshown.same .snd (by decide)
  have hsnow : (revealShown r s).now = s.now := hshown.same .now (by decide)
  have hsprofiles : (revealShown r s).profiles = s.profiles := hshown.same .profiles (by decide)
  have hscabinet : (revealShown r s).cabinet = s.cabinet := by rw [State.cabinet, hsprofiles, State.cabinet]
  have hrs : pictureRaised (r.revealing s) (revealed r s) = revealShown r s := rfl
  rw [hcabinet, hpic, hrs] at hdone
  rw [hcabinet, hpic, hnow, hrs] at hbegun
  intro t
  have ht : t = _ := enterReveal_eq r s
  rw [ht, hscabinet]
  generalize revealShown r s = v at *
  have hfaded := fadeSound_snd true s.cabinet.audioFade { v with snd := { v.snd with source := r.target } }
  have hfsame := fadeSound_same true s.cabinet.audioFade { v with snd := { v.snd with source := r.target } }
  generalize fadeSound true s.cabinet.audioFade { v with snd := { v.snd with source := r.target } } = w at *
  have hwpic : w.pic = v.pic := hfsame.same .pic (by decide)
  have hwco : w.co = v.co := hfsame.same .co (by decide)
  have hwframe : w.frame = v.frame := hfsame.same .frame (by decide)
  dsimp only at hfaded
  rw [hsnd, hsnow] at hfaded
  refine ⟨⟨r.revealing s, by rw [hwco, hsco, hco], rfl, rfl, rfl⟩, hwframe.trans hframe, by rw [hfaded], ?_, ?_, fun h => ?_,
    fun hd hg => ?_, (hfsame.mono (by decide)).after ((hshown.mono (by decide)).with_snd (by decide)) (fun _ h => h)⟩
  · rw [hwpic]
    exact hdone
  · rw [hwpic]
    exact hbegun
  · rw [hfaded, startFade_done h]
    exact ⟨rfl, rfl⟩
  · rw [hfaded, startFade_begun hd hg]
    exact ⟨rfl, rfl⟩

end Sys2Proof.Machine

namespace Sys2Proof.Machine

/-! #### PARK -/

/-- No slot but `m` differs. -/
def SlotsBut (m : Slot) (s t : State) : Prop := ∀ k, k ≠ m → t.slot k = s.slot k

theorem SlotsBut.of_slots {m : Slot} {s t : State} (h : t.slots = s.slots) : SlotsBut m s t := fun k _ => by
  rw [State.slot, h, State.slot]

theorem SlotsBut.trans {m : Slot} {s t u : State} (h : SlotsBut m s t) (h' : SlotsBut m t u) : SlotsBut m s u :=
  fun k hk => (h' k hk).trans (h k hk)

section
variable {r : Record} {m : Slot} (s : State)

theorem fail_slots (ht : r.target = some m) (o : CoOutcome) : SlotsBut m s (fail r o s) := fun k hk =>
  (fail_restarts r o s).kept k (.inl fun h => hk (Option.some.inj (h.symm.trans ht)))

theorem supersede_slots (ht : r.target = some m) (q : Pending) : SlotsBut m s (supersede r q s) := fun k hk =>
  (supersede_restarts r q s).kept k (.inl fun h => hk (Option.some.inj (h.symm.trans ht)))

theorem setOutput_slots (d : Decision) (r : Record) : (setOutput r d s).slots = s.slots :=
  (setOutput_same r d s).same .slots (by decide)

theorem enterRetime_slots (ht : r.target = some m) : SlotsBut m s (enterRetime r s) := by
  cases hd : decisionFor r.target s with
  | none =>
    have hfail : enterRetime r s = fail r.retiming .classMismatch s := by
      change (match decisionFor r.target s with
        | none => fail r.retiming .classMismatch s
        | some d => match r.target with
          | none => setOutput r.retiming d s
          | some n => enableWriter n (setOutput r.retiming d (placeSlot n d (latchWindow n s)))) = _
      rw [hd]
    rw [hfail]
    exact fail_slots s (r := r.retiming) ht _
  | some d =>
    rw [enterRetime_eq hd]
    obtain ⟨hplaced, -, -⟩ := placedFor_spec r d s
    obtain ⟨hwriter, -⟩ := writerFor_spec r.target (setOutput r.retiming d (placedFor r d s))
    exact .of_slots ((hwriter.same .slots (by decide)).trans
      ((setOutput_slots ..).trans (hplaced.same .slots (by decide))))

theorem endLock_slots (ht : r.target = some m) : SlotsBut m s (endLock r s) := by
  unfold endLock
  split
  · exact supersede_slots s ht _
  · exact enterRetime_slots s ht

theorem judgeLock_slots (ht : r.target = some m) : SlotsBut m s (judgeLock r m s) := by
  cases hd : decision m s with
  | none =>
    rw [judgeLock_mismatch hd]
    exact fail_slots s ht _
  | some d =>
    have hsome : (decision m s).isSome = true := by rw [hd]; rfl
    cases hc : r.checkApplies with
    | true =>
      obtain ⟨-, -, hsame⟩ := judgeLock_awaits hsome hc
      exact .of_slots (hsame.same .slots (by decide))
    | false =>
      rw [judgeLock_done hsome hc]
      exact endLock_slots s (r := r.locked s) ht

theorem enterLock_slots (ht : r.target = some m) : SlotsBut m s (enterLock r m s) := by
  unfold enterLock
  dsimp only
  split
  · refine SlotsBut.trans (.of_slots ?_) (judgeLock_slots (setRecord _ s) (by exact ht))
    rfl
  · exact .of_slots rfl

theorem endWake_slots (ht : r.target = some m) : SlotsBut m s (endWake r m s) := by
  unfold endWake
  split
  · exact supersede_slots s ht _
  · exact enterLock_slots s ht

theorem enterWake_slots (ht : r.target = some m) : SlotsBut m s (enterWake r m s) := by
  have hwoken : SlotsBut m s (wake m (setRecord (some { r with phase := .wake }) s)).1 := fun k hk =>
    (wake_others (n := m) (s := setRecord (some { r with phase := .wake }) s)).slot k hk
  unfold enterWake
  dsimp only
  split <;> rename_i hw <;> rw [hw] at hwoken
  · exact hwoken.trans (endWake_slots _ (by exact ht))
  · exact hwoken.trans (fail_slots _ (by exact ht) _)
  · exact hwoken.trans (fail_slots _ (by exact ht) _)
  · exact hwoken

/-- A wake that finds the slot neither LIVE nor FROZEN does not end WAKE at once. -/
theorem wake_waits {s : State} (hl : (s.slot m).state ≠ .live) (hf : (s.slot m).state ≠ .frozen) (b : Bool) :
    (wake m s).2 ≠ .live b := by
  cases h : (s.slot m).state with
  | live => exact absurd h hl
  | frozen => exact absurd h hf
  | booting => rw [wake_booting h]; nofun
  | powering => rw [wake_powering h]; nofun
  | held => rw [wake_held h]; nofun
  | fault => rw [wake_fault h]; nofun
  | empty => rw [wake_empty h]; nofun
  | off =>
    cases hm : (s.slot m).mismatch with
    | true => rw [wake_refitted h hm]; nofun
    | false => rw [wake_off h hm]; nofun

/-- The writer stays disabled in WAKE. -/
theorem enterWake_writer {s : State} (hl : (s.slot m).state ≠ .live) (hf : (s.slot m).state ≠ .frozen)
    (hw : s.frame.writer = none) : (enterWake r m s).frame.writer = none := by
  have hframe : (wake m (setRecord (some { r with phase := .wake }) s)).1.frame = s.frame :=
    (wake_same m (setRecord (some { r with phase := .wake }) s)).same .frame (by decide)
  have hanswer := wake_waits (m := m) (s := setRecord (some { r with phase := .wake }) s) hl hf
  unfold enterWake
  dsimp only
  split <;> rename_i h <;> rw [h] at hframe hanswer
  · exact absurd rfl (hanswer _)
  · exact (fail_restarts ..).writer
  · exact (fail_restarts ..).writer
  · exact (congrArg FrameStore.writer hframe).trans hw

end

/-- RETIME for standby leaves the writer alone. -/
theorem enterRetime_standby {r : Record} (ht : r.target = none) (s : State) :
    (enterRetime r s).frame.writer = s.frame.writer ∧ (enterRetime r s).slots = s.slots := by
  have hd : decisionFor r.target s = some (standbyDecision s) := by rw [ht]; rfl
  have hplaced : placedFor r (standbyDecision s) s = s := by rw [placedFor, ht]
  have hretime : enterRetime r s = setOutput r.retiming (standbyDecision s) s := by
    rw [enterRetime_eq hd, hplaced, ht]
    rfl
  rw [hretime]
  refine ⟨?_, setOutput_slots ..⟩
  cases hn : needsRetime (standbyDecision s) s with
  | true =>
    obtain ⟨-, hframe, -⟩ := retime_spec (decisionFor_target hd)
      (s := setHold false (setBlank true (setRecord (some r.retiming) s))) rfl
    rw [setOutput_retimes hn, hframe]
    rfl
  | false =>
    obtain ⟨-, -, hframe, -⟩ := shownAtOnce_spec r.retiming (standbyDecision s) s
    rw [setOutput_stays hn, hframe]

/-- The part with `from` parked and the writer disabled. -/
theorem parkedSource_spec (r : Record) (s : State) :
    (parkedSource r s).frame.writer = none ∧
    (∀ n, r.source = some n → r.target ≠ some n → Parked (s.profile n).general (s.slot n) ((parkedSource r s).slot n)) ∧
    (∀ n, r.source ≠ some n ∨ r.target = some n → (parkedSource r s).slot n = s.slot n) := by
  have hslot (n : Slot) (u : State) : (disableWriter u).slot n = u.slot n := by
    rw [State.slot, (disableWriter_same u).same .slots (by decide), State.slot]
  refine ⟨congrArg FrameStore.writer (disableWriter_frame _), fun n hs ht => ?_, fun n h => ?_⟩
  · rw [parkedSource, hslot, hs]
    dsimp only
    rw [if_neg ht]
    exact park_parked n s
  · rw [parkedSource, hslot]
    split
    · next m hm =>
      split
      · rfl
      · next hne =>
        refine (park_parks m s).others.slot n ?_
        rintro rfl
        exact h.elim (absurd hm) hne
    · rfl

/-- What PARK makes of `from` and of the writer (R82). -/
theorem enterPark_spec (r : Record) (s : State) :
    ((∀ n, r.target = some n → (s.slot n).state ≠ .live ∧ (s.slot n).state ≠ .frozen) →
      (enterPark r s).frame.writer = none) ∧
    ∀ n, r.source = some n →
      (r.target ≠ some n → Parked (s.profile n).general (s.slot n) ((enterPark r s).slot n)) ∧
      (r.target = none → ∀ m, m ≠ n → (enterPark r s).slot m = s.slot m) := by
  obtain ⟨hwriter, hparked, hkept⟩ := parkedSource_spec r (setRecord (some { r with phase := .park }) s)
  cases ht : r.target with
  | some m =>
    have hpark : enterPark r s =
        enterWake { r with phase := .park } m (parkedSource r (setRecord (some { r with phase := .park }) s)) := by
      rw [enterPark_eq]
      split <;> rename_i h <;> cases h.symm.trans ht
      rfl
    rw [hpark]
    refine ⟨fun h => ?_, fun n hs => ⟨fun hne => ?_, nofun⟩⟩
    · obtain ⟨hl, hf⟩ := h m rfl
      refine enterWake_writer ?_ ?_ hwriter <;> rw [hkept m (.inr ht)] <;> assumption
    · rw [enterWake_slots _ (by exact ht) n fun h => hne (by rw [h])]
      exact hparked n hs (by rw [ht]; exact hne)
  | none =>
    have hpark : enterPark r s =
        enterRetime { r with phase := .park } (parkedSource r (setRecord (some { r with phase := .park }) s)) := by
      rw [enterPark_eq]
      split <;> rename_i h <;> cases h.symm.trans ht
      rfl
    obtain ⟨hw, hslots⟩ := enterRetime_standby (r := { r with phase := .park }) (by exact ht)
      (parkedSource r (setRecord (some { r with phase := .park }) s))
    have hslot (n : Slot) : (enterPark r s).slot n =
        (parkedSource r (setRecord (some { r with phase := .park }) s)).slot n := by
      rw [hpark, State.slot, hslots, State.slot]
    refine ⟨fun _ => ?_, fun n hs => ⟨fun _ => ?_, fun _ m hm => ?_⟩⟩
    · rw [hpark]
      exact hw.trans hwriter
    · rw [hslot]
      exact hparked n hs (by rw [ht]; exact (Option.some_ne_none n).symm)
    · rw [hslot]
      exact hkept m (.inl fun h => hm (Option.some.inj (h.symm.trans hs)))

end Sys2Proof.Machine

/-! ### GRANT (R92, R146) -/

namespace Sys2Proof.Machine

/-! #### The router's part -/

/-- The router with the working map of a slot, or of none. -/
def mappedFor (t : Option Slot) (s : State) : Router :=
  match t with
  | none => { s.router with workingMap := [], fourWay := Tab.all 4 false }
  | some n =>
    { s.router with
      workingMap := (s.profile n).controls.toList.flatten, fourWay := (s.profile n).general.fourWay }

theorem copyMap_router (t : Option Slot) (s : State) : (copyMap t s).router = mappedFor t s := by
  cases t <;> rfl

theorem copyMap_slot (t : Option Slot) (n : Slot) (s : State) :
    (copyMap t s).slot n = { s.slot n with lineHigh := ((copyMap t s).slot n).lineHigh } := by
  cases t with
  | none => rfl
  | some m =>
    have hslot : (copyMap (some m) s).slot n = if n = m then
        { s.slot m with lineHigh := (s.profile m).general.lineHigh } else s.slot n := State.slot_setSlot ..
    rw [hslot]
    split
    · next h => rw [h]
    · rfl

section
variable {n : Slot} {s : State}

theorem routerGrant_standby : (routerGrant none s).router =
    { mappedFor none s with owner := .link, grantMask := Tab.all 55 false, playTimer := none } := by
  rw [← copyMap_router]
  exact giveLink_router _

theorem routerGrant_held (h : s.router.linkHold = true) : (routerGrant (some n) s).router =
    { mappedFor (some n) s with owner := .link, grantMask := Tab.all 55 false, playTimer := none } := by
  have hgrant : routerGrant (some n) s = giveLink (copyMap (some n) s) := if_pos h
  rw [hgrant, giveLink_router, copyMap_router]

theorem routerGrant_live (h : s.router.linkHold = false) (hl : (s.slot n).state = .live) :
    routerGrant (some n) s = giveSlot n (copyMap (some n) s) := by
  have hstate : ((copyMap (some n) s).slot n).state = .live := by
    rw [copyMap_slot]
    exact hl
  refine (if_neg ?_).trans (if_pos hstate)
  rw [copyMap_router]
  exact fun h' => Bool.false_ne_true (h.symm.trans h')

theorem routerGrant_waits (h : s.router.linkHold = false) (hl : (s.slot n).state ≠ .live) :
    (routerGrant (some n) s).router = { mappedFor (some n) s with
      owner := .none, grantMask := Tab.all 55 false, playTimer := none, claim := some n } := by
  have hstate : ((copyMap (some n) s).slot n).state ≠ .live := by
    rw [copyMap_slot]
    exact hl
  have hgrant : routerGrant (some n) s = { giveNone (copyMap (some n) s) with
      router := { (giveNone (copyMap (some n) s)).router with claim := some n } } := by
    refine (if_neg ?_).trans (if_neg hstate)
    rw [copyMap_router]
    exact fun h' => Bool.false_ne_true (h.symm.trans h')
  rw [hgrant, giveNone_router, copyMap_router]

theorem routerGrant_owner (t : Option Slot) (s : State) :
    (routerGrant t s).router.workingMap = (mappedFor t s).workingMap ∧
      (routerGrant t s).router.fourWay = (mappedFor t s).fourWay ∧
      (routerGrant t s).router.linkHold = s.router.linkHold := by
  have hlink : (mappedFor t s).linkHold = s.router.linkHold := by cases t <;> rfl
  cases t with
  | none =>
    rw [routerGrant_standby]
    exact ⟨rfl, rfl, hlink⟩
  | some n =>
    cases h : s.router.linkHold with
    | true =>
      rw [routerGrant_held h]
      exact ⟨rfl, rfl, h⟩
    | false =>
      by_cases hl : (s.slot n).state = .live
      · rw [routerGrant_live h hl, giveSlot_router, copyMap_router]
        exact ⟨rfl, rfl, h⟩
      · rw [routerGrant_waits h hl]
        exact ⟨rfl, rfl, h⟩

end

/-- What the router's part of GRANT counts, if anything, is a unit delivered. -/
theorem routerGrant_counter (t : Option Slot) (s : State) {i : CounterId} (hi : ∀ n, i ≠ coinsDelivered n) :
    (routerGrant t s).counter i = s.counter i := by
  have hcopy : (copyMap t s).counters = s.counters := (copyMap_same t s).same .counters (by decide)
  have hquiet {u : State} (h : u.counters = s.counters) : u.counter i = s.counter i := by rw [State.counter, h]; rfl
  have hgive (n : Slot) : (giveSlot n (copyMap t s)).counter i = s.counter i := by
    unfold giveSlot
    dsimp only
    generalize hu : cutLostPulses _ = u
    have hcut : u.counters = s.counters := by
      rw [← hu]
      exact ((cutLostPulses_same _).same .counters (by decide)).trans hcopy
    rcases judgePulse_cases n u with h | ⟨line, rest, hm, hq⟩
    · rw [h]
      exact hquiet hcut
    · obtain ⟨-, -, hcount⟩ := judgePulse_starts hm hq
      rw [State.counter, hcount]
      exact (increment_counter_other (hi n) u).trans (hquiet hcut)
  unfold routerGrant
  dsimp only
  split
  · exact hquiet (((giveLink_same _).same .counters (by decide)).trans hcopy)
  · split_ifs
    · exact hquiet (((giveLink_same _).same .counters (by decide)).trans hcopy)
    · exact hgive _
    · exact hquiet (((giveNone_same _).same .counters (by decide)).trans hcopy)

/-! #### The recovery watch of a slot granted without a signal (R92, R95) -/

/-- A slot has no signal. -/
def NoSignal (n : Slot) (s : State) : Prop :=
  (s.monitor n.source).state = .seeking ∨ (s.monitor n.source).state = .dark

section
variable {n : Slot} {s : State}

theorem watchIfLost_signal (h : ¬NoSignal n s) : watchIfLost n s = s := by
  unfold watchIfLost
  unfold NoSignal at h
  split <;> rename_i hst
  · exact absurd (.inl hst) h
  · exact absurd (.inr hst) h
  · rfl
  · rfl

theorem watchIfLost_lost (h : NoSignal n s) :
    watchIfLost n s = startWatch (s.profile n).general.recoveryLimit (setHold true s) := by
  unfold watchIfLost
  rcases h with h | h <;> rw [h]

theorem startWatch_runs {k : Nat} (h : k ≠ 0) : startWatch k s = setWatch (.running (s.now + ms k)) s := if_neg h

theorem startWatch_lost : startWatch 0 s = loseBoard .lostSignal s := if_pos rfl

end

end Sys2Proof.Machine

namespace Sys2Proof.Machine

/-! #### The record closed at GRANT -/

/-- The part at GRANT before the record is closed. -/
def grantPrepared (r : Record) (s : State) : State :=
  grantSlot r.target (judgeWatched { s with co := { s.co with current := r.target } })

theorem granted_closes (r : Record) (s : State) : granted r s = closeRecord r .done (grantPrepared r s) := rfl

theorem grantPrepared_same (r : Record) (s : State) :
    SameOutside [.link, .counters, .slots, .co, .pic, .reports] s (grantPrepared r s) := by
  have hjudged : SameOutside [.link, .counters, .slots, .co, .pic, .reports] s
      (judgeWatched { s with co := { s.co with current := r.target } }) :=
    (judgeWatched_same _).after ((SameOutside.refl [.link, .counters, .slots, .co, .pic, .reports] s).with_co (by decide))
      (by decide)
  exact (grantSlot_same ..).after hjudged (by decide)

theorem granted_same (r : Record) (s : State) :
    SameOutside [.link, .counters, .slots, .co, .pic, .reports] s (granted r s) := by
  rw [granted_closes]
  exact (closeRecord_same ..).after (grantPrepared_same r s) (by decide)

theorem grantPrepared_posts (r : Record) (s : State) : Posts [6, 8] s (grantPrepared r s) := by
  have hjudged : Posts [6, 8] s (judgeWatched { s with co := { s.co with current := r.target } }) :=
    Posts.start ((judgeWatched_posts _).mono (by decide)) rfl
  refine hjudged.trans ?_
  unfold grantPrepared grantSlot
  split
  · exact Posts.start ((increment_posts_counter ..).mono (by decide)) rfl
  · exact .refl _ _

theorem granted_tells_host (r : Record) {s : State} (hm : s.link.mask.at 0 = true) :
    ∃ e ∈ (granted r s).link.notices, ∃ d, e.notice = .changeoverDone d ∧
      d = { r.report .done with superseded := d.superseded } := by
  have hmask := (congrArg Link.mask (grantPrepared_posts r s).linkKept :)
  rw [granted_closes]
  obtain ⟨e, he, d, hd, hfields, -⟩ := closeRecord_tells_host r .done (s := grantPrepared r s) (by rw [hmask]; exact hm)
  exact ⟨e, he, d, hd, hfields⟩

theorem granted_slots {r : Record} {n : Slot} (s : State) (ht : r.target = some n) :
    ((granted r s).slot n = { s.slot n with parkedSig := none }) ∧ (∀ m, m ≠ n → (granted r s).slot m = s.slot m) ∧
      (granted r s).counters = (increment (selectedCount n) s).counters := by
  have hclosed : (granted r s).slots = (grantPrepared r s).slots := (closeRecord_same ..).same .slots (by decide)
  have hcounters : (granted r s).counters = (grantPrepared r s).counters := (closeRecord_same ..).same .counters (by decide)
  have hjudged := judgeWatched_same { s with co := { s.co with current := r.target } }
  have hslots : (judgeWatched { s with co := { s.co with current := r.target } }).slots = s.slots :=
    hjudged.same .slots (by decide)
  have hjcounters : (judgeWatched { s with co := { s.co with current := r.target } }).counters = s.counters :=
    hjudged.same .counters (by decide)
  have hprepared : grantPrepared r s = grantSlot r.target (judgeWatched { s with co := { s.co with current := r.target } }) :=
    rfl
  generalize judgeWatched { s with co := { s.co with current := r.target } } = u at *
  have hslot (m : Slot) : (granted r s).slot m =
      if m = n then { s.slot n with parkedSig := none } else s.slot m := by
    have hset : (grantPrepared r s).slots = (u.setSlot n { u.slot n with parkedSig := none }).slots := by
      rw [hprepared, ht]
      exact (increment_same ..).same .slots (by decide)
    rw [State.slot, hclosed, hset]
    refine (State.slot_setSlot ..).trans ?_
    simp only [State.slot, hslots]
  refine ⟨(hslot n).trans (if_pos rfl), fun m hm => (hslot m).trans (if_neg hm), ?_⟩
  rw [hcounters, hprepared, ht]
  exact increment_counters_congr _ hjcounters

/-- With a pending target GRANT starts the changeover to it. -/
theorem grant_pending {r : Record} {q : Pending} {s : State} (h : s.co.pending = some q) :
    grant r s = startChangeover ⟨q.tag, q.target, false, none⟩ (setPending none (granted r s)) := by
  rw [grant_eq]
  have hp : (granted r s).co.pending = some q := by rw [granted_co]; exact h
  rw [hp]
  rfl

theorem grant_standby {r : Record} {s : State} (h : s.co.pending = none) (ht : r.target = none) :
    grant r s = routerGrant none (granted r s) := by
  rw [grant_eq]
  have hp : (granted r s).co.pending = none := by rw [granted_co]; exact h
  rw [hp]
  dsimp only
  split <;> rename_i h' <;> cases h'.symm.trans ht
  rw [ht]

theorem grant_slot {r : Record} {n : Slot} {s : State} (h : s.co.pending = none) (ht : r.target = some n) :
    grant r s = watchIfLost n (routerGrant (some n) (granted r s)) := by
  rw [grant_eq]
  have hp : (granted r s).co.pending = none := by rw [granted_co]; exact h
  rw [hp]
  dsimp only
  split <;> rename_i h' <;> cases h'.symm.trans ht
  rw [ht]

/-! #### The state after GRANT, whatever comes of it -/

theorem routerGrant_slots (t : Option Slot) (s : State) : (routerGrant t s).slots = (copyMap t s).slots := by
  unfold routerGrant
  dsimp only
  split
  · exact (giveLink_same _).same .slots (by decide)
  · split_ifs
    · exact (giveLink_same _).same .slots (by decide)
    · exact (giveSlot_same ..).same .slots (by decide)
    · exact (giveNone_same _).same .slots (by decide)

/-- The part once the router has taken a slot granted with nothing pending. -/
def grantRouted (r : Record) (n : Slot) (s : State) : State := routerGrant (some n) (granted r s)

section
variable {r : Record} {n : Slot} {s : State}

/-- What may follow the router's part of GRANT: the watch, or a changeover to standby. -/
theorem watched_cases (v : State) (hm : NoSignal n v → (v.profile n).general.recoveryLimit ≠ 0) :
    (¬NoSignal n v ∧ watchIfLost n v = v) ∨ (NoSignal n v ∧ watchIfLost n v =
      setWatch (.running (v.now + ms (v.profile n).general.recoveryLimit)) (setHold true v)) := by
  by_cases h : NoSignal n v
  · exact .inr ⟨h, (watchIfLost_lost h).trans (startWatch_runs (hm h))⟩
  · exact .inl ⟨h, watchIfLost_signal h⟩

theorem watched_lost {v : State} (h : NoSignal n v) (hm : (v.profile n).general.recoveryLimit = 0) :
    watchIfLost n v = loseBoard .lostSignal (setHold true v) := by
  rw [watchIfLost_lost h, hm, startWatch_lost]

theorem grantRouted_same : SameOutside [.link, .counters, .slots, .co, .pic, .router, .coins, .reports] s
    (grantRouted r n s) :=
  ((routerGrant_same ..).mono (by decide)).after ((granted_same r s).mono (by decide)) (fun _ h => h)

theorem grantRouted_noSignal : NoSignal n (grantRouted r n s) ↔ NoSignal n s := by
  rw [NoSignal, State.monitor, grantRouted_same.same .monitors (by decide)]
  rfl

theorem grantRouted_limit :
    ((grantRouted r n s).profile n).general.recoveryLimit = (s.profile n).general.recoveryLimit := by
  rw [State.profile, grantRouted_same.same .profiles (by decide)]
  rfl

theorem grantRouted_co : (grantRouted r n s).co = { s.co with current := r.target, record := none } :=
  ((routerGrant_same ..).same .co (by decide)).trans (granted_co r s)

theorem grantRouted_slots (ht : r.target = some n) : ((grantRouted r n s).slot n).parkedSig = none ∧
    (∀ m, m ≠ n → (grantRouted r n s).slot m = s.slot m) ∧ (s.counters.freeze = false →
      (grantRouted r n s).counter (selectedCount n) = (s.counter (selectedCount n)).bump s.counters.saturate) := by
  have hother (m : Slot) : selectedCount n ≠ coinsDelivered m := by
    clear ht
    revert n m
    decide
  obtain ⟨hself, hothers, hcount⟩ := granted_slots s ht
  have hrouted (m : Slot) : (grantRouted r n s).slot m = (copyMap (some n) (granted r s)).slot m := by
    rw [State.slot, grantRouted, routerGrant_slots, State.slot]
  refine ⟨?_, fun m hm => ?_, fun hf => ?_⟩
  · rw [hrouted, copyMap_slot, hself]
  · rw [hrouted]
    exact ((State.slot_setSlot ..).trans (if_neg hm)).trans (hothers m hm)
  · rw [grantRouted, routerGrant_counter _ _ hother, State.counter, hcount]
    exact (increment_counter hf _).trans (if_pos rfl)

end

end Sys2Proof.Machine

namespace Sys2Proof.Machine

/-! #### What stands whatever the watch makes of the grant -/

section
variable {n : Slot}

theorem loseBoard_co (reason : Reason) (s : State) : (loseBoard reason s).co =
    { s.co with
      record := some (newRecord ⟨0, none, false, some reason⟩ (setWatch .stopped s)), watch := .stopped } :=
  startChangeover_co ..

theorem loseBoard_router (reason : Reason) (s : State) : (loseBoard reason s).router =
    { s.router with
      claim := none
      owner := if s.router.linkHold then .link else .none
      grantMask := Tab.all 55 false
      playTimer := none } :=
  startChangeover_router ..

theorem watchIfLost_kept (n : Slot) (s : State) :
    let t := watchIfLost n s
    t.co.current = s.co.current ∧ t.co.pending = s.co.pending ∧ t.router.workingMap = s.router.workingMap ∧
      t.router.fourWay = s.router.fourWay ∧
      (s.router.linkHold = true → s.router.owner = .link → t.router.owner = .link) := by
  intro t
  by_cases hlost : NoSignal n s
  · by_cases hzero : (s.profile n).general.recoveryLimit = 0
    · have ht : t = _ := watched_lost hlost hzero
      rw [ht, loseBoard_co, loseBoard_router]
      exact ⟨rfl, rfl, rfl, rfl, fun h _ => if_pos h⟩
    · have ht : t = _ := (watchIfLost_lost hlost).trans (startWatch_runs hzero)
      rw [ht]
      exact ⟨rfl, rfl, rfl, rfl, fun _ h => h⟩
  · have ht : t = s := watchIfLost_signal hlost
    rw [ht]
    exact ⟨rfl, rfl, rfl, rfl, fun _ h => h⟩

end

section
variable {r : Record} {s : State}

/-- The current slot and the pending target after GRANT. -/
theorem grant_current (r : Record) (s : State) : (grant r s).co.current = r.target ∧ (grant r s).co.pending = none := by
  cases hp : s.co.pending with
  | some q =>
    rw [grant_pending hp, startChangeover_co]
    exact ⟨congrArg Controller.current (granted_co r s), rfl⟩
  | none =>
    cases ht : r.target with
    | none =>
      rw [grant_standby hp ht, (routerGrant_same ..).same .co (by decide), granted_co]
      exact ⟨ht, hp⟩
    | some n =>
      obtain ⟨hcurrent, hpending, -⟩ := watchIfLost_kept n (grantRouted r n s)
      rw [grant_slot hp ht]
      rw [grantRouted_co] at hcurrent hpending
      exact ⟨hcurrent.trans ht, hpending.trans hp⟩

/-- The end told to the host, where nothing follows it at once. -/
theorem grant_tells_host (hm : s.link.mask.at 0 = true) (hp : s.co.pending = none)
    (hw : ∀ n, r.target = some n → NoSignal n s → (s.profile n).general.recoveryLimit ≠ 0) :
    ∃ e ∈ (grant r s).link.notices, ∃ d, e.notice = .changeoverDone d ∧
      d = { r.report .done with superseded := d.superseded } := by
  obtain ⟨e, he, d, hd, hfields⟩ := granted_tells_host r hm
  have hrouted (t : Option Slot) : e ∈ (routerGrant t (granted r s)).link.notices :=
    (routerGrant_posts t (granted r s)).keeps he (by rw [hd]; simp [Notice.kind])
  refine ⟨e, ?_, d, hd, hfields⟩
  cases ht : r.target with
  | none =>
    rw [grant_standby hp ht]
    exact hrouted none
  | some n =>
    rw [grant_slot hp ht]
    rcases watched_cases (n := n) (grantRouted r n s) (fun h => by
      rw [grantRouted_limit]
      exact hw n ht (grantRouted_noSignal.1 h)) with ⟨-, h⟩ | ⟨-, h⟩
    · rw [← grantRouted, h]
      exact hrouted (some n)
    · rw [← grantRouted, h]
      exact hrouted (some n)

/-- The slots and SELECTED_COUNT after GRANT. -/
theorem grant_slots {n : Slot} (ht : r.target = some n) : ((grant r s).slot n).parkedSig = none ∧
    (∀ m, m ≠ n → (grant r s).slot m = s.slot m) ∧ (s.counters.freeze = false →
      (grant r s).counter (selectedCount n) = (s.counter (selectedCount n)).bump s.counters.saturate) := by
  cases hp : s.co.pending with
  | some q =>
    obtain ⟨hself, hothers, hcount⟩ := granted_slots s ht
    have hstart := startChangeover_same ⟨q.tag, q.target, false, none⟩ (setPending none (granted r s))
    have hslots : (grant r s).slots = (granted r s).slots := by
      rw [grant_pending hp]
      exact hstart.same .slots (by decide)
    have hcounters : (grant r s).counters = (granted r s).counters := by
      rw [grant_pending hp]
      exact hstart.same .counters (by decide)
    refine ⟨?_, fun m hm => ?_, fun hf => ?_⟩
    · rw [State.slot, hslots]
      exact congrArg SlotRecord.parkedSig hself
    · rw [State.slot, hslots]
      exact hothers m hm
    · rw [State.counter, hcounters, hcount]
      exact (increment_counter hf _).trans (if_pos rfl)
  | none =>
    have hsame := watchIfLost_same n (grantRouted r n s)
    have hslots : (watchIfLost n (grantRouted r n s)).slots = (grantRouted r n s).slots := hsame.same .slots (by decide)
    have hcounters : (watchIfLost n (grantRouted r n s)).counters = (grantRouted r n s).counters :=
      hsame.same .counters (by decide)
    rw [grant_slot hp ht, ← grantRouted, State.counter, hcounters]
    simp only [State.slot, hslots]
    exact grantRouted_slots ht

/-- The router after GRANT with nothing pending. -/
theorem grant_router (hp : s.co.pending = none) :
    (r.target = none ∨ s.router.linkHold = true → (grant r s).router.owner = .link) ∧
    (r.target = none → (grant r s).co.record = none ∧ (grant r s).router.workingMap = [] ∧
      (grant r s).router.fourWay = Tab.all 4 false) ∧
    (∀ n, r.target = some n → (grant r s).router.workingMap = (s.profile n).controls.toList.flatten ∧
      (grant r s).router.fourWay = (s.profile n).general.fourWay) := by
  have hgranted : (granted r s).router = s.router := (granted_same r s).same .router (by decide)
  have hprofiles : (granted r s).profiles = s.profiles := (granted_same r s).same .profiles (by decide)
  cases ht : r.target with
  | none =>
    rw [grant_standby hp ht, routerGrant_standby, (routerGrant_same ..).same .co (by decide), granted_co]
    exact ⟨fun _ => rfl, fun _ => ⟨rfl, rfl, rfl⟩, nofun⟩
  | some n =>
    obtain ⟨-, -, hmap, hfour, howner⟩ := watchIfLost_kept n (grantRouted r n s)
    obtain ⟨hrmap, hrfour, hrhold⟩ := routerGrant_owner (some n) (granted r s)
    rw [grant_slot hp ht, ← grantRouted]
    refine ⟨fun h => ?_, nofun, fun m hm => ?_⟩
    · have hhold : (granted r s).router.linkHold = true := by
        rw [hgranted]
        exact h.resolve_left nofun
      exact howner (hrhold.trans hhold) (congrArg Router.owner (routerGrant_held hhold))
    · obtain rfl := Option.some.inj hm
      rw [hmap, hfour, grantRouted, hrmap, hrfour]
      simp only [mappedFor, State.profile, hprofiles]
      exact ⟨trivial, trivial⟩

/-- The controls of a slot granted with a signal, or with a watch that runs. -/
theorem grant_controls {n : Slot} (hp : s.co.pending = none) (ht : r.target = some n) (hh : s.router.linkHold = false)
    (hw : NoSignal n s → (s.profile n).general.recoveryLimit ≠ 0) :
    ((s.slot n).state = .live → (grant r s).router.owner = .slot n ∧ (grant r s).router.claim = none ∧
      (grant r s).router.playTimer = some (s.now + 27000000) ∧
      (grant r s).router.grantMask = Vector.ofFn fun k : Line => s.router.debounced.get ⟨k.val, by omega⟩) ∧
    ((s.slot n).state ≠ .live → (grant r s).router.owner = .none ∧ (grant r s).router.claim = some n) := by
  have hgranted : (granted r s).router = s.router := (granted_same r s).same .router (by decide)
  have hnow : (granted r s).now = s.now := (granted_same r s).same .now (by decide)
  obtain ⟨hself, -, -⟩ := granted_slots s ht
  have hstate : ((granted r s).slot n).state = (s.slot n).state := by rw [hself]
  have hrouter : (grant r s).router = (grantRouted r n s).router := by
    rw [grant_slot hp ht, ← grantRouted]
    rcases watched_cases (n := n) (grantRouted r n s) (fun h => by
      rw [grantRouted_limit]
      exact hw (grantRouted_noSignal.1 h)) with ⟨-, h⟩ | ⟨-, h⟩ <;> rw [h]
    rfl
  have hhold : (granted r s).router.linkHold = false := by rw [hgranted]; exact hh
  rw [hrouter, grantRouted]
  refine ⟨fun hl => ?_, fun hl => ?_⟩
  · have hcnow : (copyMap (some n) (granted r s)).now = s.now := hnow
    have hcrouter : (copyMap (some n) (granted r s)).router.debounced = s.router.debounced := by
      rw [copyMap_router, mappedFor, hgranted]
    rw [routerGrant_live hhold (hstate.trans hl), giveSlot_router, hcnow, heldInputs]
    simp only [inputActive, hcrouter]
    exact ⟨trivial, trivial, rfl, rfl⟩
  · rw [routerGrant_waits hhold (by rw [hstate]; exact hl)]
    exact ⟨rfl, rfl⟩

/-- The recovery watch after GRANT. -/
theorem grant_watch {n : Slot} (hp : s.co.pending = none) (ht : r.target = some n) :
    (¬NoSignal n s → (grant r s).co.record = none ∧ (grant r s).co.watch = s.co.watch) ∧
    (NoSignal n s → (s.profile n).general.recoveryLimit ≠ 0 →
      (grant r s).co.record = none ∧ (grant r s).frame.hold = true ∧
      (grant r s).co.watch = .running (s.now + 27000 * (s.profile n).general.recoveryLimit)) ∧
    (NoSignal n s → (s.profile n).general.recoveryLimit = 0 →
      ∃ r', (grant r s).co.record = some r' ∧ r'.tag = 0 ∧ r'.target = none ∧ r'.source = some n ∧
        r'.reason = some .lostSignal) := by
  have hco := grantRouted_co (r := r) (n := n) (s := s)
  have hnow : (grantRouted r n s).now = s.now := grantRouted_same.same .now (by decide)
  rw [grant_slot hp ht, ← grantRouted]
  refine ⟨fun h => ?_, fun h hl => ?_, fun h hl => ?_⟩
  · rw [watchIfLost_signal (by rw [grantRouted_noSignal]; exact h), hco]
    exact ⟨rfl, rfl⟩
  · rw [watchIfLost_lost (grantRouted_noSignal.2 h), startWatch_runs (by rw [grantRouted_limit]; exact hl),
      grantRouted_limit, ← ms_eq, ← hnow]
    exact ⟨congrArg Controller.record hco, rfl, rfl⟩
  · rw [watched_lost (grantRouted_noSignal.2 h) (by rw [grantRouted_limit]; exact hl), loseBoard_co]
    exact ⟨_, rfl, rfl, rfl, (congrArg Controller.current hco :).trans ht, rfl⟩

end

end Sys2Proof.Machine

/-! ### The statement on failures and the ends of the phases (O31) -/

namespace Sys2Proof.Machine

/-- The end of a changeover as the notice tells it. -/
theorem report_fields {r : Record} {o : CoOutcome} {l : List Entry}
    (h : ∃ e ∈ l, ∃ d, e.notice = .changeoverDone d ∧ d = { r.report o with superseded := d.superseded }) :
    ∃ e ∈ l, ∃ d, e.notice = .changeoverDone d ∧ d.outcome = o ∧ d.tag = r.tag ∧ d.source = r.source ∧
      d.target = r.target ∧ d.resume = r.resume := by
  obtain ⟨e, he, d, hd, hfields⟩ := h
  refine ⟨e, he, d, hd, ?_⟩
  rw [hfields]
  exact ⟨rfl, rfl, rfl, rfl, rfl⟩

/-- The start after a failure (R93). -/
theorem fail_next (r : Record) (o : CoOutcome) (s : State) :
    ∃ r', (fail r o s).co.record = some r' ∧ r'.phase = .quiesce ∧ r'.source = s.co.current ∧ r'.reason = none ∧
      (∀ q, s.co.pending = some q → r'.target = q.target ∧ r'.tag = q.tag ∧ r'.isReturn = false) ∧
      (s.co.pending = none → r'.tag = 0 ∧ r'.target = returnDue r s ∧ r'.isReturn = (returnDue r s).isSome) := by
  obtain ⟨r', hr, hphase, hsource, hreason, htag, htarget, hreturn⟩ := (fail_restarts r o s).record
  rw [nextStart_reported] at hreason htag htarget hreturn
  refine ⟨r', hr, hphase, hsource, hreason.trans (nextStart_reason r s), fun q hq => ?_, fun hp => ?_⟩
  · rw [htag, htarget, hreturn, nextStart_pending hq]
    exact ⟨rfl, rfl, rfl⟩
  · obtain ⟨h1, h2, h3⟩ := nextStart_return (r := r) hp
    exact ⟨htag.trans h1, htarget.trans h2, hreturn.trans h3⟩

theorem fail_blocks (r : Record) (o : CoOutcome) (s : State) :
    SameOutside [.link, .counters, .slots, .bus, .monitors, .co, .frame, .pic, .snd, .router, .coins, .reports] s
      (fail r o s) := fail_same r o s

theorem fail_counters {r : Record} {n : Slot} {s : State} (hr : s.co.record = some r) (hs : OwnerSound s)
    (hn : r.target = some n) (hf : s.counters.freeze = false) (o : CoOutcome) :
    (fail r o s).counters.table = s.counters.table.put (lockFailures n)
      ((s.counter (lockFailures n)).bump s.counters.saturate) := by
  have hstart : (fail r o s).counters = (failReported r o s).counters := by
    rw [fail_eq]
    exact ((startChangeover_same ..).same .counters (by decide)).trans rfl
  rw [hstart]
  exact failReported_counts (by rw [hr]; exact Option.some_ne_none r) hs hn hf

/-- LOCK entered for a slot without a lock (R83, R84). -/
theorem enterLock_spec {r : Record} {n : Slot} {s : State} (hp : s.co.pending = none)
    (hl : (s.monitor n.source).state ≠ .locked) :
    ∃ r', enterLock r n s = { s with co := { s.co with record := some r' } } ∧ endWake r n s = enterLock r n s ∧
      r'.phase = .lock ∧ r'.lockLimit = some (s.now + 27000 * (s.profile n).general.lockLimit) ∧ r'.tag = r.tag ∧
      r'.source = r.source ∧ r'.target = r.target ∧ r'.lockSeen = r.lockSeen ∧
      (r'.checkApplies = true ↔
        (s.profile n).general.resumeCheck = true ∧ r.wokenFrozen = true ∧ (s.slot n).parkedSig ≠ none) := by
  refine ⟨_, enterLock_waits hl, by rw [endWake, hp], rfl, ?_, rfl, rfl, rfl, rfl, ?_⟩
  · rw [ms_eq]
  · simp [Option.isSome_iff_ne_none, and_assoc]

/-- LOCK judged (R84). -/
theorem judgeLock_spec (r : Record) (n : Slot) (s : State) :
    (decision n s = none → judgeLock r n s = fail r .classMismatch s) ∧
    ((decision n s).isSome = true → r.checkApplies = true →
      (∃ r', (judgeLock r n s).co = { s.co with record := some r' } ∧ r'.lockSeen = true ∧ r'.phase = r.phase ∧
        (∀ t, r.lockLimit = some t → r'.lockLimit = if s.now < t then some t else none)) ∧
      (judgeLock r n s).frame.writer = some n ∧ SameOutside [.link, .co, .frame, .pic] s (judgeLock r n s)) ∧
    ((decision n s).isSome = true → r.checkApplies = false → s.co.pending = none →
      ∃ r', judgeLock r n s = enterRetime r' s ∧ r'.lockSeen = true ∧ r'.tag = r.tag ∧ r'.target = r.target ∧
        r'.source = r.source ∧ r'.resume = r.resume) := by
  refine ⟨judgeLock_mismatch, fun h hc => ?_, fun h hc hp => ?_⟩
  · obtain ⟨hco, hwriter, hsame⟩ := judgeLock_awaits h hc
    exact ⟨⟨_, hco, rfl, rfl, fun t ht => limitAfterLock_eq ht⟩, hwriter, hsame⟩
  · refine ⟨r.locked s, ?_, rfl, rfl, rfl, rfl, rfl⟩
    rw [judgeLock_done h hc, endLock, hp]

/-- The conditions that end the phases (R80, R87, R90). -/
theorem advancePhase_spec {r : Record} {s : State} (hr : s.co.record = some r) :
    let fades := s.snd.fade = none ∧ (r.holdStyle = true ∨ s.pic.fade = none)
    (r.phase = .quiesce →
      (r.source = none ∨ fades → advancePhase s = endQuiesce r s) ∧
      (r.source ≠ none → ¬fades → advancePhase s = s)) ∧
    (r.phase = .retime →
      let shown : Prop := ∀ n, r.target = some n → (s.monitor n.source).state = .locked ∧
        ∃ b, (s.buffer b).state = .ready ∧ (s.buffer b).source = some n
      (s.out.settle = none → shown → advancePhase s = enterReveal r s) ∧
      (s.out.settle ≠ none ∨ ¬shown → advancePhase s = s)) ∧
    (r.phase = .reveal → (fades → advancePhase s = grant r s) ∧ (¬fades → advancePhase s = s)) ∧
    (r.phase = .wake ∨ r.phase = .lock → advancePhase s = s) := by
  intro fades
  have hfades : fadesDone r s = true ↔ fades := fadesDone_iff r s
  have hquiesce : quiesceDone r s = true ↔ r.source = none ∨ fades := by
    rw [quiesceDone, Bool.or_eq_true, Option.isNone_iff_eq_none, hfades]
  refine ⟨fun hp => ⟨fun h => ?_, fun hs h => ?_⟩, fun hp => ?_, fun hp => ⟨fun h => ?_, fun h => ?_⟩, fun hp => ?_⟩
  · rw [advancePhase_quiesce hr hp, if_pos (hquiesce.2 h)]
  · rw [advancePhase_quiesce hr hp, if_neg fun h' => (hquiesce.1 h').elim hs h]
  · intro shown
    have hdone : retimeDone r s = true ↔ s.out.settle = none ∧ shown := retimeDone_iff r s
    rw [advancePhase_retime hr hp]
    exact ⟨fun hs h => if_pos (hdone.2 ⟨hs, h⟩),
      fun h => if_neg fun h' => h.elim (fun h => h (hdone.1 h').1) fun h => h (hdone.1 h').2⟩
  · rw [advancePhase_reveal hr hp, if_pos (hfades.2 h)]
  · rw [advancePhase_reveal hr hp, if_neg fun h' => h (hfades.1 h')]
  · exact advancePhase_event hr (hp.elim (fun h => .inr (.inl h)) fun h => .inr (.inr (.inl h)))

/-- The retimed output's figures, as the statement gives them. -/
theorem retimedOut_spec {d : Decision} {t : Option Slot} (hd : d.fitsTarget t) (s : State) :
    (retimedOut d s).pass = d.pass ∧ (retimedOut d s).cls = d.cls ∧
    (d.pass = false → (retimedOut d s).slaved = none ∧
      ((retimedOut d s).fout, (retimedOut d s).linePeriod, (retimedOut d s).lineCount) = (match d.cls with
        | .low => (449592, 1716, 262)
        | .medium => (449280, 1080, 416)
        | .high => (450450, 858, 525))) ∧
    (∀ n f l, d.pass = true → d.slaved = some n → (s.monitor n.source).fref = some f →
      (s.monitor n.source).lref = some l → (retimedOut d s).slaved = some n ∧ (retimedOut d s).fout = f ∧
        (retimedOut d s).lineCount = l ∧ (retimedOut d s).linePeriod = f / l) ∧
    (retimedOut d s).settle =
      (if s.cabinet.settleTime = 0 then none else some (s.now + 27000 * s.cabinet.settleTime)) ∧
    (retimedOut d s).startMark = false := by
  have hsettle : (retimedOut d s).settle =
      (if s.cabinet.settleTime = 0 then none else some (s.now + 27000 * s.cabinet.settleTime)) := by
    rw [← ms_eq]
    rfl
  cases hp : d.pass with
  | false =>
    have htake := take_pace hp s.out s
    refine ⟨?_, ?_, fun _ => ⟨?_, ?_⟩, nofun, hsettle, rfl⟩
    · exact (congrArg Output.pass htake :)
    · exact (congrArg Output.cls htake :)
    · exact (congrArg Output.slaved htake :)
    · change ((s.out.take d s).fout, (s.out.take d s).linePeriod, (s.out.take d s).lineCount) = _
      rw [htake]
      cases d.cls <;> rfl
  | true =>
    obtain ⟨m, hm⟩ := Option.ne_none_iff_exists'.1 (hd.1 hp).1
    have htake := take_pass hp hm s.out s
    refine ⟨(congrArg Output.pass htake :), (congrArg Output.cls htake :), nofun, fun n f l _ hn hf hl => ?_, hsettle, rfl⟩
    obtain rfl := Option.some.inj (hm.symm.trans hn)
    change (s.out.take d s).slaved = _ ∧ (s.out.take d s).fout = _ ∧ (s.out.take d s).lineCount = _ ∧
      (s.out.take d s).linePeriod = _
    rw [htake, lrefOf, hf, hl]
    exact ⟨rfl, rfl, rfl, rfl⟩

/-- The output followed where it stands, as the statement gives it. -/
theorem follow_spec (d : Decision) (s : State) :
    (d.pass = false → (follow d s).out = s.out) ∧
    (∀ n l, d.pass = true → d.slaved = some n → (s.monitor n.source).lref = some l →
      (follow d s).out = { s.out with slaved := some n, lineCount := l, linePeriod := s.out.fout / l }) := by
  refine ⟨fun hp => by rw [follow_pace hp], fun n l hp hn hl => ?_⟩
  rw [follow_pass hp hn, lrefOf, hl]
  rfl

end Sys2Proof.Machine

namespace Sys2Proof.Machine

/-- Settles O31: each clause by the lemma on what it speaks of: the failure, the ends of WAKE and LOCK, the supersession,
the conditions of the phases, the end of QUIESCE, PARK, RETIME, REVEAL and GRANT. -/
theorem failureStartsTheNextChangeover : Obligations.FailureStartsTheNextChangeover := by
  refine ⟨fun r o s hr hs => ?_, fun r n s hp hl => enterLock_spec hp hl, judgeLock_spec, fun r n q s hq _ ht => ?_,
    fun r s hr => advancePhase_spec hr, fun r s => ?_, fun r s => (enterPark_spec r s).1,
    fun r n s h => (enterPark_spec r s).2 n h, fun r d s h => ?_, fun r s => ?_, fun r s => ?_⟩
  · intro t returns
    have hreturns : returns = returnDue r s := (returnDue_iff r s).symm
    obtain ⟨hhold, hfade, hsilent, hsound⟩ := fail_picture r o s
    have h := fail_restarts r o s
    refine ⟨h.writer, h.current, h.pending, h.watch, fun n hn => h.kept n hn, fun n hn hs => h.parked n hn hs, hhold, hfade,
      hsilent, hsound, h.blank, fun n hn hf => fail_counters hr hs hn hf o, fun hm => report_fields (h.tells hm), ?_,
      fail_blocks r o s⟩
    rw [hreturns]
    exact fail_next r o s
  · have hend : endLock r s = supersede r q s := by rw [endLock, hq]
    have h := supersede_restarts r q s
    intro t
    have ht' : t = supersede r q s := hend
    rw [ht']
    refine ⟨by rw [endWake, hq], h.writer, h.current, h.pending, h.parked n ht, fun hs => h.kept n (.inr hs),
      fun m hm => h.kept m (.inl fun h => hm (Option.some.inj (h.symm.trans ht))), fun hm => report_fields (h.tells hm), ?_⟩
    obtain ⟨r', hr, hphase, hsource, -, htag, htarget, hreturn⟩ := h.record
    exact ⟨r', hr, hphase, htag, htarget, hsource, hreturn⟩
  · obtain ⟨hheld, hfade⟩ := quiesced_frame r s
    refine ⟨quiesced r s, endQuiesce_cases r s, hheld, hfade, fun n line e gap hs hg => quiesced_cut hs hg, quiesced_uncut,
      quiesced_same r s⟩
  · obtain ⟨hplaced, r', hco, hphase, hlimit, htag, htarget, hsource, -, -⟩ := enterRetime_placed h
    obtain ⟨hpass, hcls, hpace, hslaved, hsettle, hmark⟩ := retimedOut_spec (decisionFor_target h) s
    obtain ⟨hstay, hfollow⟩ := follow_spec d s
    intro t window
    refine ⟨hplaced, ⟨r', hco, hphase, hlimit, htag, htarget, hsource⟩, fun hn => ?_, fun hn => ?_⟩
    · obtain ⟨hblank, hhold, hout, hshown, htold, hsame⟩ := enterRetime_retimes h hn
      rw [hpass, hcls] at htold
      have hout : t.out = _ := hout
      rw [hout]
      exact ⟨hblank, hhold, hpass, hcls, hpace, hslaved, hsettle, hmark, rfl, hshown, htold, hsame⟩
    · obtain ⟨hblank, hfree, hheld, hout, hsame⟩ := enterRetime_stays h hn
      have hout : t.out = _ := hout
      intro free
      rw [hout]
      exact ⟨hblank, hfree, hheld, hstay, hfollow, hsame⟩
  · obtain ⟨hrecord, hframe, hsource, hup, hrise, hloud, hlouder, hsame⟩ := enterReveal_spec r s
    obtain ⟨-, hblank, hhold, hreader, hslot, hstandby⟩ := revealed_frame r s
    intro t
    have hframe : t.frame = _ := hframe
    refine ⟨hrecord, ?_, ?_, ?_, hsource, ?_, fun ht => ?_, hup, hrise, hloud, hlouder, hsame⟩
    · rw [hframe]
      exact hblank
    · rw [hframe]
      exact hhold
    · rw [hframe]
      exact hreader
    · rw [hframe]
      exact hslot
    · obtain ⟨hfirst, hfin, hacc, hbuffer⟩ := hstandby ht
      rw [hframe]
      refine ⟨hfirst, hfin, hacc, fun b => ?_⟩
      rw [State.buffer, hframe]
      exact hbuffer b
  · obtain ⟨hcurrent, hpending⟩ := grant_current r s
    intro t lost
    refine ⟨hcurrent, hpending, fun hm hp hw => report_fields (grant_tells_host hm hp hw), fun n hn => grant_slots hn,
      fun q hq => ?_, fun hp => ?_⟩
    · have ht : t = _ := grant_pending hq
      rw [ht, startChangeover_co]
      exact ⟨_, rfl, rfl, rfl, congrArg Controller.current (granted_co r s), rfl⟩
    · obtain ⟨howner, hstandby, hmap⟩ := grant_router (r := r) hp
      refine ⟨howner, fun n hn hh hw => grant_controls hp hn hh hw, fun n hn => ?_, hstandby⟩
      obtain ⟨hworking, hfour⟩ := hmap n hn
      obtain ⟨hsignal, hrunning, hstopped⟩ := grant_watch hp hn
      exact ⟨hworking, hfour, hsignal, hrunning, hstopped⟩

end Sys2Proof.Machine

/-! ### The controller's timers, and the reports of a changeover's `to` (O32) -/

namespace Sys2Proof.Machine

/-! #### The timers -/

theorem exec_lockLimitExpiry {s : State} (h : s.powered = true) :
    exec .lockLimitExpiry s = .next (conclude (lockLimitExpires s)) := event_powered h lockLimitExpires

theorem exec_recoveryWatchExpiry {s : State} (h : s.powered = true) :
    exec .recoveryWatchExpiry s = .next (conclude (watchExpires s)) := event_powered h watchExpires

theorem lockLimitExpires_runs {s : State} {r : Record} {t : Nat} (hr : s.co.record = some r) (hp : r.phase = .lock)
    (ht : r.lockLimit = some t) : lockLimitExpires s = conduct (fail r .lockTimeout (s.reach t)) := by
  unfold lockLimitExpires
  rw [hr]
  dsimp only
  rw [hp, ht]

theorem lockLimitExpires_stopped {s : State} {r : Record} (hr : s.co.record = some r) (ht : r.lockLimit = none) :
    lockLimitExpires s = s := by
  unfold lockLimitExpires
  rw [hr]
  dsimp only
  rw [ht]
  split
  · next h => cases h
  · rfl

theorem watchExpires_runs {s : State} {t : Nat} (h : s.co.watch = .running t) :
    watchExpires s = conduct (loseBoard .lostSignal (s.reach t)) := by
  unfold watchExpires
  rw [h]

theorem watchExpires_stopped {s : State} (h : s.co.watch = .stopped ∨ s.co.watch = .waitingLive) : watchExpires s = s := by
  unfold watchExpires
  rcases h with h | h <;> rw [h]

/-- The way to standby waits in QUIESCE while the sound of the lost board fades. -/
theorem watchExpires_sounding {s : State} {t : Nat} {n : Slot} (h : s.co.watch = .running t) (hc : s.co.current = some n)
    (hfade : s.cabinet.audioFade ≠ 0) (hgain : s.snd.gain ≠ 0) :
    watchExpires s = { loseBoard .lostSignal (s.reach t) with reports := [] } := by
  rw [watchExpires_runs h]
  exact conduct_start_sounding (s := setWatch .stopped (s.reach t))
    (show s.co.current ≠ none by rw [hc]; exact Option.some_ne_none n) hfade hgain

/-! #### A report taken while a changeover is in flight -/

theorem onReport_record {r : Record} {s : State} (hr : s.co.record = some r) (rep : Report) :
    onReport s rep = { onRecord r rep s with reports := [] } := by
  unfold onReport
  rw [hr]

section
variable {r : Record} {n : Slot} {s : State}

theorem onRecord_wake (ht : r.target = some n) (hp : r.phase = .wake) (rep : Report) :
    onRecord r rep s = onWake r n rep s := by
  unfold onRecord
  rw [ht]
  dsimp only
  rw [hp]

theorem onRecord_lock (ht : r.target = some n) (hp : r.phase = .lock) (rep : Report) :
    onRecord r rep s = onLock r n rep s := by
  unfold onRecord
  rw [ht]
  dsimp only
  rw [hp]

theorem onRecord_shown (ht : r.target = some n) (hp : r.phase = .retime ∨ r.phase = .reveal) (rep : Report) :
    onRecord r rep s = onShown r n rep s := by
  unfold onRecord
  rw [ht]
  dsimp only
  rcases hp with hp | hp <;> rw [hp]

theorem onLock_monitor (st : MonState) : onLock r n (.monitor n.source st) s = onLockMonitor r n st s := if_pos rfl

theorem onShown_monitor (st : MonState) : onShown r n (.monitor n.source st) s = onShownMonitor r n st s := if_pos rfl

theorem onLock_ready (sig : Word16) : onLock r n (.ready n sig) s = onCheckField r n sig s := if_pos rfl

/-- What ends a changeover in every phase that has a `to` (R83, R86, R88). -/
theorem onRecord_states (ht : r.target = some n)
    (hp : r.phase = .wake ∨ r.phase = .lock ∨ r.phase = .retime ∨ r.phase = .reveal) (old : SlotState)
    (cause : SlotCause) :
    onRecord r (.slot n old .fault cause) s = fail r .powerFault s ∧
      onRecord r (.slot n old .empty cause) s = fail r .noBoard s ∧ onRecord r (.monitor n.source .weak) s = s := by
  rcases hp with hp | hp | hp
  · rw [onRecord_wake ht hp, onRecord_wake ht hp, onRecord_wake ht hp]
    exact ⟨if_pos rfl, if_pos rfl, rfl⟩
  · rw [onRecord_lock ht hp, onRecord_lock ht hp, onRecord_lock ht hp, onLock_monitor]
    exact ⟨if_pos rfl, if_pos rfl, rfl⟩
  · rw [onRecord_shown ht hp, onRecord_shown ht hp, onRecord_shown ht hp, onShown_monitor]
    exact ⟨if_pos rfl, if_pos rfl, rfl⟩

/-- The check's field ends LOCK (R85, R86). -/
theorem onCheckField_ends {sig : Word16} (hc : r.checkApplies = true) (hw : s.frame.writer = some n)
    (hp : s.co.pending = none) : onCheckField r n sig s =
      enterRetime { r with resume := if (s.slot n).parkedSig = some sig then .clean else .changed } s := by
  refine (if_pos ?_).trans ?_
  · rw [hc, hw, beq_self_eq_true]
    rfl
  · rw [endLock, hp]

/-- The monitor of `to` in LOCK (R84). -/
theorem onLockMonitor_spec (r : Record) (n : Slot) (s : State) :
    onLockMonitor r n .locked s = judgeLock r n s ∧
    (r.lockSeen = true → onLockMonitor r n .dark s = fail r .lostSignal s ∧
      (s.frame.writer = some n → onLockMonitor r n .seeking s = disableWriter s)) ∧
    (r.lockSeen = false → onLockMonitor r n .dark s = s ∧ onLockMonitor r n .seeking s = s) := by
  refine ⟨rfl, fun h => ⟨if_pos h, fun hw => if_pos ?_⟩, fun h => ⟨if_neg ?_, if_neg ?_⟩⟩
  · rw [h, hw, beq_self_eq_true]
    rfl
  · rw [h]
    exact Bool.false_ne_true
  · rw [h, Bool.false_and]
    exact Bool.false_ne_true

/-- The monitor of `to` once it is shown (R88). -/
theorem onShownMonitor_spec (r : Record) (n : Slot) (s : State) :
    onShownMonitor r n .dark s = fail r .lostSignal s ∧
    onShownMonitor r n .seeking s =
      setHold true (setRecord (some { r with sawSeeking := true, holdUntilReady := false }) s) ∧
    (r.sawSeeking = true → fits n s = true →
      onShownMonitor r n .locked s = setHold false (setRecord (some { r with sawSeeking := false }) s)) ∧
    (r.sawSeeking = true → fits n s = false → onShownMonitor r n .locked s = fail r .classMismatch s) ∧
    (r.sawSeeking = false → onShownMonitor r n .locked s = s) := by
  refine ⟨rfl, rfl, fun h hf => (if_pos h).trans (if_pos hf), fun h hf => (if_pos h).trans (if_neg ?_), fun h => if_neg ?_⟩
  · rw [hf]
    exact Bool.false_ne_true
  · rw [h]
    exact Bool.false_ne_true

end

/-! #### A report of the current slot with no changeover in flight -/

section
variable {n : Slot} {s : State}

theorem onReport_current (hr : s.co.record = none) (hc : s.co.current = some n) (rep : Report) :
    onReport s rep = { onCurrent n rep s with reports := [] } := by
  unfold onReport
  rw [hr]
  dsimp only
  rw [hc]

theorem onCurrent_slot (old new : SlotState) (cause : SlotCause) :
    onCurrent n (.slot n old new cause) s = onCurrentState n old new cause s := if_pos rfl

theorem onCurrent_monitor (st : MonState) : onCurrent n (.monitor n.source st) s = onCurrentMonitor n st s := if_pos rfl

theorem onCurrent_paused (h : isPaused n s = true) (src : Source) (st : MonState) :
    onCurrent n (.monitor src st) s = s := by
  change (if src = n.source then onCurrentMonitor n st s else s) = s
  split
  · exact if_pos h
  · rfl

theorem onCurrentMonitor_heard (h : isPaused n s = false) (st : MonState) :
    onCurrentMonitor n st s = match s.co.watch, st with
      | .stopped, .seeking | .stopped, .dark => startWatch (s.profile n).general.recoveryLimit (setHold true s)
      | .running _, .locked => if fits n s then endWatch s else loseBoard .lostSignal s
      | _, _ => s := if_neg (by rw [h]; exact Bool.false_ne_true)

theorem onCurrentMonitor_weak (s : State) : onCurrentMonitor n .weak s = s := by
  unfold onCurrentMonitor
  split
  · rfl
  · split
    · next h => cases h
    · next h => cases h
    · next h => cases h
    · rfl

theorem onCurrentMonitor_lost (h : isPaused n s = false) (hw : s.co.watch = .stopped) :
    onCurrentMonitor n .seeking s = startWatch (s.profile n).general.recoveryLimit (setHold true s) ∧
      onCurrentMonitor n .dark s = startWatch (s.profile n).general.recoveryLimit (setHold true s) := by
  rw [onCurrentMonitor_heard h, onCurrentMonitor_heard h, hw]
  exact ⟨rfl, rfl⟩

theorem onCurrentMonitor_watched {t : Nat} (h : isPaused n s = false) (hw : s.co.watch = .running t) :
    onCurrentMonitor n .seeking s = s ∧ onCurrentMonitor n .dark s = s ∧
      onCurrentMonitor n .locked s = if fits n s then endWatch s else loseBoard .lostSignal s := by
  rw [onCurrentMonitor_heard h, onCurrentMonitor_heard h, onCurrentMonitor_heard h, hw]
  exact ⟨rfl, rfl, rfl⟩

/-- The current board is LIVE again, by a pause's end or after a restart. -/
theorem onCurrentState_live {old : SlotState} {cause : SlotCause} {again : Bool}
    (h : again = true → s.co.watch = .waitingLive ∧ cause ≠ .pauseEnd) (h' : again = false → cause = .pauseEnd) :
    onCurrentState n old .live cause s =
      if lockedAndFits n (enableWriter n s) then endWatch (enableWriter n s)
      else startWatch (if again then ((enableWriter n s).profile n).general.recoveryLimit
        else ((enableWriter n s).profile n).general.lockLimit) (enableWriter n s) := by
  cases again with
  | false =>
    rw [h' rfl]
    rfl
  | true =>
    obtain ⟨hw, hcause⟩ := h rfl
    have hagain : onCurrentState n old .live cause s =
        if s.co.watch = .waitingLive then onLiveAgain n s else s := by
      cases cause with
      | pauseEnd => exact absurd rfl hcause
      | present | absent | removed | kindChanged | powerOn | autoPower | wake | powerGood | noPowerGood | powerGoodLost
        | dipMismatch | released | booted | powerOff | restart | parked | pause | partRestart => rfl
    rw [hagain, if_pos hw]
    rfl

end

end Sys2Proof.Machine

namespace Sys2Proof.Machine

/-! #### The way to standby, and the watch -/

/-- A changeover to standby is under way from slot `n`, and the watch is over. -/
def ToStandby (n : Slot) (why : Reason) (t : State) : Prop :=
  t.co.watch = .stopped ∧ t.co.current = some n ∧ ∃ r, t.co.record = some r ∧ r.phase = .quiesce ∧ r.tag = 0 ∧
    r.source = some n ∧ r.target = none ∧ r.reason = some why

theorem loseBoard_toStandby {n : Slot} {s : State} (hc : s.co.current = some n) (why : Reason) :
    ToStandby n why { loseBoard why s with reports := [] } := by
  have hco := loseBoard_co why s
  refine ⟨(congrArg Controller.watch hco :), (congrArg Controller.current hco :).trans hc, _,
    (congrArg Controller.record hco :), rfl, rfl, hc, rfl, rfl⟩

/-- The watch is over and the picture let go, at the rate of the reader's signal. -/
def WatchEnded (n : Slot) (s t : State) : Prop :=
  t.co = { s.co with watch := .stopped } ∧ t.frame.hold = false ∧
    (∀ f, s.frame.reader = some n → (s.monitor n.source).fref = some f → t.frame.fin = some f ∧ t.frame.acc = f / 2)

theorem endWatch_ended (n : Slot) (s : State) : WatchEnded n s { endWatch s with reports := [] } := by
  obtain ⟨hco, hhold, -, hrate, -⟩ := endWatch_spec s
  exact ⟨hco, hhold, fun f hr hf => hrate n f hr hf⟩

/-- The signal of the current board gone, with a recovery limit to wait for it (R95). -/
theorem startWatch_held {k : Nat} (h : k ≠ 0) (s : State) :
    let t : State := { startWatch k (setHold true s) with reports := [] }
    (t.frame = { s.frame with hold := true } ∧ SameOutside [.co, .frame, .reports] s t) ∧
      t.co = { s.co with watch := .running (s.now + 27000 * k) } := by
  rw [startWatch_runs h, ← ms_eq]
  exact ⟨⟨rfl, (((SameOutside.refl [.co, .frame, .reports] s).with_frame (by decide)).with_co (by decide)).with_reports
    (by decide)⟩, rfl⟩

/-! #### The board LIVE again -/

section
variable {n : Slot} {s : State} {old : SlotState} {cause : SlotCause} {again : Bool}

/-- The current board paused (R98). -/
theorem paused_spec (n : Slot) (s : State) :
    let t : State := { onCurrentState n old .frozen .pause s with reports := [] }
    t.frame.hold = true ∧ t.frame.writer = none ∧ t.co = { s.co with watch := .stopped } ∧
      SameOutside [.link, .co, .frame, .pic, .reports] s t := by
  have hframe := disableWriter_frame (setHold true s)
  have hsame := disableWriter_same (setHold true s)
  have hco : (disableWriter (setHold true s)).co = s.co := hsame.same .co (by decide)
  have hheld : SameOutside [.link, .co, .frame, .pic, .reports] s (disableWriter (setHold true s)) :=
    (hsame.mono (by decide)).after ((SameOutside.refl [.link, .co, .frame, .pic, .reports] s).with_frame (by decide))
      (fun _ h => h)
  have ht : onCurrentState n old .frozen .pause s = setWatch .stopped (disableWriter (setHold true s)) := rfl
  rw [ht]
  refine ⟨(congrArg FrameStore.hold hframe :), (congrArg FrameStore.writer hframe :), ?_,
    (hheld.with_co (by decide)).with_reports (by decide)⟩
  change { (disableWriter (setHold true s)).co with watch := .stopped } = _
  rw [hco]

/-- The current board LIVE again with its signal, or waited for (R97, R98). -/
theorem liveAgain_spec (h : again = true → s.co.watch = .waitingLive ∧ cause ≠ .pauseEnd)
    (h' : again = false → cause = .pauseEnd) :
    let g := (s.profile n).general
    let limit := if again then g.recoveryLimit else g.lockLimit
    let t : State := { onCurrentState n old .live cause s with reports := [] }
    (lockedAndFits n s = true → t.frame.writer = some n ∧ WatchEnded n s t) ∧
    (lockedAndFits n s = false → limit ≠ 0 →
      t.frame.writer = some n ∧ t.frame.hold = s.frame.hold ∧
      t.co = { s.co with watch := .running (s.now + 27000 * limit) } ∧
      SameOutside [.link, .co, .frame, .pic, .reports] s t) := by
  intro g limit
  have henable := enableWriter_same n s
  have hframe := enableWriter_frame n s
  have hfits : lockedAndFits n (enableWriter n s) = lockedAndFits n s :=
    lockedAndFits_congr (henable.same .monitors (by decide)) (henable.same .out (by decide))
      (henable.same .profiles (by decide))
  have hprofile : (enableWriter n s).profile n = s.profile n := by
    rw [State.profile, henable.same .profiles (by decide), State.profile]
  have hlive := onCurrentState_live (n := n) (s := s) (old := old) h h'
  rw [hfits, hprofile] at hlive
  rw [hlive]
  refine ⟨fun hf => ?_, fun hf hl => ?_⟩
  · obtain ⟨hco, hhold, hwriter, hrate, -⟩ := resumed_spec n s
    rw [if_pos hf, ← resumed]
    exact ⟨hwriter, hco, hhold, fun f hr hm => hrate n f hr hm⟩
  · have hco : (enableWriter n s).co = s.co := henable.same .co (by decide)
    have hnow : (enableWriter n s).now = s.now := henable.same .now (by decide)
    rw [if_neg (by rw [hf]; exact Bool.false_ne_true), startWatch_runs hl, ← ms_eq]
    refine ⟨(congrArg FrameStore.writer hframe :), (congrArg FrameStore.hold hframe :), ?_,
      ((henable.mono (by decide)).with_co (by decide)).with_reports (by decide)⟩
    change { (enableWriter n s).co with watch := .running ((enableWriter n s).now + ms limit) } = _
    rw [hco, hnow]

end

/-! #### The statement -/

/-- The controller's two timers (R84, R96). -/
theorem controllerTimers {s : State} (hp : s.powered = true) :
    (∀ r t, s.co.record = some r → r.phase = .lock → r.lockLimit = some t →
      exec .lockLimitExpiry s = .next (conclude (conduct (fail r .lockTimeout { s with now := max s.now t })))) ∧
    (∀ r, s.co.record = some r → r.lockLimit = none → exec .lockLimitExpiry s = .next (conclude s)) ∧
    (∀ t, s.co.record = none → s.co.watch = .running t →
      exec .recoveryWatchExpiry s = .next (conclude (conduct (startChangeover ⟨0, none, false, some .lostSignal⟩
        { s with now := max s.now t, co := { s.co with watch := .stopped } })))) ∧
    (s.co.watch = .stopped ∨ s.co.watch = .waitingLive → exec .recoveryWatchExpiry s = .next (conclude s)) ∧
    ∀ t r, s.co.record = none → s.co.watch = .running t → s.co.current = some r → s.cabinet.audioFade ≠ 0 → s.snd.gain ≠ 0 →
      ∃ u r', exec .recoveryWatchExpiry s = .next (conclude u) ∧ u.co.record = some r' ∧ r'.phase = .quiesce ∧
        r'.tag = 0 ∧ r'.source = some r ∧ r'.target = none ∧ r'.reason = some .lostSignal ∧ u.co.current = some r ∧
        u.co.watch = .stopped ∧
        SameOutside [.now, .link, .co, .frame, .pic, .snd, .router, .coins, .reports] s u := by
  refine ⟨fun r t hr hph ht => ?_, fun r hr ht => ?_, fun t _ hw => ?_, fun hw => ?_, fun t r _ hw hc hfade hgain => ?_⟩
  · rw [exec_lockLimitExpiry hp, lockLimitExpires_runs hr hph ht]
    rfl
  · rw [exec_lockLimitExpiry hp, lockLimitExpires_stopped hr ht]
  · rw [exec_recoveryWatchExpiry hp, watchExpires_runs hw]
    rfl
  · rw [exec_recoveryWatchExpiry hp, watchExpires_stopped hw]
  · obtain ⟨hwatch, hcurrent, r', hr, hph, htag, hsource, htarget, hreason⟩ :=
      loseBoard_toStandby (s := s.reach t) hc .lostSignal
    refine ⟨_, r', (exec_recoveryWatchExpiry hp).trans (by rw [watchExpires_sounding hw hc hfade hgain]), hr, hph, htag,
      hsource, htarget, hreason, hcurrent, hwatch, ?_⟩
    exact ((loseBoard_same ..).mono (by decide) |>.after ((State.reach_same ..).mono (by decide)) (fun _ h => h)).with_reports
      (by decide)

end Sys2Proof.Machine

namespace Sys2Proof.Machine

/-- The check's field ends LOCK in RETIME, with what the check found (R85, R86). -/
theorem checkField_retimes {r : Record} {n : Slot} {sig : Word16} {s : State} (ht : r.target = some n)
    (hc : r.checkApplies = true) (hw : s.frame.writer = some n) (hp : s.co.pending = none)
    (hd : (decision n s).isSome = true) :
    ∃ r', (onCheckField r n sig s).co.record = some r' ∧ r'.phase = .retime ∧ r'.tag = r.tag ∧
      r'.resume = if (s.slot n).parkedSig = some sig then .clean else .changed := by
  obtain ⟨d, hd⟩ := Option.isSome_iff_exists.1 hd
  rw [onCheckField_ends hc hw hp]
  obtain ⟨-, r', hco, hphase, -, htag, -, -, hresume, -⟩ := enterRetime_placed
    (r := { r with resume := if (s.slot n).parkedSig = some sig then .clean else .changed })
    (s := s) (d := d) (by
      change decisionFor r.target s = some d
      rw [ht]
      exact hd)
  exact ⟨r', congrArg Controller.record hco, hphase, htag, hresume⟩

/-- Settles O32: the timers, then each report by the phase, and each of the current board's by the watch. -/
theorem lockLimitAndRecoveryWatchExpire : Obligations.LockLimitAndRecoveryWatchExpire := by
  refine ⟨fun s hp => controllerTimers hp, fun r n old cause sig s hr ht => ?_, fun n old cause s hr hc => ?_⟩
  · intro told gives monitor
    have hgives {rep : Report} {t : State} (h : onRecord r rep s = t) : gives rep t :=
      (onReport_record hr rep).trans (by rw [h])
    have htold (rep : Report) : told rep = { onRecord r rep s with reports := [] } := onReport_record hr rep
    obtain ⟨hlocked, hseen, hunseen⟩ := onLockMonitor_spec r n s
    obtain ⟨hdark, hseeking, hfits, hmisfits, hkept⟩ := onShownMonitor_spec r n s
    refine ⟨fun hp => ?_, fun hp => ⟨hgives ?_, hgives ?_⟩, fun hp => ?_, fun hp => ?_⟩
    · obtain ⟨hfault, hempty, hweak⟩ := onRecord_states ht hp old cause
      exact ⟨hgives hfault, hgives hempty, hgives hweak⟩
    · rw [onRecord_wake ht hp]
      exact if_pos rfl
    · rw [onRecord_wake ht hp]
      exact if_pos rfl
    · have hmonitor (st : MonState) : onRecord r (monitor st) s = onLockMonitor r n st s :=
        (onRecord_lock ht hp _).trans (onLock_monitor st)
      refine ⟨hgives ((hmonitor _).trans hlocked), fun h => ⟨hgives ((hmonitor _).trans (hseen h).1), fun hw => ?_⟩,
        fun h => ⟨hgives ((hmonitor _).trans (hunseen h).1), hgives ((hmonitor _).trans (hunseen h).2)⟩,
        fun hca hw hpe hd => ?_⟩
      · rw [htold, hmonitor, (hseen h).2 hw]
        exact ⟨congrArg FrameStore.writer (disableWriter_frame s), (disableWriter_same s).same .co (by decide)⟩
      · rw [htold, onRecord_lock ht hp, onLock_ready]
        exact checkField_retimes ht hca hw hpe hd
    · have hmonitor (st : MonState) : onRecord r (monitor st) s = onShownMonitor r n st s :=
        (onRecord_shown ht hp _).trans (onShown_monitor st)
      refine ⟨hgives ((hmonitor _).trans hdark), ?_, fun h hf => ?_, fun h hf => hgives ((hmonitor _).trans (hmisfits h hf)),
        fun h => hgives ((hmonitor _).trans (hkept h))⟩
      · intro t
        have hd : t = _ := htold (monitor .seeking)
        rw [hd, hmonitor, hseeking]
        exact ⟨rfl, ⟨_, rfl, rfl, rfl⟩,
          (((SameOutside.refl _ s).with_co (by decide)).with_frame (by decide)).with_reports (by decide)⟩
      · intro t
        have hd : t = _ := htold (monitor .locked)
        rw [hd, hmonitor, hfits h hf]
        exact ⟨rfl, (((SameOutside.refl _ s).with_co (by decide)).with_frame (by decide)).with_reports (by decide)⟩
  · intro told monitor toStandby held ended
    have htold (rep : Report) : told rep = { onCurrent n rep s with reports := [] } := onReport_current hr hc rep
    have hmonitor (st : MonState) : monitor st = { onCurrentMonitor n st s with reports := [] } :=
      (htold _).trans (by rw [onCurrent_monitor])
    have hslot (new : SlotState) (c : SlotCause) :
        told (.slot n old new c) = { onCurrentState n old new c s with reports := [] } :=
      (htold _).trans (by rw [onCurrent_slot])
    have hlose (why : Reason) (u : State) (hu : u.co.current = some n) :
        toStandby why { loseBoard why u with reports := [] } := loseBoard_toStandby hu why
    refine ⟨?_, ?_, ?_, fun h src st => ?_, fun h => ⟨?_, fun hw hl => ?_, fun hw hl => ?_, fun t hw => ?_⟩, ?_, fun again h h' => ?_⟩
    · rw [hslot]
      exact hlose .powerFault s hc
    · rw [hslot]
      exact hlose .powerFault s hc
    · have hfail : onCurrent n (.dipFailed n) s = loseBoard .lostSignal s := if_pos rfl
      rw [htold, hfail]
      exact hlose .lostSignal s hc
    · rw [htold, onCurrent_paused h]
    · rw [hmonitor, onCurrentMonitor_weak]
    · intro watched
      obtain ⟨hseek, hdark⟩ := onCurrentMonitor_lost h hw
      obtain ⟨hheld, hco⟩ := startWatch_held hl s
      rw [hmonitor, hmonitor, hseek, hdark]
      exact ⟨hheld, hco, hheld, hco⟩
    · obtain ⟨hseek, hdark⟩ := onCurrentMonitor_lost h hw
      rw [hmonitor, hmonitor, hseek, hdark, hl, startWatch_lost]
      exact ⟨hlose .lostSignal _ hc, hlose .lostSignal _ hc⟩
    · obtain ⟨hseek, hdark, hlocked⟩ := onCurrentMonitor_watched h hw
      rw [hmonitor, hmonitor, hmonitor, hseek, hdark, hlocked]
      refine ⟨rfl, rfl, fun hf => ?_, fun hf => ?_⟩
      · rw [if_pos hf]
        exact ⟨endWatch_ended n s, ((endWatch_same s).mono (by decide)).with_reports (by decide)⟩
      · rw [if_neg (by rw [hf]; exact Bool.false_ne_true)]
        exact hlose .lostSignal s hc
    · intro t
      have hpaused := paused_spec (old := old) n s
      rw [← hslot] at hpaused
      exact hpaused
    · intro g limit t
      have hlive := liveAgain_spec (n := n) (s := s) (old := old) (cause := cause) (again := again) h h'
      rw [← hslot] at hlive
      exact hlive

end Sys2Proof.Machine

/-! ### The coin unit and the slots at RESTART (R41, R175) -/

namespace Sys2Proof.Machine

/-! #### What the money's moves keep -/

/-- The coin unit's items that no unit's way to the bank touches. -/
structure ItemsKept (s t : State) : Prop where
  accepted : t.coins.accepted = s.coins.accepted
  meters : t.coins.meters = s.coins.meters
  startup : t.coins.startup = s.coins.startup
  reasons : ReasonsOnly s t

theorem ItemsKept.of_coins {s t : State} (h : t.coins = { s.coins with chutes := t.coins.chutes }) (hr : ReasonsOnly s t) :
    ItemsKept s t := by
  refine ⟨?_, ?_, ?_, hr⟩ <;> rw [h]

theorem ItemsKept.trans {s t u : State} (h : ItemsKept s t) (h' : ItemsKept t u) : ItemsKept s u :=
  ⟨h'.accepted.trans h.accepted, h'.meters.trans h.meters, h'.startup.trans h.startup, h.reasons.trans h'.reasons⟩

theorem ItemsKept.refl (s : State) : ItemsKept s s := ⟨rfl, rfl, rfl, .of_chutes fun _ => rfl⟩

/-- Reasons judged for a list of chutes change their reasons alone. -/
theorem forAll_setReasons_only (f : Chute → State → Reasons) (l : List Chute) (s : State) :
    (forAll l (fun c s => setReasons c (f c s) s) s).coins =
        { s.coins with chutes := (forAll l (fun c s => setReasons c (f c s) s) s).coins.chutes } ∧
      ReasonsOnly s (forAll l (fun c s => setReasons c (f c s) s) s) := by
  induction l generalizing s with
  | nil => exact ⟨rfl, .of_chutes fun _ => rfl⟩
  | cons c l ih =>
    have hfirst : ReasonsOnly s (setReasons c (f c s) s) := fun d => by
      rw [setReasons_chute]
      split
      · next h => rw [h]
      · rfl
    obtain ⟨hcoins, hreasons⟩ := ih (setReasons c (f c s) s)
    rw [forAll, List.foldl_cons]
    refine ⟨hcoins.trans ?_, hfirst.trans hreasons⟩
    rw [setReasons_coins]
    rfl

theorem judgeTogether_kept (f : Chute → State → Reasons) (s : State) :
    (judgeTogether f s).coins = { s.coins with chutes := (judgeTogether f s).coins.chutes } ∧
      ReasonsOnly s (judgeTogether f s) := by
  obtain ⟨hcoins, hreasons⟩ := forAll_setReasons_only f allFour s
  unfold judgeTogether
  dsimp only
  generalize forAll allFour (fun c s => setReasons c (f c s) s) s = v at *
  have hpost : (postBank .limit v).coins = v.coins := (postBank_same ..).same .coins (by decide)
  split
  · refine ⟨?_, hreasons.trans (.of_chutes fun c => ?_)⟩
    · rw [hpost]
      exact hcoins
    · rw [State.chute, hpost, State.chute]
  · exact ⟨hcoins, hreasons⟩

theorem judgeAllReasons_kept (s : State) :
    (judgeAllReasons s).coins = { s.coins with chutes := (judgeAllReasons s).coins.chutes } ∧
      ReasonsOnly s (judgeAllReasons s) := judgeTogether_kept _ s

theorem cutPulse_items (n : Slot) (s : State) : ItemsKept s (cutPulse n true s) := by
  by_cases hg : ∃ line e gap, s.generator n = .on line e gap
  · obtain ⟨line, e, gap, hg⟩ := hg
    rw [cutPulse_toBank hg]
    have hcut : ReasonsOnly s (unitCut n gap s) := .of_chutes fun _ => rfl
    refine ⟨?_, ?_, ?_, hcut.trans (addUnits_reasons 1 (unitCut n gap s))⟩ <;> rw [addUnits_coins] <;> rfl
  · rw [cutPulse_idle fun line e gap h => hg ⟨line, e, gap, h⟩]
    exact .refl s

theorem returnQueue_items (n : Slot) (s : State) : ItemsKept s (returnQueue n s) := by
  obtain ⟨-, ⟨haccepted, -, hstartup, -, hmeters⟩, -⟩ := returnQueue_spec n s
  refine ⟨haccepted, hmeters, hstartup, ?_⟩
  unfold returnQueue
  split
  · exact .of_chutes fun _ => rfl
  · next k _ =>
    have hset : ReasonsOnly s (s.setQueue n []) := .of_chutes fun _ => rfl
    refine (hset.trans (addUnits_reasons (k + 1) _)).trans (.of_chutes fun c => ?_)
    rw [State.chute, (postBank_same ..).same .coins (by decide), State.chute]

theorem restartMoney_items (n : Slot) (s : State) : ItemsKept s (restartMoney n s) :=
  (cutPulse_items n s).trans (returnQueue_items ..)

theorem restartMoney_queue (n m : Slot) (s : State) :
    (restartMoney n s).queue m = if m = n then [] else s.queue m := by
  obtain ⟨⟨-, -, hqueues⟩, -, -⟩ := returnQueue_spec n (cutPulse n true s)
  rw [State.queue, restartMoney, hqueues, Tab.at_put, cutPulse_queues]
  rfl

theorem forAll_restartMoney (l : List Slot) (s : State) :
    ItemsKept s (forAll l restartMoney s) ∧
      ∀ n, n ∈ l ∨ s.queue n = [] → (forAll l restartMoney s).queue n = [] := by
  induction l generalizing s with
  | nil => exact ⟨.refl s, fun n h => h.resolve_left List.not_mem_nil⟩
  | cons n l ih =>
    obtain ⟨hitems, hempty⟩ := ih (restartMoney n s)
    refine ⟨(restartMoney_items n s).trans hitems, fun m hm => hempty m ?_⟩
    rw [restartMoney_queue]
    by_cases hmn : m = n
    · exact .inr (if_pos hmn)
    · rw [if_neg hmn]
      exact hm.imp_left fun h => (List.mem_cons.1 h).resolve_left hmn

/-- The coin unit at RESTART (R175). -/
theorem restartCoins_spec (s : State) :
    let u := restartCoins s
    u.coins.startup = true ∧ (∀ n, u.queue n = [] ∧ u.generator n = .idle) ∧ u.coins.accepted = s.coins.accepted ∧
      (∀ c, (u.chute c).hostLock = false ∧ (u.chute c).state = (s.chute c).state) ∧ u.coins.meters = s.coins.meters := by
  obtain ⟨hcoins, hreasons⟩ := judgeAllReasons_kept { s with coins := { s.coins with
    startup := true, chutes := Vector.ofFn fun c => { s.coins.chutes.at c with hostLock := false } } }
  obtain ⟨⟨haccepted, hmeters, hstartup, hkept⟩, hempty⟩ := forAll_restartMoney allSlots (restartChutes s)
  have hchutes : (restartChutes s).coins = _ := hcoins
  have hjudged : ReasonsOnly _ (restartChutes s) := hreasons
  intro u
  have hu : u = { forAll allSlots restartMoney (restartChutes s) with coins :=
    { (forAll allSlots restartMoney (restartChutes s)).coins with generators := Tab.all 8 .idle } } := rfl
  rw [hu]
  generalize forAll allSlots restartMoney (restartChutes s) = v at *
  have hchute (c : Chute) : ((v.chute c).hostLock = false ∧ (v.chute c).state = (s.chute c).state) := by
    rw [hkept c, hjudged c]
    have hset : Tab.at (Vector.ofFn fun c => ({ s.coins.chutes.at c with hostLock := false } : ChuteRecord)) c =
        { s.coins.chutes.at c with hostLock := false } := Tab.at_ofFn ..
    exact ⟨(congrArg ChuteRecord.hostLock hset :), (congrArg ChuteRecord.state hset :)⟩
  refine ⟨?_, fun n => ⟨hempty n (.inl (mem_allSlots n)), Tab.at_all ..⟩, ?_, hchute, ?_⟩
  · refine hstartup.trans ?_
    rw [hchutes]
  · refine haccepted.trans ?_
    rw [hchutes]
  · refine hmeters.trans ?_
    rw [hchutes]

end Sys2Proof.Machine

/-! ### The slots at RESTART, once the other blocks are at rest (R41, R188) -/

namespace Sys2Proof.Machine

/-- What the other blocks' restart leaves for the slots: no run on the bus but one that ends discarded, the controls the
host's, no unit waiting or under way, and the monitors DARK. -/
structure AtRest (s : State) : Prop where
  runs : s.bus.sequence = []
  discarded : ∀ x, s.bus.current = some x → x.discard = true
  owner : s.router.owner = .link
  claim : s.router.claim = none
  money : ∀ n, s.queue n = [] ∧ s.generator n = .idle
  dark : ∀ src, (s.monitor src).state = .dark ∧ (s.monitor src).field = none ∧ (s.monitor src).timer = none

theorem AtRest.apart {s : State} (h : AtRest s) (n : Slot) : Apart n s := by
  rw [Apart, h.owner, h.claim]
  exact ⟨nofun, nofun⟩

theorem AtRest.congr {s t : State} (h : AtRest s) (hbus : t.bus = s.bus) (hrouter : t.router = s.router)
    (hcoins : t.coins = s.coins)
    (hdark : ∀ src, (t.monitor src).state = .dark ∧ (t.monitor src).field = none ∧ (t.monitor src).timer = none) :
    AtRest t := by
  obtain ⟨hruns, hdiscarded, howner, hclaim, hmoney, -⟩ := h
  refine ⟨by rw [hbus]; exact hruns, by rw [hbus]; exact hdiscarded, by rw [hrouter]; exact howner,
    by rw [hrouter]; exact hclaim, fun n => ?_, hdark⟩
  rw [State.queue, State.generator, hcoins]
  exact hmoney n

theorem withdrawApply_atRest {s : State} (h : AtRest s) (n : Slot) : withdrawApply n s = s := by
  have hcurrent : (s.bus.current.map fun x =>
      if x.owner = .sequence ∧ x.slot = n then { x with discard := true } else x) = s.bus.current := by
    cases hc : s.bus.current with
    | none => rfl
    | some x =>
      have hx : ({ x with discard := true } : Transaction) = x := by
        rw [← h.discarded x hc]
      rw [Option.map_some, hx, ite_self]
  have hruns := h.runs
  unfold withdrawApply
  rw [hcurrent, hruns, List.filter_nil, ← hruns]

theorem returnQueue_empty {n : Slot} {s : State} (h : s.queue n = []) : returnQueue n s = s := by
  rw [returnQueue, h]
  rfl

/-- The blocks that a slot's restart changes when the others are at rest. -/
def restingBlocks : List Block := [.link, .slots, .monitors, .frame, .reports]

/-- What the restart of slot `n` keeps when the other blocks are at rest. -/
structure SlotRestarts (n : Slot) (s t : State) : Prop where
  rest : AtRest t
  same : SameOutside restingBlocks s t
  posts : Posts [1, 2, 5] s t
  others : Others n s t

theorem SlotRestarts.of_moves {K : List (Fin 11)} {L : List Block} {R : Report → Prop} {n : Slot} {s t : State}
    (hs : AtRest s) (h : Moves K L R n s t) (hK : K ⊆ [1, 2, 5])
    (hL : ∀ b ∈ L, b ∈ restingBlocks) (hm : Block.monitors ∉ L) : SlotRestarts n s t := by
  have hsame : SameOutside restingBlocks s t := h.same.mono hL
  have hmonitors : t.monitors = s.monitors := h.same.same .monitors hm
  refine ⟨hs.congr (hsame.same .bus (by decide)) (hsame.same .router (by decide)) (hsame.same .coins (by decide))
    fun src => ?_, hsame, h.posts.mono hK, h.others⟩
  rw [State.monitor, hmonitors]
  exact hs.dark src

theorem SlotRestarts.trans {n : Slot} {s t u : State} (h : SlotRestarts n s t) (h' : SlotRestarts n t u) :
    SlotRestarts n s u :=
  ⟨h'.rest, h.same.trans h'.same, h.posts.trans h'.posts, h.others.trans h'.others⟩

theorem setSlot_restarts {n : Slot} {s : State} (hs : AtRest s) (r : SlotRecord) : SlotRestarts n s (s.setSlot n r) :=
  .of_moves hs (setSlot_moves (K := []) (R := Report.of n) n r s) (by simp) (by decide) (by decide)

/-- The bus and the coin unit are as they were: there is nothing to withdraw, to cut or to return. -/
theorem leaveSupplied_atRest {n : Slot} {s : State} (hs : AtRest s) (new : SlotState) (cause : SlotCause) :
    (leaveSupplied n new cause s).bus = s.bus ∧ (leaveSupplied n new cause s).coins = s.coins := by
  have hleft : SameOutside [.link, .slots, .reports] s (leftSupplied n new cause s) := by
    rw [leftSupplied, withdrawApply_atRest hs]
    exact (enter_moves (R := fun _ => True)
      (s := s.setSlot n ((s.slot n).powerless.entering new (mismatchOf n s))) (hs.apart n) trivial).same.after
      ((State.setSlot_same ..).mono (by decide)) (by decide)
  have hcoins : (leftSupplied n new cause s).coins = s.coins := hleft.same .coins (by decide)
  have hkept : returnQueue n (cutPulse n true (leftSupplied n new cause s)) = leftSupplied n new cause s := by
    obtain ⟨hqueue, hgen⟩ := hs.money n
    rw [cutPulse_idle (fun line e gap hg => by
      rw [State.generator, hcoins] at hg
      exact nomatch hgen.symm.trans hg)]
    exact returnQueue_empty (by rw [State.queue, hcoins]; exact hqueue)
  rw [leaveSupplied_eq, hkept]
  exact ⟨((supplyOff_same ..).same .bus (by decide)).trans (hleft.same .bus (by decide)),
    ((supplyOff_same ..).same .coins (by decide)).trans hcoins⟩

theorem leaveSupplied_restarts {n : Slot} {s : State} (hs : AtRest s) (new : SlotState) (cause : SlotCause) :
    SlotRestarts n s (leaveSupplied n new cause s) := by
  have hmoves := leaveSupplied_moves (hs.apart n) new cause
  obtain ⟨hbus, hcoins⟩ := leaveSupplied_atRest (n := n) hs new cause
  have hsame : SameOutside restingBlocks s (leaveSupplied n new cause s) := by
    refine ⟨fun b hb => ?_⟩
    by_cases hleft : b ∈ leaveBlocks
    · have hcases : b = .bus ∨ b = .coins := by revert hleft hb; cases b <;> decide
      rcases hcases with rfl | rfl
      · exact hbus
      · exact hcoins
    · exact hmoves.same.same b hleft
  refine ⟨hs.congr hbus (hsame.same .router (by decide)) hcoins fun src => ?_, hsame, hmoves.posts, hmoves.others⟩
  rw [State.monitor, leaveSupplied_monitors (hs.apart n)]
  by_cases hsrc : src = n.source
  · rw [hsrc, Tab.at_put_self]
    exact ⟨rfl, rfl, rfl⟩
  · rw [Tab.at_put, if_neg hsrc]
    exact hs.dark src

theorem enter_restarts {n : Slot} {s : State} (hs : AtRest s) (new : SlotState) (cause : SlotCause) :
    SlotRestarts n s (enter n new cause s) :=
  .of_moves hs (enter_moves (R := fun _ => True) (hs.apart n) trivial) (by decide) (by decide) (by decide)

/-- The state that RESTART brings a slot to (R41). -/
def SlotRecord.restartState (r : SlotRecord) : SlotState :=
  match r.state with
  | .empty => .empty
  | .off => .off
  | .fault => .fault
  | .powering | .held | .booting | .live | .frozen => if r.powerGood then .held else .fault

/-- A slot that leaves the supplied states is in the state it leaves for. -/
theorem leaveSupplied_state (n : Slot) (new : SlotState) (cause : SlotCause) (s : State) :
    ((leaveSupplied n new cause s).slot n).state = new := by
  rw [leaveSupplied_slot]
  rfl

/-- A supplied slot's record with what RESTART clears cleared (R41). -/
def SlotRecord.atRestart (r : SlotRecord) : SlotRecord := { r.powerless with autoPending := false, rereadLevels := true }

theorem restartSupplied_eq (n : Slot) (s : State) :
    let w := s.setSlot n (s.slot n).atRestart
    let v := leaveSupplied n .fault .partRestart w
    restartSupplied n s =
      if (s.slot n).powerGood then (if (s.slot n).state = .held then w else enter n .held .partRestart w)
      else v.setSlot n { v.slot n with moves := lineMoves (s.slot n).powerless.lines .held ++ (v.slot n).moves } := rfl

theorem restartSupplied_spec {n : Slot} {s : State} (hs : AtRest s) :
    SlotRestarts n s (restartSupplied n s) ∧
      ((restartSupplied n s).slot n).state = if (s.slot n).powerGood then .held else .fault := by
  have hset := setSlot_restarts (n := n) hs (s.slot n).atRestart
  have hrecord : (s.setSlot n (s.slot n).atRestart).slot n = (s.slot n).atRestart := State.slot_setSlot_self ..
  rw [restartSupplied_eq]
  generalize s.setSlot n (s.slot n).atRestart = w at hset hrecord ⊢
  dsimp only
  split
  · split
    · next hheld => exact ⟨hset, by rw [hrecord]; exact hheld⟩
    · refine ⟨hset.trans (enter_restarts hset.rest ..), ?_⟩
      rw [enter_slot_self]
      rfl
  · have hleft := hset.trans (leaveSupplied_restarts hset.rest .fault .partRestart)
    have hstate := leaveSupplied_state n .fault .partRestart w
    generalize leaveSupplied n .fault .partRestart w = v at hleft hstate ⊢
    refine ⟨hleft.trans (setSlot_restarts hleft.rest _), ?_⟩
    rw [State.slot_setSlot_self]
    exact hstate

theorem restartSlot_spec {n : Slot} {s : State} (hs : AtRest s) :
    SlotRestarts n s (restartSlot n s) ∧ ((restartSlot n s).slot n).state = (s.slot n).restartState := by
  unfold restartSlot SlotRecord.restartState
  split
  case h_1 hst | h_2 hst | h_3 hst | h_4 hst | h_5 hst =>
    obtain ⟨hrestarts, hstate⟩ := restartSupplied_spec (n := n) hs
    exact ⟨hrestarts, by rw [hst]; exact hstate⟩
  case h_6 hst | h_7 hst | h_8 hst =>
    exact ⟨setSlot_restarts hs _, by rw [State.slot_setSlot_self, hst] <;> exact hst⟩

/-- Every slot at RESTART (R41). -/
theorem restartSlots_spec (l : List Slot) (hl : l.Nodup) {s : State} (hs : AtRest s) :
    AtRest (forAll l restartSlot s) ∧ SameOutside restingBlocks s (forAll l restartSlot s) ∧
      Posts [1, 2, 5] s (forAll l restartSlot s) ∧
      ∀ n, ((forAll l restartSlot s).slot n).state =
        if n ∈ l then (s.slot n).restartState else (s.slot n).state := by
  induction l generalizing s with
  | nil => exact ⟨hs, .refl _ _, .refl _ _, fun n => (if_neg List.not_mem_nil).symm⟩
  | cons m l ih =>
    obtain ⟨hfresh, hl⟩ := List.nodup_cons.1 hl
    obtain ⟨⟨hrest, hsame, hposts, hothers⟩, hstate⟩ := restartSlot_spec (n := m) hs
    obtain ⟨hrest', hsame', hposts', hstate'⟩ := ih hl hrest
    refine ⟨hrest', hsame.trans hsame', hposts.trans hposts', fun n => (hstate' n).trans ?_⟩
    by_cases hn : n = m
    · subst hn
      rw [if_neg hfresh, if_pos List.mem_cons_self]
      exact hstate
    · rw [hothers.slot n hn]
      simp [hn]

end Sys2Proof.Machine

/-! ### RESTART, block by block (O12) -/

namespace Sys2Proof.Machine

/-- The blocks other than the slots, the picture and the profiles, in the order in which RESTART reaches them (R188). -/
def restartedBlocks (s : State) : State :=
  restartMonitors (restartCoins (restartRouter (restartBus (restartController (restartLink (abandonSave s))))))

theorem restartPart_eq (s : State) : restartPart s =
    restartProfiles (restartPicture (forAll allSlots restartSlot (restartedBlocks s))) := rfl

theorem abandonSave_profiles (s : State) :
    (abandonSave s).profiles.working = s.profiles.working ∧ (abandonSave s).profiles.saving = none := by
  unfold abandonSave
  split
  · next h => exact ⟨rfl, h⟩
  · exact ⟨rfl, rfl⟩

/-- The link at RESTART: its start state, but for the notices (R16). -/
theorem restartLink_kept (s : State) :
    (restartLink s).link = { Link.initial s.link.maskDefault with notices := (restartLink s).link.notices } := by
  unfold restartLink post
  split <;> rfl

/-- READY alone is posted (R16). -/
theorem restartLink_ready {s : State} (h : s.link.maskDefault.at 10 = true) :
    (restartLink s).link.notices = [⟨1, .ready true true⟩] := by
  have hmask : ({ s with link := Link.initial s.link.maskDefault } : State).link.mask.at
      (Notice.ready true true).kind = true := h
  rw [restartLink, post, if_pos hmask]
  rfl

theorem restartRouter_posts (s : State) : Posts ownerKinds s (restartRouter s) := by
  unfold restartRouter
  dsimp only
  split
  · exact .start (postInput_posts _) rfl
  · exact .of_eq rfl

/-- The router at RESTART: what it clears, and the inputs, which stand (R156). -/
theorem restartRouter_router (s : State) :
    let r := (restartRouter s).router
    r.owner = .link ∧ r.linkHold = false ∧ r.claim = none ∧ r.workingMap = [] ∧
      r.debounced = s.router.debounced ∧ r.raw = s.router.raw ∧ r.timers = s.router.timers := by
  unfold restartRouter
  dsimp only
  split
  · refine ⟨?_, ?_, ?_, ?_, ?_, ?_, ?_⟩
    all_goals rw [show (postInput _).router = _ from (postInput_same _).same .router (by decide)]
  · exact ⟨rfl, rfl, rfl, rfl, rfl, rfl, rfl⟩

theorem restartMoney_posts (n : Slot) (s : State) : Posts coinKinds s (restartMoney n s) :=
  (cutPulse_posts n s).trans (returnQueue_posts n (cutPulse n true s))

theorem restartChutes_posts (s : State) : Posts coinKinds s (restartChutes s) := by
  unfold restartChutes judgeAllReasons
  exact .start (judgeTogether_posts _ _) rfl

theorem restartCoins_posts (s : State) : Posts coinKinds s (restartCoins s) := by
  have hall : Posts coinKinds s (forAll allSlots restartMoney (restartChutes s)) :=
    (restartChutes_posts s).trans (.forAll restartMoney_posts allSlots (restartChutes s))
  unfold restartCoins
  generalize forAll allSlots restartMoney (restartChutes s) = v at hall ⊢
  exact hall.finish rfl

/-- Whether a monitor takes syncs at RESTART: those of supplied slots and monitor 9 do (R75). -/
def takesAtRestart (s : State) (src : Source) : Bool :=
  if h : src.val < 8 then (s.slot ⟨src.val, h⟩).state.supplied else true

/-- The monitors at RESTART, before the menu is judged. -/
def monitorsRestarted (s : State) : State :=
  { s with monitors := Vector.ofFn fun src => (s.monitor src).restarted (takesAtRestart s src) }

/-- Every monitor is DARK with nothing under way (R75). -/
theorem restartMonitors_dark (s : State) (src : Source) :
    let m := (restartMonitors s).monitor src
    m.state = .dark ∧ m.field = none ∧ m.timer = none := by
  have hmonitors : (restartMonitors s).monitors = (monitorsRestarted s).monitors :=
    (judgeMenu_same _).same .monitors (by decide)
  have hrestarted : (restartMonitors s).monitor src = (s.monitor src).restarted (takesAtRestart s src) := by
    rw [State.monitor, hmonitors]
    exact Tab.at_ofFn ..
  intro m
  rw [show m = _ from hrestarted]
  exact ⟨rfl, rfl, rfl⟩

/-- RESTART up to the bus: the link, the controller and the bus in their restart states, and a save abandoned. -/
theorem restartBus_spec (s : State) :
    let b := restartBus (restartController (restartLink (abandonSave s)))
    SameOutside [.link, .profiles, .free, .co, .bus] s b ∧
      b.link = { Link.initial s.link.maskDefault with notices := b.link.notices } ∧
      (s.link.maskDefault.at 10 = true → b.link.notices = [⟨1, .ready true true⟩]) ∧
      b.bus = { Bus.initial s.now with current := s.bus.current.map fun x => { x with discard := true } } ∧
      b.co = .initial ∧ b.profiles.working = s.profiles.working ∧ b.profiles.saving = none := by
  have habandon := abandonSave_same s
  obtain ⟨hworking, hsaving⟩ := abandonSave_profiles s
  have hstart := restartLink_kept (abandonSave s)
  have hready := restartLink_ready (s := abandonSave s)
  have hlinked : SameOutside [.link, .profiles, .free] s (restartLink (abandonSave s)) :=
    (restartLink_same _).after (habandon.mono (by decide)) (by decide)
  have hprofiles : (restartLink (abandonSave s)).profiles = (abandonSave s).profiles :=
    (restartLink_same _).same .profiles (by decide)
  have hdefault : (abandonSave s).link.maskDefault = s.link.maskDefault :=
    congrArg Link.maskDefault (habandon.same .link (by decide))
  rw [hdefault] at hstart hready
  rw [← hprofiles] at hworking hsaving
  generalize restartLink (abandonSave s) = l at *
  have hnow : l.now = s.now := hlinked.same .now (by decide)
  have hbus : l.bus = s.bus := hlinked.same .bus (by decide)
  refine ⟨(restartBus_same _).after ((restartController_same l).after (hlinked.mono (by decide)) (by decide)) (by decide),
    hstart, hready, ?_, rfl, hworking, hsaving⟩
  rw [← hnow, ← hbus]
  rfl

/-- The blocks once RESTART has reached them, with the slots yet to come. -/
theorem restartedBlocks_spec (s : State) :
    let u := restartedBlocks s
    (AtRest u ∧ SameOutside [.link, .profiles, .free, .co, .bus, .router, .coins, .monitors, .pic, .snd] s u) ∧
      (u.link = { Link.initial s.link.maskDefault with notices := u.link.notices } ∧
        (s.link.maskDefault.at 10 = true → ∃ rest, u.link.notices = ⟨1, .ready true true⟩ :: rest)) ∧
      u.bus = { Bus.initial s.now with current := s.bus.current.map fun x => { x with discard := true } } ∧
      u.co = .initial ∧ (u.profiles.working = s.profiles.working ∧ u.profiles.saving = none) ∧
      (u.router.linkHold = false ∧ u.router.workingMap = [] ∧ u.router.debounced = s.router.debounced ∧
        u.router.raw = s.router.raw ∧ u.router.timers = s.router.timers) ∧
      (u.coins.startup = true ∧ u.coins.accepted = s.coins.accepted ∧ u.coins.meters = s.coins.meters ∧
        ∀ c, (u.chute c).hostLock = false ∧ (u.chute c).state = (s.chute c).state) := by
  obtain ⟨hsame, hlink, hready, hbus, hco, hworking, hsaving⟩ := restartBus_spec s
  unfold restartedBlocks
  generalize restartBus (restartController (restartLink (abandonSave s))) = b at *
  have hrouted := restartRouter_same b
  have hrouter := restartRouter_router b
  have hrouterPosts := restartRouter_posts b
  generalize restartRouter b = r at *
  have hcoined := restartCoins_same r
  have hcoins := restartCoins_spec r
  have hcoinPosts := restartCoins_posts r
  generalize restartCoins r = c at *
  have hmonitored := restartMonitors_same c
  have hdark := restartMonitors_dark c
  generalize restartMonitors c = u at *
  obtain ⟨howner, hhold, hclaim, hmap, hdebounced, hraw, htimers⟩ := hrouter
  obtain ⟨hstartup, hmoney, haccepted, hchutes, hmeters⟩ := hcoins
  have hafter : SameOutside [.link, .router, .coins, .monitors, .pic, .snd] b u :=
    hmonitored.after (hcoined.after (hrouted.mono (m := [.link, .router, .coins]) (by decide)) (by decide) |>.mono
      (by decide)) (by decide)
  have hposts : Posts [3, 5] b u :=
    (hrouterPosts.mono (by decide)).trans ((hcoinPosts.mono (by decide)).trans (.of_same hmonitored (by decide)))
  have hurouter : u.router = r.router := (hmonitored.same .router (by decide)).trans (hcoined.same .router (by decide))
  have hucoins : u.coins = c.coins := hmonitored.same .coins (by decide)
  have hrcoins : r.coins = s.coins := (hrouted.same .coins (by decide)).trans (hsame.same .coins (by decide))
  have hbrouter : b.router = s.router := hsame.same .router (by decide)
  have hubus : u.bus = b.bus := hafter.same .bus (by decide)
  have huprofiles : u.profiles = b.profiles := hafter.same .profiles (by decide)
  have hkept : u.link = { b.link with notices := u.link.notices } := hposts.linkKept
  rw [hbus] at hubus
  rw [hbrouter] at hdebounced hraw htimers
  intro u'
  refine ⟨⟨⟨?_, fun x hx => ?_, ?_, ?_, fun n => ?_, hdark⟩, ?_⟩, ⟨?_, fun h => ?_⟩, hubus,
    (hafter.same .co (by decide)).trans hco, ?_, ?_, ?_⟩
  · rw [hubus]
    rfl
  · rw [hubus] at hx
    obtain ⟨y, -, rfl⟩ := Option.map_eq_some_iff.1 hx
    rfl
  · rw [hurouter]
    exact howner
  · rw [hurouter]
    exact hclaim
  · rw [State.queue, State.generator, hucoins]
    exact hmoney n
  · exact hafter.after (hsame.mono (m := [.link, .profiles, .free, .co, .bus, .router, .coins, .monitors, .pic, .snd])
      (by decide)) (by decide)
  · refine hkept.trans ?_
    rw [hlink]
  · exact hposts.keeps_head (hready h) (by decide)
  · rw [show u'.profiles = _ from huprofiles]
    exact ⟨hworking, hsaving⟩
  · rw [show u'.router = _ from hurouter]
    exact ⟨hhold, hmap, hdebounced, hraw, htimers⟩
  · rw [hrcoins] at haccepted hmeters
    simp only [show u'.coins = _ from hucoins, State.chute]
    simp only [State.chute, hrcoins] at hchutes
    exact ⟨hstartup, haccepted, hmeters, hchutes⟩

end Sys2Proof.Machine

/-! ### The part after RESTART (O12) -/

namespace Sys2Proof.Machine

/-- The picture and the profiles at RESTART, field by field (R123, R141, R188). -/
theorem restartPicture_spec (v : State) :
    let u := restartProfiles (restartPicture v)
    u.frame = .initial ∧
      (u.out.pass = v.out.pass ∧ u.out.cls = v.out.cls ∧ u.out.fout = v.out.fout ∧ u.out.lineCount = v.out.lineCount ∧
        u.out.linePeriod = v.out.linePeriod ∧ u.out.slaved = none ∧ u.out.settle = none) ∧
      (u.snd = .initial ∧ u.pic.level = 256 ∧ u.pic.fade = none ∧ u.pic.overlay = .initial) ∧
      (u.profiles.working = v.profiles.working ∧ u.profiles.loading = true ∧ u.profiles.saving = v.profiles.saving) ∧
      SameOutside [.frame, .out, .pic, .snd, .profiles] v u :=
  ⟨rfl, ⟨rfl, rfl, rfl, rfl, rfl, rfl, rfl⟩, ⟨rfl, rfl, rfl, rfl⟩, ⟨rfl, rfl, rfl⟩,
    (restartProfiles_same _).after ((restartPicture_same v).mono (by decide)) (by decide)⟩

/-- A slot's state after RESTART, whatever the order in which the blocks take theirs (R41). -/
theorem restartPart_slots (s : State) :
    let v := forAll allSlots restartSlot (restartedBlocks s)
    (AtRest v ∧ SameOutside restingBlocks (restartedBlocks s) v ∧ Posts [1, 2, 5] (restartedBlocks s) v) ∧
      ∀ n, (v.slot n).state = (s.slot n).restartState := by
  obtain ⟨⟨hrest, hsame⟩, -⟩ := restartedBlocks_spec s
  obtain ⟨hatRest, hresting, hposts, hstates⟩ := restartSlots_spec allSlots (by decide) hrest
  refine ⟨⟨hatRest, hresting, hposts⟩, fun n => (hstates n).trans ?_⟩
  rw [if_pos (mem_allSlots n), State.slot_congr (hsame.same .slots (by decide))]

/-- Settles O12: the other blocks are brought to rest first, so that a slot's move then finds nothing to withdraw, to
return or to lose. -/
theorem restartStartsThePartAfresh : Obligations.RestartStartsThePartAfresh := by
  unfold Obligations.RestartStartsThePartAfresh
  refine ⟨fun dt tag s b h => request_answered (a := .plain .ok) (check := noPayload) (block := restartBlock)
    (t := { s.tick dt with link := { s.link with buffer := b, restartHeld := true } }) h rfl rfl rfl,
    fun dt s bytes hp hsending => ?_⟩
  have hrestart : sendingRestart s = true := by rw [sendingRestart, hsending]
  have hends : frameEnds (s.tick dt) = restartPart (s.tick dt) := by
    rw [frameEnds, show (s.tick dt).link.sending = _ from hsending]
    exact if_pos rfl
  have heffect : exec (.restartEffect dt) s = .next (conclude (restartPart (s.tick dt))) :=
    (event_powered hp fun s => if sendingRestart s then restartPart (s.tick dt) else s.tick dt).trans
      (by rw [if_pos hrestart])
  have hsent : exec (.frameSent dt) s = .next (conclude (restartPart (s.tick dt))) := by
    rw [exec_frameSent dt hp, hends]
  refine ⟨restartPart (s.tick dt), heffect, hsent, ?_⟩
  rw [restartPart_eq]
  obtain ⟨⟨-, hsame⟩, ⟨hlink, hready⟩, hbus, hco, ⟨hworking, hsaving⟩, ⟨hhold, hmap, hdebounced, hraw, htimers⟩,
    hstartup, haccepted, hmeters, hchutes⟩ := restartedBlocks_spec (s.tick dt)
  obtain ⟨⟨hrest, hresting, hposts⟩, hstates⟩ := restartPart_slots (s.tick dt)
  generalize restartedBlocks (s.tick dt) = w at *
  generalize forAll allSlots restartSlot w = v at *
  obtain ⟨hframe, ⟨hpass, hcls, hfout, hlineCount, hlinePeriod, hslaved, hsettle⟩, ⟨hsnd, hlevel, hfade, hoverlay⟩,
    ⟨huworking, huloading, husaving⟩, hlast⟩ := restartPicture_spec v
  generalize restartProfiles (restartPicture v) = u at *
  have hout : v.out = s.out := (hresting.same .out (by decide)).trans (hsame.same .out (by decide))
  have hvprofiles : v.profiles = w.profiles := hresting.same .profiles (by decide)
  have hulink : u.link = { Link.initial s.link.maskDefault with notices := u.link.notices } := by
    have huv : u.link = v.link := hlast.same .link (by decide)
    have hvw : v.link = { w.link with notices := v.link.notices } := hposts.linkKept
    rw [hlink, ← huv] at hvw
    exact hvw
  have huready (h : s.link.maskDefault.at 10 = true) : ∃ rest, u.link.notices = ⟨1, .ready true true⟩ :: rest := by
    obtain ⟨rest, hrest⟩ := hready h
    rw [show u.link = v.link from hlast.same .link (by decide)]
    exact hposts.keeps_head hrest (by decide)
  have hubus : u.bus = { Bus.initial (s.now + dt) with current := s.bus.current.map fun x => { x with discard := true } } :=
    (hlast.same .bus (by decide)).trans ((hresting.same .bus (by decide)).trans hbus)
  have huco : u.co = .initial := (hlast.same .co (by decide)).trans ((hresting.same .co (by decide)).trans hco)
  have hurouter : u.router = w.router := (hlast.same .router (by decide)).trans (hresting.same .router (by decide))
  have hvrouter : v.router = w.router := hresting.same .router (by decide)
  have hvcoins : v.coins = w.coins := hresting.same .coins (by decide)
  have hucoins : u.coins = v.coins := hlast.same .coins (by decide)
  have huchutes (c : Chute) : (u.chute c).hostLock = false ∧ (u.chute c).state = (s.chute c).state := by
    rw [State.chute, hucoins, hvcoins]
    exact hchutes c
  have humoney (n : Slot) : u.queue n = [] ∧ u.generator n = .idle := by
    rw [State.queue, State.generator, hucoins]
    exact hrest.money n
  have hudark (src : Source) :
      (u.monitor src).state = .dark ∧ (u.monitor src).field = none ∧ (u.monitor src).timer = none := by
    rw [State.monitor, show u.monitors = v.monitors from hlast.same .monitors (by decide)]
    exact hrest.dark src
  have huslots (n : Slot) : (u.slot n).state = (s.slot n).restartState := by
    rw [State.slot_congr (hlast.same .slots (by decide))]
    exact hstates n
  have hcounters : u.counters = s.counters :=
    (hlast.same .counters (by decide)).trans ((hresting.same .counters (by decide)).trans (hsame.same .counters (by decide)))
  have hadapters : u.adapters = s.adapters :=
    (hlast.same .adapters (by decide)).trans ((hresting.same .adapters (by decide)).trans (hsame.same .adapters (by decide)))
  have howner := hrest.owner
  have hclaim := hrest.claim
  rw [hout] at hpass hcls hfout hlineCount hlinePeriod
  rw [hvprofiles] at huworking husaving
  rw [hvrouter] at howner hclaim
  rw [hulink, hubus, huco, hurouter, hucoins, hvcoins]
  exact ⟨rfl, rfl, rfl, rfl, rfl, rfl, rfl, rfl, hulink ▸ huready, rfl, rfl, rfl, rfl, rfl,
    fun n => ⟨Tab.at_all .., Tab.at_all ..⟩, rfl, rfl, rfl, rfl, huslots, hudark, hframe, hpass, hcls, hfout,
    hlineCount, hlinePeriod, hslaved, hsettle, hsnd, hlevel, hfade, hoverlay, howner, hhold, hclaim, hmap, hdebounced,
    hraw, htimers, hstartup, humoney, haccepted, huchutes, hmeters, hcounters, hadapters, huworking.trans hworking,
    huloading, husaving.trans hsaving⟩

end Sys2Proof.Machine

/-! ### Saves and loads of the profile store (O50) -/

namespace Sys2Proof.Machine

/-! #### The store's sections -/

/-- A store into which every section of a snapshot was written passes every check. -/
theorem Store.written_passes (st : Store) (w : Working) (i : SectionId) :
    (st.written w fun _ => .written).passes i = true := by
  unfold Store.passes
  split
  · rfl
  · dsimp only [Store.written]
    rw [Tab.at_ofFn]
    split <;> rfl

/-- A load of good sections gives what was written (R186). -/
theorem Store.load_written (st : Store) (w : Working) :
    (st.written w fun _ => .written).load (fun _ => true) = w := by
  have hslots : ((st.written w fun _ => .written).load fun _ => true).slots = w.slots := by
    refine Tab.ext_at fun n => (Tab.at_ofFn ..).trans ?_
    dsimp only [Store.written]
    rw [Tab.at_ofFn]
    rfl
  exact congrArg (fun x => (⟨w.cabinet, x⟩ : Working)) hslots

/-- A load with no good section gives the factory defaults (R186). -/
theorem Store.load_factory (st : Store) : st.load (fun _ => false) = factoryWorking := by
  have hslots : (st.load fun _ => false).slots = Tab.all 8 factoryProfile :=
    Tab.ext_at fun n => (Tab.at_ofFn ..).trans (Tab.at_all ..).symm
  exact congrArg (fun x => (⟨factoryCabinet, x⟩ : Working)) hslots

theorem goodSection_written (st : Store) (w : Working) :
    goodSection (st.written w fun _ => .written) true [] = fun _ => true :=
  funext fun i => by rw [goodSection, Store.written_passes]; rfl

theorem goodSection_silent (st : Store) (failed : List SectionId) : goodSection st false failed = fun _ => false :=
  funext fun _ => rfl

/-! #### The end of a save -/

/-- A save that verified whole (R185). -/
theorem saveEnds_whole {w : Working} {s : State} (h : s.profiles.saving = some w) :
    saveEnds [] s = post (.store false false []) { s with
      free := s.free + 41
      profiles := { s.profiles with store := s.profiles.store.written w (fun _ => .written), saving := none } } := by
  rw [saveEnds, h]
  rfl

/-! #### The end of a load -/

/-- What a load leaves of the part before its consequences. -/
theorem loadSections_spec (answers : Bool) (failed : List SectionId) (s : State) :
    let good := goodSection s.profiles.store answers failed
    let replaced := allSections.filter fun i => !good i
    let u := loadSections answers failed s
    u.profiles = { s.profiles with working := s.profiles.store.load good, loading := false } ∧
      (s.link.mask.at 7 = true → ∃ e ∈ u.link.notices, e.notice = .store true (!replaced.isEmpty) replaced) := by
  intro good replaced u
  refine ⟨(post_same ..).same .profiles (by decide), fun h => ?_⟩
  obtain ⟨e, he, hn, -⟩ := exists_post (n := .store true (!replaced.isEmpty) replaced)
    (s := { s with profiles := { s.profiles with working := s.profiles.store.load good, loading := false } })
    (fun m => by cases m <;> rfl) h
  exact ⟨e, he, hn⟩

theorem autoPowerLoaded_tells (n : Slot) (s : State) : Tells s (autoPowerLoaded n s) := by
  unfold autoPowerLoaded
  split
  · exact .of (autoPower_posts n s) (by decide)
  · exact .refl _ s

/-- The coin door's judgement at the first load, STARTUP over (R175, R186). -/
def doorOpened (s : State) : State :=
  judgeAllReasons { s with profiles := { s.profiles with loaded := true }, coins := { s.coins with startup := false } }

theorem firstLoad_eq (s : State) :
    firstLoad s = forAll allSlots autoPowerLoaded (startupDecision (forAll allSlots rereadLevels (doorOpened s))) := rfl

theorem doorOpened_tells (s : State) : Tells s (doorOpened s) := by
  unfold doorOpened judgeAllReasons
  exact .start ((judgeTogether_posts _ _).mono (by decide)) rfl

theorem rereadAll_same (s : State) : SameOutside [.slots] s (forAll allSlots rereadLevels s) :=
  .forAll (.refl _ s) fun n u => rereadLevels_same n u

theorem firstLoad_tells (s : State) : Tells s (firstLoad s) := by
  rw [firstLoad_eq]
  refine (doorOpened_tells s).trans (Posts.trans (.of_same (rereadAll_same _) (by decide)) ?_)
  exact ((startupDecision_posts _).mono (by decide)).trans (.forAll autoPowerLoaded_tells ..)

/-- Of the profiles the first load's consequences mark the load alone. -/
theorem firstLoad_profiles (s : State) : (firstLoad s).profiles = { s.profiles with loaded := true } := by
  have hdoor : (doorOpened s).profiles = { s.profiles with loaded := true } :=
    (judgeAllReasons_same _).same .profiles (by decide)
  rw [firstLoad_eq, ← hdoor]
  generalize doorOpened s = d
  have hlast (u : State) : SameOutside [.link, .counters, .slots, .bus, .monitors, .router, .coins, .reports] u
      (forAll allSlots autoPowerLoaded u) := .forAll (.refl _ u) fun n v => autoPowerLoaded_same n v
  exact ((hlast _).same .profiles (by decide)).trans (((startupDecision_same _).same .profiles (by decide)).trans
    ((rereadAll_same d).same .profiles (by decide)))

/-- What follows a load of the sections: the mismatch flags, the chord, and the coin door or the first load (R186). -/
def loadFollowed (before : Cabinet) (s : State) : State :=
  let s := chordAfter before (forAll allSlots recomputeMismatch s)
  if s.profiles.loaded then judgeSettings s else firstLoad s

theorem loadEnds_eq {s : State} (h : s.profiles.loading = true) (answers : Bool) (failed : List SectionId) :
    loadEnds answers failed s = settle (loadFollowed s.cabinet (loadSections answers failed s)) := if_pos h

theorem loadFollowed_spec (before : Cabinet) (s : State) :
    Tells s (loadFollowed before s) ∧ (loadFollowed before s).profiles = { s.profiles with loaded := true } := by
  have hflags : SameOutside [.slots] s (forAll allSlots recomputeMismatch s) :=
    .forAll (.refl _ s) fun n u => recomputeMismatch_same n u
  have hchord : SameOutside [.slots, .router] s (chordAfter before (forAll allSlots recomputeMismatch s)) :=
    (chordAfter_same ..).after (hflags.mono (by decide)) (by decide)
  unfold loadFollowed
  dsimp only
  generalize chordAfter before (forAll allSlots recomputeMismatch s) = u at hchord ⊢
  have hprofiles : u.profiles = s.profiles := hchord.same .profiles (by decide)
  have htold : Tells s u := .of_same hchord (by decide)
  split
  · next hloaded =>
    refine ⟨htold.trans ((judgeTogether_posts _ u).mono (by decide)),
      ((judgeSettings_same u).same .profiles (by decide)).trans ?_⟩
    rw [← hprofiles, ← hloaded]
  · refine ⟨htold.trans (firstLoad_tells u), (firstLoad_profiles u).trans ?_⟩
    rw [hprofiles]

/-- The end of a load (R186): the working copies the sections give, and the STORE notice. -/
theorem loadEnds_spec {s : State} (h : s.profiles.loading = true) (hm : s.link.mask.at 7 = true) (answers : Bool)
    (failed : List SectionId) :
    let good := goodSection s.profiles.store answers failed
    let replaced := allSections.filter fun i => !good i
    let v := loadEnds answers failed s
    v.profiles.working = s.profiles.store.load good ∧ v.profiles.loading = false ∧ v.profiles.loaded = true ∧
      v.profiles.store = s.profiles.store ∧
      ∃ e ∈ v.link.notices, e.notice = .store true (!replaced.isEmpty) replaced := by
  obtain ⟨hsections, hnotice⟩ := loadSections_spec answers failed s
  obtain ⟨e, he, hn⟩ := hnotice hm
  obtain ⟨htold, hfollowed⟩ := loadFollowed_spec s.cabinet (loadSections answers failed s)
  have htold' := htold.trans (settle_tells _)
  have hsettled : (settle (loadFollowed s.cabinet (loadSections answers failed s))).profiles = _ :=
    (settle_same _).same .profiles (by decide)
  intro good replaced v
  have hv : v = settle (loadFollowed s.cabinet (loadSections answers failed s)) := loadEnds_eq h ..
  rw [hfollowed, hsections] at hsettled
  rw [hv]
  generalize settle (loadFollowed s.cabinet (loadSections answers failed s)) = z at *
  rw [hsettled]
  exact ⟨rfl, rfl, rfl, rfl, e, htold'.keeps he (by rw [hn]; exact (by decide : (7 : Fin 11) ∉ toldKinds)), hn⟩

/-! #### The requests and the two ends -/

theorem exec_storeSave (dt : Nat) (tag : Byte) (p : List Byte) (answers : Bool) (s : State) :
    exec (.storeSave dt tag p answers) s = request dt 0x0D tag p noPayload (storeSaveBlock answers) s := rfl

theorem exec_storeLoad (dt : Nat) (tag : Byte) (p : List Byte) (answers : Bool) (s : State) :
    exec (.storeLoad dt tag p answers) s = request dt 0x0E tag p noPayload (storeLoadBlock answers) s := rfl

theorem exec_storeSaveEnd (dt : Nat) (failed : List SectionId) {s : State} (h : s.powered = true) :
    exec (.storeSaveEnd dt failed) s = .next (conclude (saveEnds failed (s.tick dt))) :=
  event_powered h fun s => saveEnds failed (s.tick dt)

theorem exec_profileLoadEnd (dt : Nat) (answers : Bool) (failed : List SectionId) {s : State} (h : s.powered = true) :
    exec (.profileLoadEnd dt answers failed) s = .next (conclude (loadEnds answers failed (s.tick dt))) :=
  event_powered h fun s => loadEnds answers failed (s.tick dt)

/-- A save or a load is in flight (R185). -/
def storeBusy (s : State) : Prop := s.profiles.saving ≠ none ∨ s.profiles.loading = true

theorem storeBusy_iff (s : State) : storeBusy s ↔ (s.profiles.saving.isSome || s.profiles.loading) = true := by
  rw [storeBusy, Bool.or_eq_true, Option.isSome_iff_ne_none]

theorem storeSaveBlock_busy {s : State} (h : storeBusy s) (answers : Bool) (p : List Byte) :
    storeSaveBlock answers s p = unchanged .busy s := if_pos ((storeBusy_iff s).1 h)

theorem storeSaveBlock_free {s : State} (h : ¬storeBusy s) (answers : Bool) (p : List Byte) :
    storeSaveBlock answers s p = if answers then
      unchanged .accepted { s with profiles := { s.profiles with saving := some s.profiles.working } }
    else unchanged .storeFault s := if_neg fun hb => h ((storeBusy_iff s).2 hb)

theorem storeLoadBlock_busy {s : State} (h : storeBusy s ∨ s.co.record ≠ none) (answers : Bool) (p : List Byte) :
    storeLoadBlock answers s p = unchanged .busy s := by
  refine if_pos ?_
  rw [Bool.or_assoc, Bool.or_eq_true, State.inFlight, Option.isSome_iff_ne_none, ← storeBusy_iff]
  exact h.symm

theorem storeLoadBlock_free {s : State} (h : ¬storeBusy s) (hr : s.co.record = none) (answers : Bool) (p : List Byte) :
    storeLoadBlock answers s p = if answers then
      unchanged .accepted { s with profiles := { s.profiles with loading := true } } else unchanged .storeFault s := by
  refine if_neg ?_
  rw [Bool.or_assoc, Bool.or_eq_true, State.inFlight, Option.isSome_iff_ne_none, ← storeBusy_iff]
  exact fun hb => hb.elim (fun hne => hne hr) h

end Sys2Proof.Machine

/-! ### The store's requests, and a save that a load restores (O50) -/

namespace Sys2Proof.Machine

/-- The end of a save that verified whole: the store holds the snapshot, and DONE is posted (R185). -/
theorem saveEnds_spec {w : Working} {s : State} (h : s.profiles.saving = some w) (hm : s.link.mask.at 7 = true) :
    let t := saveEnds [] s
    t.profiles = { s.profiles with store := s.profiles.store.written w (fun _ => .written), saving := none } ∧
      (∃ e ∈ t.link.notices, e.notice = .store false false []) ∧ SameOutside [.link, .profiles, .free] s t := by
  rw [saveEnds_whole h]
  generalize hz : ({ s with
    free := s.free + 41
    profiles := { s.profiles with
      store := s.profiles.store.written w (fun _ => .written), saving := none } } : State) = z
  have hsame : SameOutside [.profiles, .free] s z := by
    rw [← hz]
    exact ((SameOutside.refl [.profiles, .free] s).with_free (x := s.free + 41) (by decide)).with_profiles (by decide)
  have hmask : z.link.mask.at 7 = true := by
    rw [← hz]
    exact hm
  obtain ⟨e, he, hn, -⟩ := exists_post (n := .store false false []) (s := z) (fun m => by cases m <;> rfl) hmask
  refine ⟨((post_same ..).same .profiles (by decide)).trans (by rw [← hz]), ⟨e, he, hn⟩,
    (post_same ..).after (hsame.mono (by decide)) (by decide)⟩

/-- Settles O50: what a save that verified whole leaves in the store passes every check and is the snapshot, section by
section. -/
theorem savesAndLoadsKeepTheWorkingCopies : Obligations.SavesAndLoadsKeepTheWorkingCopies := by
  unfold Obligations.SavesAndLoadsKeepTheWorkingCopies
  refine ⟨fun dt tag answers s b => ?_, fun dt dt' w s u hs hsaving hu hloading hsm hum => ?_⟩
  · intro said busy
    refine ⟨fun h => ?_, fun h => ?_⟩
    · rw [exec_storeSave]
      refine ⟨fun hb => request_unchanged h rfl (storeSaveBlock_busy (s := s.inService dt b) hb ..), fun hb ha => ?_,
        fun hb ha => ?_⟩
      · subst ha
        exact request_unchanged h rfl (storeSaveBlock_free (s := s.inService dt b) hb ..)
      · subst ha
        exact request_answered (a := .plain .accepted)
          (t := { s.inService dt b with profiles := { s.profiles with saving := some s.profiles.working } }) h rfl
          (storeSaveBlock_free (s := s.inService dt b) hb ..) rfl
    · rw [exec_storeLoad]
      refine ⟨fun hb => request_unchanged h rfl (storeLoadBlock_busy (s := s.inService dt b) hb ..), fun hb hr ha => ?_,
        fun hb hr ha => ?_⟩
      · subst ha
        exact request_unchanged h rfl (storeLoadBlock_free (s := s.inService dt b) hb hr ..)
      · subst ha
        exact request_answered (a := .plain .accepted)
          (t := { s.inService dt b with profiles := { s.profiles with loading := true } }) h rfl
          (storeLoadBlock_free (s := s.inService dt b) hb hr ..) rfl
  · obtain ⟨hprofiles, hnotice, hsame⟩ := saveEnds_spec (s := s.tick dt) hsaving hsm
    have hexec := exec_storeSaveEnd dt [] hs
    generalize saveEnds [] (s.tick dt) = t at *
    have hstore : t.profiles.store = s.profiles.store.written w (fun _ => .written) := congrArg Profiles.store hprofiles
    refine ⟨t, hexec, by rw [hprofiles], by rw [hprofiles]; rfl, fun i => ?_, hnotice,
      hsame.after (.mono (l := [.now]) ?_ (by decide)) (by decide), fun hkept => ?_, ?_⟩
    · rw [hstore]
      exact Store.written_passes ..
    · exact (SameOutside.refl _ s).with_now (by decide)
    · obtain ⟨hworking, hdone, hloaded, hstored, hstoreNotice⟩ :=
        loadEnds_spec (s := u.tick dt') hloading hum true []
      have hgood : goodSection (u.tick dt').profiles.store true [] = fun _ => true := by
        rw [show (u.tick dt').profiles.store = _ from hkept.trans hstore]
        exact goodSection_written ..
      rw [hgood] at hworking hstoreNotice
      refine ⟨_, exec_profileLoadEnd dt' true [] hu, hworking.trans ?_, hdone, hloaded, hstored, hstoreNotice⟩
      rw [show (u.tick dt').profiles.store = _ from hkept.trans hstore]
      exact Store.load_written ..
    · obtain ⟨hworking, hdone, -, hstored, hstoreNotice⟩ := loadEnds_spec (s := u.tick dt') hloading hum false []
      rw [goodSection_silent] at hworking hstoreNotice
      exact ⟨_, exec_profileLoadEnd dt' false [] hu, hworking.trans (Store.load_factory _), hdone, hstored,
        hstoreNotice⟩

end Sys2Proof.Machine

/-! ### Polls, read by read (O21) -/

namespace Sys2Proof.Machine

/-- Nothing waits for the bus: no DIP apply, no pass-through run and no poll. -/
structure BusFree (s : State) : Prop where
  sequence : s.bus.sequence = []
  linkRun : s.bus.linkRun = none
  poll : s.bus.waitingPoll = none

theorem BusFree.arbitrate {s : State} (h : BusFree s) : Machine.arbitrate s = s :=
  arbitrate_nothing h.sequence h.poll h.linkRun

theorem BusFree.of_bus {s t : State} (h : BusFree s) (hs : t.bus.sequence = s.bus.sequence)
    (hl : t.bus.linkRun = s.bus.linkRun) (hp : t.bus.waitingPoll = s.bus.waitingPoll) : BusFree t :=
  ⟨hs.trans h.sequence, hl.trans h.linkRun, hp.trans h.poll⟩

/-! #### The poll timer (R47) -/

theorem nextSlot_eq (n : Slot) : nextSlot n = if n.val = 7 then 0 else n + 1 := by
  revert n
  decide

theorem exec_pollTimerExpiry {s : State} (hp : s.powered = true) {t : Nat} (ht : s.bus.pollTimer = some t)
    (hc : s.bus.current = none) (hfree : BusFree s) :
    exec .pollTimerExpiry s = .next (conclude { s with
      now := max s.now t
      bus := { s.bus with
        pollTimer := some (t + 337500)
        position := if s.bus.position.val = 7 then 0 else s.bus.position + 1
        current := some ⟨s.bus.position, .read 0, .poll, max s.now t, false⟩ } }) := by
  have hexpires : pollExpires s = Machine.arbitrate { s with
      now := max s.now t
      bus := { s.bus with
        pollTimer := some (t + 337500)
        waitingPoll := some s.bus.position
        position := nextSlot s.bus.position } } := by
    have hnone : (s.reach t).bus.waitingPoll = none := hfree.poll
    simp only [pollExpires, ht, hnone]
    rfl
  refine (event_powered hp pollExpires).trans (congrArg (fun u => Host.Outcome.next (conclude u)) ?_)
  rw [hexpires, arbitrate_poll (n := s.bus.position) (by exact hc) (by exact hfree.sequence) rfl (by exact hfree.linkRun),
    ← nextSlot_eq, ← hfree.poll]

/-! #### The end of a poll's read (R44, R48) -/

/-- The part when a read is over, its result to be delivered: a read leaves the adapter as it is. -/
def readOver (moment : Nat) (s : State) : State :=
  { s with now := max s.now moment, bus := { s.bus with current := none } }

theorem transactionOver_read (n : Slot) (moment : Nat) (s : State) :
    transactionOver n moment (s.adapter n) s = readOver moment s := by
  rw [transactionOver, put_adapter]
  rfl

/-- The owners of a poll's transactions. -/
def BusOwner.polls : BusOwner → Prop
  | .poll | .pollRevision _ | .pollStatus _ _ => True
  | .sequence | .link => False

theorem deliverResult_poll {o : BusOwner} (ho : o.polls) (n : Slot) (op : BusOp) (began : Nat) (res : TxResult) (s : State) :
    deliverResult ⟨n, op, o, began, false⟩ res s = pollEnds ⟨n, op, o, began, false⟩ res s := by
  cases o with
  | poll | pollRevision kind | pollStatus kind revision => rfl
  | sequence | link => exact ho.elim

section
variable {n : Slot} {c : Fin 256} {o : BusOwner} {began : Nat} {s : State}

theorem exec_pollAnswered (ho : o.polls) (hp : s.powered = true)
    (h : s.bus.current = some ⟨n, .read c, o, began, false⟩) :
    exec (.transactionAnswered (.good none)) s = .next (conclude (settle (arbitrate
      (pollEnds ⟨n, .read c, o, began, false⟩ (.answered (some ((s.adapter n).cells.at c)))
        (readOver (began + 13500) s))))) := by
  rw [exec_answered hp h, ← transactionOver_read n, ← deliverResult_poll ho]
  rfl

theorem exec_pollBadParity (ho : o.polls) (hp : s.powered = true)
    (h : s.bus.current = some ⟨n, .read c, o, began, false⟩)
    (received : Bool) :
    exec (.transactionAnswered (.badParity received)) s = .next (conclude (settle (arbitrate
      (pollEnds ⟨n, .read c, o, began, false⟩ .badAnswer (readOver (began + 13500) s))))) := by
  rw [exec_badParity hp h, ← transactionOver_read n, ← deliverResult_poll ho]
  cases received with
  | false => rfl
  | true => rfl

theorem exec_pollNoAnswer (ho : o.polls) (hp : s.powered = true)
    (h : s.bus.current = some ⟨n, .read c, o, began, false⟩)
    (received : Bool) :
    exec (.answerWindowExpiry received) s = .next (conclude (settle (arbitrate
      (pollEnds ⟨n, .read c, o, began, false⟩ .noAnswer (readOver (began + 54000) s))))) := by
  rw [exec_noAnswer hp h, ← transactionOver_read n, ← deliverResult_poll ho]
  cases received with
  | false => rfl
  | true => rfl

end

/-- A poll's read that changes the bus alone leaves the arbiter and the controller nothing to do. -/
theorem settle_arbitrate_bus {s : State} (hs : Settled s) {b : Bus} (hfree : BusFree { s with bus := b }) :
    settle (arbitrate { s with bus := b }) = { s with bus := b } := by
  rw [hfree.arbitrate]
  exact settle_settled hs

/-! #### What a poll makes of a read of cell 0 (R48, R49) -/

theorem pollMissed_first {n : Slot} {s : State} (h : s.bus.misses.at n = 0) : pollMissed n s = setMisses n 1 s := by
  simp [pollMissed, h]

theorem pollMissed_told {n : Slot} {s : State} (h : 1 ≤ s.bus.misses.at n) (hv : s.bus.views.at n = .absent) :
    pollMissed n s = setMisses n 2 s := by
  have hk : min 2 (s.bus.misses.at n + 1) = 2 := by omega
  simp [pollMissed, hk, setMisses, hv]

theorem pollMissed_second {n : Slot} {s : State} (h : 1 ≤ s.bus.misses.at n) (hv : s.bus.views.at n ≠ .absent) :
    pollMissed n s =
      verdictAbsent n (s.bus.views.at n == .unconfirmed) (setView n .absent (setMisses n 2 s)) := by
  have hk : min 2 (s.bus.misses.at n + 1) = 2 := by omega
  unfold pollMissed
  dsimp only
  rw [hk]
  exact if_pos ⟨Nat.le_refl 2, hv⟩

theorem pollKind_outside {n : Slot} {v : Word16} (h : v.toNat < 1 ∨ 255 < v.toNat) (s : State) : pollKind n v s = s :=
  if_pos h

theorem pollKind_inside {n : Slot} {v : Word16} (h : 1 ≤ v.toNat) (h' : v.toNat ≤ 255) (s : State) :
    pollKind n v s =
      if s.bus.views.at n = .answering ∧ (s.slot n).state ≠ .empty ∧ v.toNat = (s.slot n).kind then setMisses n 0 s
      else beginTransaction n (.read 1) (.pollRevision v.toNat) (setMisses n 0 s) := if_neg (by omega)

end Sys2Proof.Machine

/-! ### Polls that change the bus alone (O21) -/

namespace Sys2Proof.Machine

section
variable {n : Slot} {s : State}

/-- A read of cell 0 answered, bad or missed, where only the bus changes (R48, R49). -/
theorem poll_kind_reads (hp : s.powered = true) (hs : Settled s) (hfree : BusFree s) {began : Nat}
    (hc : s.bus.current = some ⟨n, .read 0, .poll, began, false⟩) :
    let v := ((s.adapter n).cells.at 0).toNat
    let soon := max s.now (began + 13500)
    let gives (b : Bus) : Prop :=
      exec (.transactionAnswered (.good none)) s = .next (conclude { s with now := soon, bus := b })
    let routine : Prop := s.bus.views.at n = .answering ∧ (s.slot n).state ≠ .empty ∧ v = (s.slot n).kind
    (v < 1 ∨ 255 < v → gives { s.bus with current := none }) ∧
      (1 ≤ v → v ≤ 255 → routine → gives { s.bus with current := none, misses := s.bus.misses.put n 0 }) ∧
      (1 ≤ v → v ≤ 255 → ¬routine → gives { s.bus with
        current := some ⟨n, .read 1, .pollRevision v, soon, false⟩, misses := s.bus.misses.put n 0 }) := by
  intro v soon gives routine
  have hexec := exec_pollAnswered (o := .poll) trivial hp hc
  have hgives {b : Bus} (hb : BusFree { s with now := soon, bus := b })
      (hends : pollKind n ((s.adapter n).cells.at 0) (readOver (began + 13500) s) = { s with now := soon, bus := b }) :
      gives b := by
    refine hexec.trans (congrArg (fun u => Host.Outcome.next (conclude u)) ?_)
    refine (congrArg (fun u => settle (arbitrate u)) hends).trans ?_
    exact settle_arbitrate_bus (s := { s with now := soon }) hs hb
  refine ⟨fun h => hgives (hfree.of_bus rfl rfl rfl) (pollKind_outside h _), fun h h' hr => ?_, fun h h' hr => ?_⟩
  · exact hgives (hfree.of_bus rfl rfl rfl) ((pollKind_inside h h' _).trans (if_pos hr))
  · exact hgives (hfree.of_bus rfl rfl rfl) ((pollKind_inside h h' _).trans (if_neg hr))

/-- A read of cell 0 that is missed, where only the bus changes (R49). -/
theorem poll_missed_bus (hp : s.powered = true) (hs : Settled s) (hfree : BusFree s) {began k : Nat}
    (hc : s.bus.current = some ⟨n, .read 0, .poll, began, false⟩)
    (h : pollMissed n (readOver (began + 54000) s) = setMisses n k (readOver (began + 54000) s)) :
    exec (.answerWindowExpiry false) s = .next (conclude { s with
      now := max s.now (began + 54000), bus := { s.bus with current := none, misses := s.bus.misses.put n k } }) := by
  refine (exec_pollNoAnswer (o := .poll) trivial hp hc false).trans
    (congrArg (fun u => Host.Outcome.next (conclude u)) ?_)
  refine (congrArg (fun u => settle (arbitrate u)) h).trans ?_
  exact settle_arbitrate_bus (s := { s with now := max s.now (began + 54000) }) hs (hfree.of_bus rfl rfl rfl)

/-- An answer in bad parity ends the poll (R48). -/
theorem poll_badParity (hp : s.powered = true) (hs : Settled s) (hfree : BusFree s) {c : Fin 256} {o : BusOwner}
    (ho : o.polls) {began : Nat} (hc : s.bus.current = some ⟨n, .read c, o, began, false⟩) (received : Bool) :
    exec (.transactionAnswered (.badParity received)) s = .next (conclude { s with
      now := max s.now (began + 13500), bus := { s.bus with current := none } }) := by
  have hends : pollEnds ⟨n, .read c, o, began, false⟩ .badAnswer (readOver (began + 13500) s) =
      readOver (began + 13500) s := by
    cases o with
    | poll | pollRevision kind | pollStatus kind revision => rfl
    | sequence | link => exact ho.elim
  refine (exec_pollBadParity ho hp hc received).trans (congrArg (fun u => Host.Outcome.next (conclude u)) ?_)
  rw [hends]
  exact settle_arbitrate_bus (s := { s with now := max s.now (began + 13500) }) hs (hfree.of_bus rfl rfl rfl)

/-- A read that identifies the board and is not answered ends the poll, with no miss (R48). -/
theorem poll_identify_unanswered (hp : s.powered = true) (hs : Settled s) (hfree : BusFree s) {c : Fin 256} {o : BusOwner}
    (ho : (∃ kind, o = .pollRevision kind) ∨ ∃ kind revision, o = .pollStatus kind revision) {began : Nat}
    (hc : s.bus.current = some ⟨n, .read c, o, began, false⟩) (received : Bool) :
    exec (.answerWindowExpiry received) s = .next (conclude { s with
      now := max s.now (began + 54000), bus := { s.bus with current := none } }) := by
  have hpolls : o.polls := by rcases ho with ⟨_, rfl⟩ | ⟨_, _, rfl⟩ <;> trivial
  have hends : pollEnds ⟨n, .read c, o, began, false⟩ .noAnswer (readOver (began + 54000) s) =
      readOver (began + 54000) s := by rcases ho with ⟨_, rfl⟩ | ⟨_, _, rfl⟩ <;> rfl
  refine (exec_pollNoAnswer hpolls hp hc received).trans (congrArg (fun u => Host.Outcome.next (conclude u)) ?_)
  rw [hends]
  exact settle_arbitrate_bus (s := { s with now := max s.now (began + 54000) }) hs (hfree.of_bus rfl rfl rfl)

/-- The revision read, the poll goes on with the status (R48). -/
theorem poll_revision_read (hp : s.powered = true) (hs : Settled s) (hfree : BusFree s) {began kind : Nat}
    (hc : s.bus.current = some ⟨n, .read 1, .pollRevision kind, began, false⟩) :
    let soon := max s.now (began + 13500)
    exec (.transactionAnswered (.good none)) s = .next (conclude { s with
      now := soon
      bus := { s.bus with
        current := some ⟨n, .read 2, .pollStatus kind (((s.adapter n).cells.at 1).toNat % 256), soon, false⟩ } }) := by
  intro soon
  refine (exec_pollAnswered (o := .pollRevision kind) trivial hp hc).trans
    (congrArg (fun u => Host.Outcome.next (conclude u)) ?_)
  exact settle_arbitrate_bus (s := { s with now := soon }) hs (hfree.of_bus rfl rfl rfl)

end

/-! #### An ABSENT verdict (R22, R32) -/

/-- The part as the slot manager gives an ABSENT verdict: the miss counted, and the host told. -/
def absentTold (n : Slot) (s : State) : State := setView n .absent (setMisses n 2 s)

/-- The first verdict of an EMPTY slot: all but its notice is the flag (R32). -/
theorem verdictAbsent_empty {n : Slot} {s : State} (h : (s.slot n).state = .empty) :
    verdictAbsent n true s = post (.slot n .empty .absent 0) (s.setSlot n { s.slot n with autoPending := false }) := by
  unfold verdictAbsent
  dsimp only
  rw [if_pos rfl, State.slot_setSlot_self, if_pos h, if_pos rfl]

/-- The record of a slot as its ABSENT verdict finds it: the first verdict clears auto-power pending (R32). -/
def SlotRecord.judgedAbsent (r : SlotRecord) (first : Bool) : SlotRecord :=
  if first then { r with autoPending := false } else r

theorem verdictAbsent_board {n : Slot} {s : State} (h : (s.slot n).state ≠ .empty) (first : Bool) :
    verdictAbsent n first s = removeBoard n .removed (s.setSlot n ((s.slot n).judgedAbsent first)) := by
  cases first with
  | false =>
    have hkept : s.setSlot n (s.slot n) = s := by
      rw [State.setSlot, State.slot, Tab.put_at]
    change (if (s.slot n).state = .empty then s else removeBoard n .removed s) =
      removeBoard n .removed (s.setSlot n (s.slot n))
    rw [hkept, if_neg h]
  | true =>
    unfold verdictAbsent
    dsimp only
    rw [if_pos rfl, State.slot_setSlot_self, if_neg h]
    rfl

/-- The board taken out of a slot that is not supplied, its queue empty (R22). -/
theorem removeBoard_off {n : Slot} {s : State} (h : (s.slot n).state.supplied = false) (hq : s.queue n = [])
    (ha : Apart n s) (cause : SlotCause) :
    removeBoard n cause s = enter n .empty cause (s.setSlot n (s.slot n).boardless) := by
  have hmoves := enter_moves (R := fun _ => True) (s := s.setSlot n (s.slot n).boardless) ha
    (new := .empty) (cause := cause) trivial
  have hcoins : (enter n .empty cause (s.setSlot n (s.slot n).boardless)).coins = s.coins :=
    hmoves.same.same .coins (by decide)
  unfold removeBoard
  rw [if_neg (by rw [h]; exact Bool.false_ne_true)]
  exact returnQueue_empty (by rw [State.queue, hcoins]; exact hq)

end Sys2Proof.Machine

/-! ### ABSENT verdicts (O21) -/

namespace Sys2Proof.Machine

section
variable {n : Slot} {s : State}

/-- A move of a slot that is not current, which the bus stays clear of: the arbiter and the controller leave it at that. -/
theorem Moves.concluded {K : List (Fin 11)} {L : List Block} {t : State} (h : Moves K L (Report.of n) n s t) (hs : Settled s)
    (hfree : BusFree t) (hL : Block.co ∉ L) (hc : s.co.current ≠ some n) :
    Machine.settle (arbitrate t) = { t with reports := [] } := by
  rw [hfree.arbitrate]
  exact h.settle_of hs hL hc

/-- The board of an OFF slot taken out, with what the host and the controller make of it (R22). -/
theorem verdictAbsent_removes (hs : Settled s) (hfree : BusFree s) (hoff : (s.slot n).state = .off) (hq : s.queue n = [])
    (ha : Apart n s) (hc : s.co.current ≠ some n) (first : Bool) :
    let u : State := { verdictAbsent n first s with reports := [] }
    settle (arbitrate (verdictAbsent n first s)) = u ∧
      u.slot n = ((s.slot n).judgedAbsent first).boardless.move .empty ∧
      (s.link.mask.at 1 = true → ∃ e ∈ u.link.notices, e.notice = .slot n .empty .removed 0) ∧
      Others n s u ∧ SameOutside [.link, .slots] s u := by
  have hrecord : (s.setSlot n ((s.slot n).judgedAbsent first)).slot n = (s.slot n).judgedAbsent first :=
    State.slot_setSlot_self ..
  have hstate : ((s.slot n).judgedAbsent first).state.supplied = false := by
    cases first <;> exact (congrArg SlotState.supplied hoff :)
  have hverdict := verdictAbsent_board (s := s) (n := n) (by rw [hoff]; decide) first
  rw [removeBoard_off (by rw [hrecord]; exact hstate) (by exact hq) (by exact ha), hrecord] at hverdict
  have hset := (setSlot_moves (K := slotKinds) (R := Report.of n) n ((s.slot n).judgedAbsent first) s).trans
    (setSlot_moves n ((s.slot n).judgedAbsent first).boardless _)
  have hslot : (verdictAbsent n first s).slot n = ((s.slot n).judgedAbsent first).boardless.move .empty := by
    rw [hverdict]
    exact enterWith_slot ..
  have hnotice (hm : s.link.mask.at 1 = true) :
      ∃ e ∈ (verdictAbsent n first s).link.notices, e.notice = .slot n .empty .removed 0 := by
    rw [hverdict]
    obtain ⟨e, he, hn⟩ := enter_posts (s := (s.setSlot n ((s.slot n).judgedAbsent first)).setSlot n
      ((s.slot n).judgedAbsent first).boardless) (n := n) ha .empty .removed hm
    refine ⟨e, he, hn.trans ?_⟩
    rw [State.slot_setSlot_self]
    rfl
  generalize s.setSlot n ((s.slot n).judgedAbsent first) = w at *
  generalize w.setSlot n ((s.slot n).judgedAbsent first).boardless = w' at *
  have hmoves : Moves slotKinds [.link, .slots, .reports] (Report.of n) n s (verdictAbsent n first s) := by
    rw [hverdict]
    exact (hset.mono (fun _ h => h) (by decide) fun _ h => h).trans
      (enter_moves (hset.apart (by decide) ha) rfl)
  intro u
  have hbus : (verdictAbsent n first s).bus = s.bus := hmoves.same.same .bus (by decide)
  exact ⟨hmoves.concluded hs (hfree.of_bus (by rw [hbus]) (by rw [hbus]) (by rw [hbus])) (by decide) hc, hslot, hnotice,
    ⟨hmoves.others.slot⟩, hmoves.cleared hs (by decide)⟩

/-- The first verdict of a slot without a board (R32). -/
theorem verdictAbsent_first (hs : Settled s) (hfree : BusFree s) (hempty : (s.slot n).state = .empty) :
    let u := verdictAbsent n true s
    settle (arbitrate u) = u ∧ u.slots = s.slots.put n { s.slot n with autoPending := false } ∧
      (s.link.mask.at 1 = true → ∃ e ∈ u.link.notices, e.notice = .slot n .empty .absent 0) ∧
      SameOutside [.link, .slots] s u := by
  intro u
  have hu : u = post (.slot n .empty .absent 0) (s.setSlot n { s.slot n with autoPending := false }) :=
    verdictAbsent_empty hempty
  have hsame : SameOutside [.link, .slots] s u := by
    rw [hu]
    exact (post_same ..).after ((State.setSlot_same ..).mono (by decide)) (by decide)
  have hbus : u.bus = s.bus := hsame.same .bus (by decide)
  have hsettled : Settled u := by
    rw [Settled, show u.co = s.co from hsame.same .co (by decide), show u.reports = s.reports from hsame.same .reports (by decide)]
    exact hs
  refine ⟨?_, ?_, fun hm => ?_, hsame⟩
  · rw [(hfree.of_bus (by rw [hbus]) (by rw [hbus]) (by rw [hbus]) : BusFree u).arbitrate]
    exact settle_settled hsettled
  · rw [hu]
    exact (post_same ..).same .slots (by decide)
  · rw [hu]
    obtain ⟨e, he, hn, -⟩ := exists_post (n := .slot n .empty .absent 0)
      (s := s.setSlot n { s.slot n with autoPending := false }) (fun m => by cases m <;> rfl) hm
    exact ⟨e, he, hn⟩

/-- The part as an ABSENT verdict is given: the read over, the miss counted and the view set. -/
theorem absentTold_readOver (moment : Nat) :
    let a := absentTold n (readOver moment s)
    a.bus = { s.bus with current := none, misses := s.bus.misses.put n 2, views := s.bus.views.put n .absent } ∧
      a.now = max s.now moment ∧ SameOutside [.now, .bus] s a ∧ (Settled s → Settled a) ∧ (BusFree s → BusFree a) :=
  ⟨rfl, rfl, ⟨fun b hb => by cases b <;> first | rfl | exact absurd (by decide) hb⟩, id, fun h => h.of_bus rfl rfl rfl⟩

/-- A second miss of a slot not told ABSENT (R22, R49). -/
theorem poll_missed_second (hp : s.powered = true) {began : Nat}
    (hc : s.bus.current = some ⟨n, .read 0, .poll, began, false⟩) (hm : 1 ≤ s.bus.misses.at n)
    (hv : s.bus.views.at n ≠ .absent) :
    exec (.answerWindowExpiry false) s = .next (conclude (settle (arbitrate
      (verdictAbsent n (s.bus.views.at n == .unconfirmed) (absentTold n (readOver (began + 54000) s)))))) := by
  refine (exec_pollNoAnswer (o := .poll) trivial hp hc false).trans ?_
  exact congrArg (fun u => Host.Outcome.next (conclude (settle (arbitrate u))))
    (pollMissed_second (s := readOver (began + 54000) s) hm hv)

/-- The ABSENT verdict of an OFF slot, from the poll's second miss on (R22, R49). -/
theorem poll_removes (hp : s.powered = true) (hs : Settled s) (hfree : BusFree s) {began : Nat}
    (hcur : s.bus.current = some ⟨n, .read 0, .poll, began, false⟩) (hmiss : 1 ≤ s.bus.misses.at n)
    (hview : s.bus.views.at n ≠ .absent) (hoff : (s.slot n).state = .off) (hc : s.co.current ≠ some n) (ha : Apart n s)
    (hq : s.queue n = []) :
    ∃ u, exec (.answerWindowExpiry false) s = .next (conclude u) ∧ u.now = max s.now (began + 54000) ∧
      u.bus = { s.bus with
        current := none, misses := s.bus.misses.put n 2, views := s.bus.views.put n .absent } ∧
      (u.slot n).state = .empty ∧ (u.slot n).kind = 0 ∧ (u.slot n).revision = 0 ∧ (u.slot n).status = 0 ∧
      (u.slot n).mismatch = false ∧
      (s.bus.views.at n = .unconfirmed → (u.slot n).autoPending = false) ∧
      (s.link.mask.at 1 = true → ∃ e ∈ u.link.notices, e.notice = .slot n .empty .removed 0) ∧
      (∀ m, m ≠ n → u.slot m = s.slot m) ∧ SameOutside [.now, .link, .slots, .bus] s u := by
  obtain ⟨hbus, hnow, hsame, hset, hfr⟩ := absentTold_readOver (n := n) (s := s) (began + 54000)
  obtain ⟨hsettle, hslot, hnotice, hothers, hafter⟩ := verdictAbsent_removes (s := absentTold n (readOver (began + 54000) s))
    (n := n) (hset hs) (hfr hfree) (by exact hoff) (by exact hq) (by exact ha) (by exact hc)
    (s.bus.views.at n == .unconfirmed)
  refine ⟨_, (poll_missed_second hp hcur hmiss hview).trans (congrArg (fun u => Host.Outcome.next (conclude u)) hsettle),
    (hafter.same .now (by decide)).trans hnow, (hafter.same .bus (by decide)).trans hbus, ?_, ?_, ?_, ?_, ?_, fun hv => ?_,
    hnotice, hothers.slot, hafter.after (hsame.mono (by decide)) (by decide)⟩
  · rw [hslot]; rfl
  · rw [hslot]; rfl
  · rw [hslot]; rfl
  · rw [hslot]; rfl
  · rw [hslot]; rfl
  · rw [hslot, hv]
    rfl

/-- The first verdict of an EMPTY slot, from the poll's second miss on (R32; log 27). -/
theorem poll_absent_first (hp : s.powered = true) (hs : Settled s) (hfree : BusFree s) {began : Nat}
    (hcur : s.bus.current = some ⟨n, .read 0, .poll, began, false⟩) (hmiss : 1 ≤ s.bus.misses.at n)
    (hview : s.bus.views.at n = .unconfirmed) (hempty : (s.slot n).state = .empty) :
    ∃ u, exec (.answerWindowExpiry false) s = .next (conclude u) ∧ u.now = max s.now (began + 54000) ∧
      u.bus = { s.bus with
        current := none, misses := s.bus.misses.put n 2, views := s.bus.views.put n .absent } ∧
      u.slots = s.slots.put n { s.slot n with autoPending := false } ∧
      (s.link.mask.at 1 = true → ∃ e ∈ u.link.notices, e.notice = .slot n .empty .absent 0) ∧
      SameOutside [.now, .link, .slots, .bus] s u := by
  obtain ⟨hbus, hnow, hsame, hset, hfr⟩ := absentTold_readOver (n := n) (s := s) (began + 54000)
  obtain ⟨hsettle, hslots, hnotice, hafter⟩ := verdictAbsent_first (s := absentTold n (readOver (began + 54000) s)) (n := n)
    (hset hs) (hfr hfree) (by exact hempty)
  have hexec := poll_missed_second hp hcur hmiss (by rw [hview]; decide)
  rw [hview] at hexec
  exact ⟨_, hexec.trans (congrArg (fun u => Host.Outcome.next (conclude u)) hsettle),
    (hafter.same .now (by decide)).trans hnow, (hafter.same .bus (by decide)).trans hbus, hslots, hnotice,
    hafter.after (hsame.mono (by decide)) (by decide)⟩

end

end Sys2Proof.Machine

/-! ### PRESENT verdicts and kind changes: the pieces (O21) -/

namespace Sys2Proof.Machine

section
variable {n : Slot} {s : State}

/-! #### The status of an answered poll (R48) -/

theorem poll_status_read (hp : s.powered = true) {began kind revision : Nat}
    (hc : s.bus.current = some ⟨n, .read 2, .pollStatus kind revision, began, false⟩) :
    exec (.transactionAnswered (.good none)) s = .next (conclude (settle (arbitrate
      (takeStatus n ((s.adapter n).cells.at 2) (giveVerdict n kind revision (readOver (began + 13500) s)))))) :=
  exec_pollAnswered (o := .pollStatus kind revision) trivial hp hc

/-- The part as a PRESENT verdict, a kind change or a confirmation is given: the read over, and the view set. -/
def presentTold (n : Slot) (moment : Nat) (s : State) : State := setView n .answering (readOver moment s)

theorem presentTold_spec (n : Slot) (moment : Nat) (s : State) :
    let p := presentTold n moment s
    p.bus = { s.bus with current := none, views := s.bus.views.put n .answering } ∧ p.now = max s.now moment ∧
      SameOutside [.now, .bus] s p ∧ (Settled s → Settled p) ∧ (BusFree s → BusFree p) :=
  ⟨rfl, rfl, ⟨fun b hb => by cases b <;> first | rfl | exact absurd (by decide) hb⟩, id, fun h => h.of_bus rfl rfl rfl⟩

theorem giveVerdict_present {kind revision moment : Nat} (h : (s.slot n).state = .empty) :
    giveVerdict n kind revision (readOver moment s) = verdictPresent n kind revision (presentTold n moment s) := if_pos h

/-- The slot as a kind change has its board removed: auto-power pending is cleared (log 27). -/
def kindChanging (n : Slot) (s : State) : State := s.setSlot n { s.slot n with autoPending := false }

theorem giveVerdict_kindChanged {kind revision moment : Nat} (h : (s.slot n).state ≠ .empty) (hk : kind ≠ (s.slot n).kind) :
    giveVerdict n kind revision (readOver moment s) =
      boardFound n kind revision .kindChanged (settle (removeBoard n .removed (kindChanging n (presentTold n moment s)))) :=
  (if_neg h).trans (if_pos hk)

theorem giveVerdict_confirms {kind revision moment : Nat} (h : (s.slot n).state ≠ .empty) (hk : kind = (s.slot n).kind)
    (hv : s.bus.views.at n = .unconfirmed) :
    giveVerdict n kind revision (readOver moment s) = autoPowerVerdict n (presentTold n moment s) :=
  (if_neg h).trans ((if_neg fun hne => hne hk).trans (if_pos hv))

theorem autoPowerVerdict_waits (h : (s.slot n).autoPending = false ∨ s.profiles.loaded = false) :
    autoPowerVerdict n s = s := by
  refine if_neg ?_
  rw [Bool.and_eq_true]
  rintro ⟨hpending, hloaded⟩
  rcases h with h | h
  · exact Bool.false_ne_true (h.symm.trans hpending)
  · exact Bool.false_ne_true (h.symm.trans hloaded)

theorem autoPowerVerdict_acts (h : (s.slot n).autoPending = true) (hl : s.profiles.loaded = true) :
    autoPowerVerdict n s = autoPower n s := by
  refine if_pos ?_
  rw [h, hl]
  rfl

/-! #### The status taken, and the end of the step -/

theorem takeStatus_eq (v : Word16) (h : (s.slot n).state ≠ .empty) :
    takeStatus n v s = s.setSlot n { s.slot n with status := v } := if_neg h

/-- What the poll's end leaves: the status taken, the arbiter's choice, and the reports let pass. -/
def statusTaken (n : Slot) (v : Word16) (s : State) : State := { arbitrate (takeStatus n v s) with reports := [] }

theorem statusTaken_slot (v : Word16) (h : (s.slot n).state ≠ .empty) :
    (statusTaken n v s).slot n = { s.slot n with status := v } := by
  have hslots : (statusTaken n v s).slots = (takeStatus n v s).slots := (arbitrate_same _).same .slots (by decide)
  rw [State.slot_congr hslots, takeStatus_eq v h]
  exact State.slot_setSlot_self ..

theorem statusTaken_kept (v : Word16) : SameOutside [.slots, .bus, .reports] s (statusTaken n v s) := by
  have harb := (arbitrate_same (takeStatus n v s)).mono (m := [.slots, .bus, .reports]) (by decide)
  exact SameOutside.with_reports (harb.after ((takeStatus_same n v s).mono (by decide)) (by decide)) (by decide)

theorem statusTaken_bus (v : Word16) (h : BusFree s) : (statusTaken n v s).bus = s.bus := by
  have hbus : (takeStatus n v s).bus = s.bus := (takeStatus_same n v s).same .bus (by decide)
  have hfree : BusFree (takeStatus n v s) := h.of_bus (by rw [hbus]) (by rw [hbus]) (by rw [hbus])
  rw [statusTaken, hfree.arbitrate]
  exact hbus

theorem takeStatus_moves {K : List (Fin 11)} {R : Report → Prop} (v : Word16) :
    Moves K [.slots] R n s (takeStatus n v s) := by
  by_cases h : (s.slot n).state = .empty
  · rw [show takeStatus n v s = s from if_pos h]
    exact .refl
  · rw [takeStatus_eq v h]
    exact setSlot_moves ..

/-- A move of a slot that is not current, with the status taken after it. -/
theorem statusTaken_concludes {K : List (Fin 11)} {L L' : List Block} {x : State} (h : Moves K L (Report.of n) n s x)
    (hs : Settled s) (hc : s.co.current ≠ some n) (v : Word16)
    (hL : ∀ b ∈ L, b ∈ L' ∨ b = .reports) (hslots : Block.slots ∈ L') (hbus : Block.bus ∈ L') (hco : Block.co ∉ L') :
    settle (arbitrate (takeStatus n v x)) = statusTaken n v x ∧ Others n s (statusTaken n v x) ∧
      SameOutside L' s (statusTaken n v x) := by
  have hstatus : Moves K (L' ++ [.reports]) (Report.of n) n s (takeStatus n v x) :=
    (h.mono (fun _ h => h) (fun b hb => by simpa using hL b hb) fun _ h => h).trans
      ((takeStatus_moves v).mono (fun _ h => h) (by simpa using hslots) fun _ h => h)
  have hchosen : Moves K (L' ++ [.reports]) (Report.of n) n s (arbitrate (takeStatus n v x)) :=
    hstatus.trans ((Moves.of_same (L := [.bus]) (arbitrate_same _) (by decide) (by decide) (by decide)).mono
      (fun _ h => h) (by simpa using hbus) fun _ h => h)
  exact ⟨hchosen.settle_of hs (by simpa using hco) hc, ⟨hchosen.others.slot⟩,
    hchosen.cleared hs fun b hb => by simpa using hb⟩

/-! #### A board recorded (R21, R23, R24) -/

/-- The expected kind is set and is not the board's (R24). -/
def wrongKind (g : General) (kind : Nat) : Bool := decide (g.expectedKind ≠ 0 ∧ g.expectedKind ≠ kind)

/-- The record of a slot that enters OFF with a board. -/
def foundRecord (n : Slot) (kind revision : Nat) (s : State) : SlotRecord :=
  { s.slot n with kind := kind, revision := revision, mismatch := wrongKind (s.profile n).general kind }

theorem boardFound_eq (n : Slot) (kind revision : Nat) (cause : SlotCause) (s : State) :
    boardFound n kind revision cause s = enter n .off cause (s.setSlot n (foundRecord n kind revision s)) := by
  have hmismatch : mismatchOf n (s.setSlot n { s.slot n with kind := kind, revision := revision }) =
      wrongKind (s.profile n).general kind := by
    rw [mismatchOf_eq, State.slot_setSlot_self]
    rfl
  unfold boardFound
  dsimp only
  rw [hmismatch, State.slot_setSlot_self]
  refine congrArg (enter n .off cause) ?_
  rw [State.setSlot, State.setSlot]
  dsimp only
  rw [Tab.put_put]
  rfl

theorem boardFound_moves (ha : Apart n s) (kind revision : Nat) (cause : SlotCause) :
    Moves slotKinds [.link, .slots, .reports] (Report.of n) n s (boardFound n kind revision cause s) := by
  rw [boardFound_eq]
  exact ((setSlot_moves n (foundRecord n kind revision s) s).mono (fun _ h => h) (by decide) fun _ h => h).trans
    (enter_moves (s := s.setSlot n (foundRecord n kind revision s)) ha rfl)

theorem boardFound_slot (n : Slot) (kind revision : Nat) (cause : SlotCause) (s : State) :
    (boardFound n kind revision cause s).slot n = (foundRecord n kind revision s).move .off := by
  rw [boardFound_eq]
  exact enterWith_slot ..

theorem boardFound_notice (ha : Apart n s) (kind revision : Nat) (cause : SlotCause) (hm : s.link.mask.at 1 = true) :
    ∃ e ∈ (boardFound n kind revision cause s).link.notices, e.notice = .slot n .off cause kind := by
  rw [boardFound_eq]
  obtain ⟨e, he, hn⟩ := enter_posts (n := n) (s := s.setSlot n (foundRecord n kind revision s)) ha .off cause hm
  refine ⟨e, he, hn.trans ?_⟩
  rw [State.slot_setSlot_self]
  rfl

end

end Sys2Proof.Machine

/-! ### PRESENT verdicts, confirmations and kind changes (O21) -/

namespace Sys2Proof.Machine

section
variable {n : Slot} {s : State}

/-- A PRESENT verdict of an EMPTY slot without auto power (R21, R24, R48). -/
theorem poll_fills (hp : s.powered = true) (hs : Settled s) (hfree : BusFree s) {began kind revision : Nat}
    (hcur : s.bus.current = some ⟨n, .read 2, .pollStatus kind revision, began, false⟩)
    (hempty : (s.slot n).state = .empty) (hauto : (s.slot n).autoPending = false ∨ s.profiles.loaded = false)
    (hc : s.co.current ≠ some n) (ha : Apart n s) :
    ∃ u, exec (.transactionAnswered (.good none)) s = .next (conclude u) ∧ u.now = max s.now (began + 13500) ∧
      u.bus = { s.bus with current := none, views := s.bus.views.put n .answering } ∧
      (u.slot n).state = .off ∧ (u.slot n).kind = kind ∧ (u.slot n).revision = revision ∧
      (u.slot n).status = (s.adapter n).cells.at 2 ∧ (u.slot n).autoPending = (s.slot n).autoPending ∧
      (u.slot n).mismatch = wrongKind (s.profile n).general kind ∧
      (s.link.mask.at 1 = true → ∃ e ∈ u.link.notices, e.notice = .slot n .off .present kind) ∧
      (∀ m, m ≠ n → u.slot m = s.slot m) ∧ SameOutside [.now, .link, .slots, .bus] s u := by
  obtain ⟨hbus, hnow, hsame, hset, hfr⟩ := presentTold_spec n (began + 13500) s
  have hexec := poll_status_read hp hcur
  rw [giveVerdict_present hempty] at hexec
  have hmoves := boardFound_moves (s := presentTold n (began + 13500) s) (n := n) ha kind revision .present
  have hslot := boardFound_slot n kind revision .present (presentTold n (began + 13500) s)
  have hnotice (hm : s.link.mask.at 1 = true) :=
    boardFound_notice (s := presentTold n (began + 13500) s) (n := n) ha kind revision .present hm
  have hprofiles := hmoves.same.same .profiles (by decide)
  have hbusKept : (boardFound n kind revision .present (presentTold n (began + 13500) s)).bus = _ :=
    hmoves.same.same .bus (by decide)
  have hwaits : verdictPresent n kind revision (presentTold n (began + 13500) s) =
      boardFound n kind revision .present (presentTold n (began + 13500) s) := by
    refine autoPowerVerdict_waits (hauto.imp (fun h => ?_) fun h => ?_)
    · rw [hslot]
      exact h
    · exact (congrArg Profiles.loaded hprofiles).trans h
  rw [hwaits] at hexec
  generalize boardFound n kind revision .present (presentTold n (began + 13500) s) = x at *
  have hoff : (x.slot n).state ≠ .empty := by rw [hslot]; exact SlotState.noConfusion
  obtain ⟨hsettle, hothers, hafter⟩ := statusTaken_concludes hmoves (hset hs) (by exact hc) ((s.adapter n).cells.at 2)
    (L' := [.now, .link, .slots, .bus]) (by decide) (by decide) (by decide) (by decide)
  have hu := statusTaken_slot ((s.adapter n).cells.at 2) hoff
  have hubus := statusTaken_bus (n := n) (s := x) ((s.adapter n).cells.at 2)
    ((hfr hfree).of_bus (by rw [hbusKept]) (by rw [hbusKept]) (by rw [hbusKept]))
  have hkept := statusTaken_kept (n := n) (s := x) ((s.adapter n).cells.at 2)
  refine ⟨statusTaken n ((s.adapter n).cells.at 2) x, hexec.trans (congrArg (fun u => Host.Outcome.next (conclude u)) hsettle),
    ?_, hubus.trans (hbusKept.trans hbus), ?_, ?_, ?_, ?_, ?_, ?_, fun hm => ?_, hothers.slot,
    hafter.after (hsame.mono (by decide)) (by decide)⟩
  · exact (hkept.same .now (by decide)).trans ((hmoves.same.same .now (by decide)).trans hnow)
  · rw [hu, hslot]; rfl
  · rw [hu, hslot]; rfl
  · rw [hu, hslot]; rfl
  · rw [hu]
  · rw [hu, hslot]; rfl
  · rw [hu, hslot]; rfl
  · rw [show (statusTaken n _ x).link = x.link from hkept.same .link (by decide)]
    exact hnotice hm

/-- A confirmation without auto power takes the status alone (R48). -/
theorem poll_confirms (hp : s.powered = true) (hs : Settled s) (hfree : BusFree s) {began kind revision : Nat}
    (hcur : s.bus.current = some ⟨n, .read 2, .pollStatus kind revision, began, false⟩)
    (hboard : (s.slot n).state ≠ .empty) (hkind : kind = (s.slot n).kind) (hview : s.bus.views.at n = .unconfirmed)
    (hauto : (s.slot n).autoPending = false ∨ s.profiles.loaded = false) :
    exec (.transactionAnswered (.good none)) s = .next (conclude { s with
      now := max s.now (began + 13500)
      slots := s.slots.put n { s.slot n with status := (s.adapter n).cells.at 2 }
      bus := { s.bus with current := none, views := s.bus.views.put n .answering } }) := by
  refine (poll_status_read hp hcur).trans (congrArg (fun u => Host.Outcome.next (conclude u)) ?_)
  rw [giveVerdict_confirms hboard hkind hview, autoPowerVerdict_waits (by exact hauto),
    takeStatus_eq _ (by exact hboard)]
  have hfree' : BusFree ((presentTold n (began + 13500) s).setSlot n
      { (presentTold n (began + 13500) s).slot n with status := (s.adapter n).cells.at 2 }) := hfree.of_bus rfl rfl rfl
  rw [hfree'.arbitrate]
  exact settle_settled hs

/-! #### A kind change (R23) -/

theorem withdrawApply_idle (hseq : s.bus.sequence = []) (hcur : s.bus.current = none) : withdrawApply n s = s := by
  unfold withdrawApply
  rw [hseq, hcur, List.filter_nil, Option.map_none, ← hseq, ← hcur]

theorem leaveSupplied_idleBus (hseq : s.bus.sequence = []) (hcur : s.bus.current = none) (new : SlotState)
    (cause : SlotCause) : (leaveSupplied n new cause s).bus = s.bus := by
  have hleft : (leftSupplied n new cause s).bus = s.bus := by
    rw [leftSupplied, withdrawApply_idle hseq hcur, enter_bus]
    rfl
  rw [leaveSupplied_eq]
  exact ((supplyOff_same ..).same .bus (by decide)).trans (((returnQueue_same ..).same .bus (by decide)).trans
    (((cutPulse_same ..).same .bus (by decide)).trans hleft))

/-- The blocks that a board taken out of its slot changes. -/
def removedBlocks : List Block := [.link, .slots, .bus, .monitors, .frame, .coins]

/-- What is left when the board of slot `n` has been taken out, and the controller has let it pass (R22). -/
structure BoardGone (n : Slot) (s w : State) : Prop where
  settled : Settled w
  record : (w.slot n).autoPending = (s.slot n).autoPending ∧ (w.slot n).lastSig = none ∧ (w.slot n).parkedSig = none
  supplied : (s.slot n).state.supplied = true →
    ((w.slot n).runUp = false ∧ (w.slot n).pgWindow = none ∧ (w.slot n).bootWindow = none) ∧
      (w.monitor n.source).state = .dark ∧ (w.monitor n.source).taking = false
  queue : w.queue n = []
  bus : w.bus = s.bus
  link : LinkKept s w
  others : Others n s w
  same : SameOutside removedBlocks s w

/-- The board of a slot that is not supplied, whatever its queue holds. -/
theorem removeBoard_unsupplied (h : (s.slot n).state.supplied = false) (cause : SlotCause) :
    removeBoard n cause s = returnQueue n (enter n .empty cause (s.setSlot n (s.slot n).boardless)) :=
  if_neg (by rw [h]; exact Bool.false_ne_true)

theorem removeBoard_gone (hs : Settled s) (hseq : s.bus.sequence = []) (hcur : s.bus.current = none) (ha : Apart n s)
    (hc : s.co.current ≠ some n) (cause : SlotCause) : BoardGone n s (settle (removeBoard n cause s)) := by
  have hsettled {w : State} (hco : w.co = s.co) : Settled { w with reports := [] } := by
    rw [Settled]
    exact ⟨(congrArg Controller.record hco).trans hs.1, rfl⟩
  cases hsup : (s.slot n).state.supplied with
  | true =>
    have hleave : removeBoard n cause s = leaveSupplied n .empty cause s := if_pos hsup
    have hleft := leaveSupplied_left hs hc ha .empty cause
    have hbus := leaveSupplied_idleBus (n := n) hseq hcur .empty cause
    have hco : (leaveSupplied n .empty cause s).co = s.co :=
      (leaveSupplied_moves ha .empty cause).same.same .co (by decide)
    have hset := leaveSupplied_settle hs hc ha .empty cause
    rw [hleave]
    rw [hset] at hleft ⊢
    generalize leaveSupplied n .empty cause s = w at *
    refine ⟨hsettled hco, ?_, fun _ => ⟨?_, ?_⟩, hleft.queue_self, hbus, hleft.posts.linkKept, hleft.others,
      hleft.same.mono (by decide)⟩
    · rw [hleft.slot]
      exact ⟨rfl, rfl, rfl⟩
    · rw [hleft.slot]
      exact ⟨rfl, rfl, rfl⟩
    · rw [hleft.monitor_self]
      exact ⟨rfl, rfl⟩
  | false =>
    have hentered : Moves slotKinds [.link, .slots, .reports] (Report.of n) n s
        (enter n .empty cause (s.setSlot n (s.slot n).boardless)) :=
      ((setSlot_moves n (s.slot n).boardless s).mono (fun _ h => h) (by decide) fun _ h => h).trans
        (enter_moves (s := s.setSlot n (s.slot n).boardless) ha rfl)
    have hslot : (enter n .empty cause (s.setSlot n (s.slot n).boardless)).slot n = (s.slot n).boardless.move .empty :=
      enterWith_slot ..
    rw [removeBoard_unsupplied hsup]
    generalize enter n .empty cause (s.setSlot n (s.slot n).boardless) = x at *
    have hreturned : Leaves n x (returnQueue n x) := .of_coins (returnQueue_same ..) (returnQueue_posts ..)
    have hmoves : Moves [1, 2, 5] leaveBlocks (Report.of n) n s (returnQueue n x) :=
      (hentered.mono (by decide) (by decide) fun _ h => h).trans (hreturned.mono (by decide) (fun _ h => h) fun _ h => h)
    obtain ⟨⟨-, -, hqueues⟩, -⟩ := returnQueue_spec n x
    have hslots : (returnQueue n x).slots = x.slots := (returnQueue_same n x).same .slots (by decide)
    have hxbus : (returnQueue n x).bus = x.bus := (returnQueue_same n x).same .bus (by decide)
    rw [← State.slot_congr hslots] at hslot
    rw [hmoves.settle_of hs (by decide) hc]
    generalize returnQueue n x = w at *
    refine ⟨hsettled (hmoves.same.same .co (by decide)), ?_, fun h => absurd (hsup.symm.trans h) Bool.false_ne_true, ?_,
      hxbus.trans (hentered.same.same .bus (by decide)), hmoves.posts.linkKept, ⟨hmoves.others.slot⟩,
      hmoves.cleared hs (by decide)⟩
    · change (w.slot n).autoPending = _ ∧ (w.slot n).lastSig = none ∧ (w.slot n).parkedSig = none
      rw [hslot]
      exact ⟨rfl, rfl, rfl⟩
    · change w.coins.queues.at n = []
      rw [hqueues]
      exact Tab.at_put_self ..

end

end Sys2Proof.Machine

/-! ### A kind change (O21) -/

namespace Sys2Proof.Machine

section
variable {n : Slot} {s : State}

/-- A poll that finds a board of another kind: the old one removed, the new one recorded (R23). -/
theorem poll_kindChanges (hp : s.powered = true) (hs : Settled s) (hfree : BusFree s) {began kind revision : Nat}
    (hcur : s.bus.current = some ⟨n, .read 2, .pollStatus kind revision, began, false⟩) (hc : s.co.current ≠ some n)
    (ha : Apart n s) (hboard : (s.slot n).state ≠ .empty) (hkind : kind ≠ (s.slot n).kind) :
    ∃ u, (exec (.transactionAnswered (.good none)) s = .next (conclude u) ∧ u.now = max s.now (began + 13500) ∧
        (u.slot n).kind = kind ∧ (u.slot n).status = (s.adapter n).cells.at 2 ∧ ∀ m, m ≠ n → u.slot m = s.slot m) ∧
      (u.slot n).state = .off ∧ (u.slot n).revision = revision ∧
      (u.slot n).mismatch = wrongKind (s.profile n).general kind ∧
      (u.slot n).autoPending = false ∧ (u.slot n).lastSig = none ∧ (u.slot n).parkedSig = none ∧ u.queue n = [] ∧
      ((s.slot n).state.supplied = true →
        (u.slot n).runUp = false ∧ (u.slot n).pgWindow = none ∧ (u.slot n).bootWindow = none ∧
        (u.monitor n.source).state = .dark ∧ (u.monitor n.source).taking = false) ∧
      u.bus = { s.bus with current := none, views := s.bus.views.put n .answering } ∧
      (s.link.mask.at 1 = true → ∃ e ∈ u.link.notices, e.notice = .slot n .off .kindChanged kind) ∧
      SameOutside [.now, .link, .slots, .bus, .monitors, .frame, .coins] s u := by
  obtain ⟨hbus, hnow, hsame, hset, hfr⟩ := presentTold_spec n (began + 13500) s
  have hexec := poll_status_read hp hcur
  rw [giveVerdict_kindChanged hboard hkind] at hexec
  have hrecord : (kindChanging n (presentTold n (began + 13500) s)).slot n = { s.slot n with autoPending := false } :=
    State.slot_setSlot_self ..
  have hchanging : SameOutside [.now, .slots, .bus] s (kindChanging n (presentTold n (began + 13500) s)) :=
    (State.setSlot_same ..).after (hsame.mono (by decide)) (by decide)
  have hothers : Others n s (kindChanging n (presentTold n (began + 13500) s)) :=
    (setSlot_others ..).after (.of_same hsame (by decide))
  have hgone := removeBoard_gone (s := kindChanging n (presentTold n (began + 13500) s)) (n := n) (hset hs)
    (by exact hfree.sequence) rfl (by exact ha) (by exact hc) .removed
  have hkbus : (kindChanging n (presentTold n (began + 13500) s)).bus =
      { s.bus with current := none, views := s.bus.views.put n .answering } := rfl
  have hknow : (kindChanging n (presentTold n (began + 13500) s)).now = max s.now (began + 13500) := rfl
  generalize kindChanging n (presentTold n (began + 13500) s) = k at *
  obtain ⟨hwsettled, ⟨hauto, hlast, hparked⟩, hsupplied, hqueue, hwbus, hlink, hwothers, hwsame⟩ := hgone
  have hklink : k.link = s.link := hchanging.same .link (by decide)
  have hmask : (settle (removeBoard n .removed k)).link.mask = s.link.mask := by
    rw [← hklink]
    exact (congrArg Link.mask hlink :)
  generalize settle (removeBoard n .removed k) = w at *
  have hrouter : w.router = s.router := (hwsame.same .router (by decide)).trans (hchanging.same .router (by decide))
  have hco : w.co = s.co := (hwsame.same .co (by decide)).trans (hchanging.same .co (by decide))
  have hprofiles : w.profiles = s.profiles := (hwsame.same .profiles (by decide)).trans (hchanging.same .profiles (by decide))
  have hprofile : w.profile n = s.profile n := by rw [State.profile, hprofiles, State.profile]
  have hwapart : Apart n w := by
    rw [Apart, hrouter]
    exact ha
  have hmoves := boardFound_moves hwapart kind revision .kindChanged
  have hslot := boardFound_slot n kind revision .kindChanged w
  have hnotice (hm : s.link.mask.at 1 = true) :=
    boardFound_notice hwapart kind revision .kindChanged (by rw [hmask]; exact hm)
  have hxbus : (boardFound n kind revision .kindChanged w).bus = w.bus := hmoves.same.same .bus (by decide)
  generalize boardFound n kind revision .kindChanged w = x at *
  rw [hrecord] at hauto hsupplied
  obtain ⟨hsettle, hxothers, hafter⟩ := statusTaken_concludes hmoves hwsettled (by rw [hco]; exact hc)
    ((s.adapter n).cells.at 2) (L' := [.now, .link, .slots, .bus, .monitors, .frame, .coins]) (by decide) (by decide)
    (by decide) (by decide)
  have hu := statusTaken_slot (n := n) (s := x) ((s.adapter n).cells.at 2) (by rw [hslot]; exact SlotState.noConfusion)
  have hxfree : BusFree x := hfree.of_bus (by rw [hxbus, hwbus, hkbus]) (by rw [hxbus, hwbus, hkbus])
    (by rw [hxbus, hwbus, hkbus])
  have hubus := statusTaken_bus (n := n) ((s.adapter n).cells.at 2) hxfree
  have hkept := statusTaken_kept (n := n) (s := x) ((s.adapter n).cells.at 2)
  have hukept : SameOutside [.link, .slots, .bus, .reports] w (statusTaken n ((s.adapter n).cells.at 2) x) :=
    hkept.after (hmoves.same.mono (by decide)) (by decide)
  rw [hslot] at hu
  generalize statusTaken n ((s.adapter n).cells.at 2) x = u at *
  refine ⟨u, ⟨hexec.trans (congrArg (fun u => Host.Outcome.next (conclude u)) hsettle), ?_, ?_, ?_,
    (hxothers.after (hwothers.after hothers)).slot⟩, ?_, ?_, ?_, ?_, ?_, ?_, ?_, fun h => ?_, ?_, fun hm => ?_, ?_⟩
  · exact (hukept.same .now (by decide)).trans ((hwsame.same .now (by decide)).trans hknow)
  · rw [hu]; rfl
  · rw [hu]
  · rw [hu]; rfl
  · rw [hu]; rfl
  · rw [hu, ← hprofile]; rfl
  · rw [hu]
    exact hauto
  · rw [hu]
    exact hlast
  · rw [hu]
    exact hparked
  · rw [State.queue, show u.coins = w.coins from hukept.same .coins (by decide)]
    exact hqueue
  · obtain ⟨⟨hrun, hpg, hboot⟩, hdark, htaking⟩ := hsupplied h
    rw [State.monitor, show u.monitors = w.monitors from hukept.same .monitors (by decide), hu]
    exact ⟨hrun, hpg, hboot, hdark, htaking⟩
  · rw [hubus, hxbus, hwbus, hkbus]
  · rw [show u.link = x.link from hkept.same .link (by decide)]
    exact hnotice hm
  · exact hafter.after (hwsame.after (hchanging.mono (by decide)) (by decide)) (by decide)

end

end Sys2Proof.Machine

/-! ### Auto power at a verdict, and the settling of O21 -/

namespace Sys2Proof.Machine

section
variable {n : Slot} {s : State}

theorem goneOn_board (r : SlotRecord) (p : SlotProfile) (now : Nat) :
    (goneOn r p now).kind = r.kind ∧ (goneOn r p now).autoPending = r.autoPending := by
  unfold goneOn
  split
  · split
    · exact ⟨rfl, rfl⟩
    · exact ⟨rfl, rfl⟩
  · exact ⟨rfl, rfl⟩

/-- The slot as auto power has looked at it: it is no longer pending (R32). -/
def autoJudged (n : Slot) (s : State) : State := s.setSlot n { s.slot n with autoPending := false }

theorem autoJudged_slot (n : Slot) (s : State) : (autoJudged n s).slot n = { s.slot n with autoPending := false } :=
  State.slot_setSlot_self ..

theorem autoPower_eq (n : Slot) (s : State) :
    autoPower n s =
      if (s.slot n).state = .off ∧ (s.slot n).mismatch = false ∧ (s.profile n).general.autoPower = true then
        enterPowering n .autoPower (autoJudged n s) else autoJudged n s := by
  have hrecord := autoJudged_slot n s
  unfold autoPower
  dsimp only
  change (if ((autoJudged n s).slot n).state = .off ∧ ((autoJudged n s).slot n).mismatch = false ∧
    (s.profile n).general.autoPower = true then enterPowering n .autoPower (autoJudged n s) else autoJudged n s) = _
  rw [hrecord]

theorem autoJudged_moves {K : List (Fin 11)} {R : Report → Prop} : Moves K [.slots] R n s (autoJudged n s) :=
  setSlot_moves ..

theorem autoPower_moves (ho : s.router.owner ≠ .slot n) :
    Moves slotKinds powerBlocks (Report.of n) n s (autoPower n s) := by
  have hjudged : Moves slotKinds powerBlocks (Report.of n) n s (autoJudged n s) :=
    autoJudged_moves.mono (fun _ h => h) (by decide) fun _ h => h
  rw [autoPower_eq]
  split
  · exact hjudged.trans ((enterPowering_moves (s := autoJudged n s) ho .autoPower).mono (fun _ h => h) (fun _ h => h)
      fun _ h => h.of)
  · exact hjudged

/-- A verdict's slot, OFF with its board recorded, as auto power finds it. -/
structure BoardKnown (n : Slot) (kind : Nat) (s b : State) : Prop where
  moves : Moves slotKinds [.link, .slots, .reports] (Report.of n) n s b
  state : (b.slot n).state = .off
  board : (b.slot n).kind = kind
  mismatch : (b.slot n).mismatch = wrongKind (s.profile n).general kind
  powerGood : (b.slot n).powerGood = (s.slot n).powerGood

/-- The slot once auto power has acted on it: POWERING, or with power-good already seen HELD or BOOTING (R26, R32). -/
theorem enterPowering_auto (hoff : (s.slot n).autoPending = false) :
    let x := enterPowering n .autoPower s
    ((x.slot n).kind = (s.slot n).kind ∧ (x.slot n).autoPending = false ∧
        (x.slot n).lineHigh = (s.profile n).general.lineHigh) ∧
      ((s.slot n).powerGood = false →
        (x.slot n).state = .powering ∧ (x.slot n).runUp = true ∧ (x.slot n).pgWindow = some (s.now + 27000000)) ∧
      ((s.slot n).powerGood = true → (x.slot n).state = if (s.profile n).dips.apply then .held else .booting) := by
  intro x
  have hslot : x.slot n = _ := enterPowering_slot n .autoPower s
  cases hgood : (s.slot n).powerGood with
  | false =>
    rw [hgood, if_neg Bool.false_ne_true] at hslot
    rw [hslot]
    exact ⟨⟨rfl, hoff, rfl⟩, fun _ => ⟨rfl, rfl, congrArg (fun d => some (s.now + d)) (ms_eq 1000)⟩,
      fun h => absurd h Bool.false_ne_true⟩
  | true =>
    rw [hgood, if_pos rfl] at hslot
    obtain ⟨hkind, hauto⟩ := goneOn_board ((s.slot n).powered s.now (s.profile n).general.lineHigh).heldGood (s.profile n) s.now
    obtain ⟨-, -, hline, -⟩ := goneOn_kept ((s.slot n).powered s.now (s.profile n).general.lineHigh).heldGood (s.profile n)
      s.now
    rw [hslot]
    refine ⟨⟨hkind, hauto.trans hoff, hline⟩, fun h => absurd h.symm Bool.false_ne_true, fun _ => ?_⟩
    refine (goneOn_state _ _ _ rfl).trans ?_
    have hrun : ((s.slot n).powered s.now (s.profile n).general.lineHigh).heldGood.runUp = true := rfl
    rw [hrun]
    cases (s.profile n).dips.apply <;> rfl

/-- What auto power makes of a known board, with the status taken after it (R32). -/
theorem autoPower_known {kind : Nat} {b : State} (hb : BoardKnown n kind s b) (hs : Settled s) (ha : Apart n s)
    (hc : s.co.current ≠ some n) (v : Word16) :
    let g := (s.profile n).general
    let wrong := wrongKind g kind
    let u := statusTaken n v (autoPower n b)
    settle (arbitrate (takeStatus n v (autoPower n b))) = u ∧ u.now = s.now ∧
      ((u.slot n).kind = kind ∧ (u.slot n).status = v ∧ (u.slot n).autoPending = false) ∧ (∀ m, m ≠ n → u.slot m = s.slot m) ∧
      (wrong = true ∨ g.autoPower = false →
        (u.slot n).state = .off ∧ (u.slot n).mismatch = wrong ∧ SameOutside [.link, .slots, .bus] s u) ∧
      (wrong = false → g.autoPower = true → (s.slot n).powerGood = false →
        (u.slot n).state = .powering ∧ (u.slot n).runUp = true ∧ (u.slot n).pgWindow = some (s.now + 27000000) ∧
        (s.link.mask.at 1 = true → ∃ e ∈ u.link.notices, e.notice = .slot n .powering .autoPower kind)) ∧
      (wrong = false → g.autoPower = true → (s.slot n).powerGood = true →
        (u.slot n).state = (if (s.profile n).dips.apply then .held else .booting)) ∧
      (wrong = false → g.autoPower = true → (u.monitor n.source).taking = true ∧ (u.slot n).lineHigh = g.lineHigh) ∧
      SameOutside [.link, .slots, .bus, .monitors, .coins] s u := by
  intro g wrong
  have hbprofiles : b.profiles = s.profiles := hb.moves.same.same .profiles (by decide)
  have hbrouter : b.router = s.router := hb.moves.same.same .router (by decide)
  have hbnow : b.now = s.now := hb.moves.same.same .now (by decide)
  have hbprofile : b.profile n = s.profile n := by rw [State.profile, hbprofiles, State.profile]
  have howner : b.router.owner ≠ .slot n := by
    rw [hbrouter]
    exact ha.1
  have hjudged := autoJudged_slot n b
  have hmoves : Moves slotKinds powerBlocks (Report.of n) n s (autoPower n b) :=
    (hb.moves.mono (fun _ h => h) (by decide) fun _ h => h).trans (autoPower_moves howner)
  obtain ⟨hsettle, hothers, hsame⟩ := statusTaken_concludes hmoves hs hc v
    (L' := [.link, .slots, .bus, .monitors, .coins]) (by decide) (by decide) (by decide) (by decide)
  have hquiet (h : wrong = true ∨ g.autoPower = false) : autoPower n b = autoJudged n b := by
    rw [autoPower_eq, if_neg]
    rw [hb.mismatch, hbprofile]
    rintro ⟨-, hright, hauto⟩
    rcases h with h | h
    · exact Bool.false_ne_true (hright.symm.trans h)
    · exact Bool.false_ne_true (h.symm.trans hauto)
  have hacts (h : wrong = false) (h' : g.autoPower = true) :
      autoPower n b = enterPowering n .autoPower (autoJudged n b) := by
    rw [autoPower_eq, if_pos]
    rw [hb.mismatch, hbprofile]
    exact ⟨hb.state, h, h'⟩
  have hpower := enterPowering_auto (n := n) (s := autoJudged n b) (by rw [hjudged])
  obtain ⟨⟨hkind, hauto, hline⟩, hlow, hhigh⟩ := hpower
  have hmonitors : (enterPowering n .autoPower (autoJudged n b)).monitors = b.monitors.put n.source
      { b.monitor n.source with taking := true } := (enterPowering_monitors (s := autoJudged n b) howner .autoPower).1
  have hnotice (hgood : ((autoJudged n b).slot n).powerGood = false) (hm : b.link.mask.at 1 = true) :=
    enterPowering_tells_host (s := autoJudged n b) .autoPower hgood hm
  rw [hjudged] at hkind hlow hhigh hnotice
  dsimp only at hkind hlow hhigh hnotice
  rw [hb.powerGood] at hlow hhigh hnotice
  rw [hb.board] at hkind hnotice
  have hmask : b.link.mask = s.link.mask := (congrArg Link.mask hb.moves.posts.linkKept :)
  have hkept := statusTaken_kept (n := n) (s := autoPower n b) v
  intro u
  have hunow : u.now = s.now := (hkept.same .now (by decide)).trans (hmoves.same.same .now (by decide))
  refine ⟨hsettle, hunow, ?_⟩
  by_cases hact : wrong = false ∧ g.autoPower = true
  · obtain ⟨hright, hset⟩ := hact
    have hno : ¬(wrong = true ∨ g.autoPower = false) := by simp [hright, hset]
    have hx := hacts hright hset
    have humonitors : u.monitors = (autoPower n b).monitors := hkept.same .monitors (by decide)
    have hulink : u.link = (autoPower n b).link := hkept.same .link (by decide)
    rw [hx] at humonitors hulink
    have hu (hne : ((enterPowering n .autoPower (autoJudged n b)).slot n).state ≠ .empty) :
        u.slot n = { (enterPowering n .autoPower (autoJudged n b)).slot n with status := v } := by
      rw [← hx]
      exact statusTaken_slot v (by rw [hx]; exact hne)
    have htaking : (u.monitor n.source).taking = true := by
      rw [State.monitor, humonitors, hmonitors, Tab.at_put_self]
    have hprofile : (autoJudged n b).profile n = s.profile n := hbprofile
    have hnow : (autoJudged n b).now = s.now := hbnow
    rw [hprofile] at hline hhigh
    rw [hnow] at hlow
    rw [hmask] at hnotice
    rw [← hulink] at hnotice
    generalize enterPowering n .autoPower (autoJudged n b) = x at hu hkind hauto hline hlow hhigh
    cases hgood : (s.slot n).powerGood with
    | false =>
      obtain ⟨hstate, hrun, hwindow⟩ := hlow hgood
      rw [hu (by rw [hstate]; exact SlotState.noConfusion)]
      exact ⟨⟨hkind, rfl, hauto⟩, hothers.slot, fun h => absurd h hno,
        fun _ _ _ => ⟨hstate, hrun, hwindow, hnotice hgood⟩, fun _ _ h => absurd h Bool.false_ne_true,
        fun _ _ => ⟨htaking, hline⟩, hsame⟩
    | true =>
      have hstate := hhigh hgood
      rw [hu (by rw [hstate]; split <;> exact SlotState.noConfusion)]
      exact ⟨⟨hkind, rfl, hauto⟩, hothers.slot, fun h => absurd h hno,
        fun _ _ h => absurd h.symm Bool.false_ne_true, fun _ _ _ => hstate, fun _ _ => ⟨htaking, hline⟩, hsame⟩
  · have hno : wrong = true ∨ g.autoPower = false := by
      cases hw : wrong with
      | true => exact .inl rfl
      | false => exact .inr (Bool.eq_false_iff.2 fun h => hact ⟨hw, h⟩)
    have hx := hquiet hno
    have hnarrow : Moves slotKinds [.link, .slots, .reports] (Report.of n) n s (autoPower n b) := by
      rw [hx]
      exact hb.moves.trans (autoJudged_moves.mono (fun _ h => h) (by decide) fun _ h => h)
    obtain ⟨-, -, hsame'⟩ := statusTaken_concludes hnarrow hs hc v (L' := [.link, .slots, .bus]) (by decide) (by decide)
      (by decide) (by decide)
    have hu : u.slot n = { (autoJudged n b).slot n with status := v } := by
      rw [← hx]
      exact statusTaken_slot v (by rw [hx, hjudged]; exact ne_of_eq_of_ne hb.state SlotState.noConfusion)
    rw [hjudged] at hu
    rw [hu]
    exact ⟨⟨hb.board, rfl, rfl⟩, hothers.slot, fun _ => ⟨hb.state, hb.mismatch, hsame'⟩,
      fun h h' => absurd ⟨h, h'⟩ hact, fun h h' => absurd ⟨h, h'⟩ hact, fun h h' => absurd ⟨h, h'⟩ hact, hsame⟩

end

end Sys2Proof.Machine

/-! ### The polls together (O21) -/

namespace Sys2Proof.Machine

section
variable {n : Slot} {s : State}

theorem boardFound_known (ha : Apart n s) (kind revision : Nat) (cause : SlotCause) :
    BoardKnown n kind s (boardFound n kind revision cause s) := by
  have hslot := boardFound_slot n kind revision cause s
  refine ⟨boardFound_moves ha kind revision cause, ?_, ?_, ?_, ?_⟩
  · rw [hslot]; rfl
  · rw [hslot]; rfl
  · rw [hslot]; rfl
  · rw [hslot]; rfl

/-- The verdict of a slot with auto power pending hands a known board to auto power (R32). -/
theorem giveVerdict_auto {moment kind revision : Nat} (ha : Apart n s)
    (h : (s.slot n).state = .empty ∨ ((s.slot n).state = .off ∧ kind = (s.slot n).kind ∧
      (s.slot n).mismatch = wrongKind (s.profile n).general kind ∧ s.bus.views.at n = .unconfirmed))
    (hpending : (s.slot n).autoPending = true) (hloaded : s.profiles.loaded = true) :
    ∃ b, BoardKnown n kind (presentTold n moment s) b ∧ giveVerdict n kind revision (readOver moment s) = autoPower n b := by
  rcases h with hempty | ⟨hoff, hkind, hmismatch, hview⟩
  · have hknown := boardFound_known (s := presentTold n moment s) (n := n) ha kind revision .present
    refine ⟨_, hknown, (giveVerdict_present hempty).trans (autoPowerVerdict_acts ?_ ?_)⟩
    · rw [boardFound_slot]
      exact hpending
    · exact (congrArg Profiles.loaded (hknown.moves.same.same .profiles (by decide))).trans hloaded
  · exact ⟨presentTold n moment s, ⟨.refl, hoff, hkind.symm, hmismatch, rfl⟩,
      (giveVerdict_confirms (by rw [hoff]; exact SlotState.noConfusion) hkind hview).trans
        (autoPowerVerdict_acts (by exact hpending) (by exact hloaded))⟩

end

/-- Settles O21: each read of a poll by its result, each verdict by what the slot manager makes of it. -/
theorem pollsJudgePresence : Obligations.PollsJudgePresence := by
  intro n s hp hs hseq hlink hpoll
  have hfree : BusFree s := ⟨hseq, hlink, hpoll⟩
  refine ⟨fun t ht hc => exec_pollTimerExpiry hp ht hc hfree, fun began hc hm => ?_,
    fun began hc hm hv hoff hcur ha hq => poll_removes hp hs hfree hc hm hv hoff hcur ha hq,
    fun began kind revision hc hempty hauto hcur ha => poll_fills hp hs hfree hc hempty hauto hcur ha,
    fun began hc => ?_, fun began kind hc => poll_revision_read hp hs hfree hc, fun began c o hc ho received => ?_,
    fun began kind revision hc hcur ha => ?_⟩
  · exact poll_missed_bus hp hs hfree hc (pollMissed_first (s := readOver (began + 54000) s) hm)
  · obtain ⟨houtside, hroutine, hgoes⟩ := poll_kind_reads hp hs hfree hc
    exact ⟨houtside, hroutine, hgoes, fun received => poll_badParity (o := .poll) hp hs hfree trivial hc received,
      fun hm hv => poll_missed_bus hp hs hfree hc (pollMissed_told (s := readOver (began + 54000) s) hm hv),
      fun hm hv hempty => poll_absent_first hp hs hfree hc hm hv hempty⟩
  · have hpolls : o.polls := by rcases ho with ⟨_, rfl⟩ | ⟨_, _, rfl⟩ <;> trivial
    exact ⟨poll_badParity hp hs hfree hpolls hc received, poll_identify_unanswered hp hs hfree ho hc received⟩
  · intro soon g wrong found
    refine ⟨fun hboard hkind => poll_kindChanges hp hs hfree hc hcur ha hboard hkind,
      fun hboard hkind hview hauto => poll_confirms hp hs hfree hc hboard hkind hview hauto,
      fun hcase hpending hloaded => ?_⟩
    obtain ⟨b, hknown, hverdict⟩ := giveVerdict_auto (moment := began + 13500) (revision := revision) ha hcase hpending hloaded
    obtain ⟨-, hnow, htold, hset, -⟩ := presentTold_spec n (began + 13500) s
    have hexec := poll_status_read hp hc
    rw [hverdict] at hexec
    obtain ⟨hsettle, hunow, ⟨hukind, hustatus, huauto⟩, hothers, hstays, hpowers, hgoes, htaking, hsame⟩ :=
      autoPower_known hknown (hset hs) (by exact ha) (by exact hcur) ((s.adapter n).cells.at 2)
    refine ⟨_, ⟨hexec.trans (congrArg (fun u => Host.Outcome.next (conclude u)) hsettle), hunow.trans hnow, hukind, hustatus,
      hothers⟩, huauto, fun h => ?_, hpowers, hgoes, htaking, hsame.after (htold.mono (by decide)) (by decide)⟩
    obtain ⟨hstate, hmismatch, hquiet⟩ := hstays h
    exact ⟨hstate, hmismatch, hquiet.after (htold.mono (by decide)) (by decide)⟩

end Sys2Proof.Machine
